-- ==== Sys2Proof/Word.lean ====
section
/-! DEFINITION. The byte and the fixed-width words the host sees (R4, R5). -/
namespace Sys2Proof

/-- One byte of a packet, a slot, a frame or an image (R4). -/
abbrev Byte := BitVec 8

/-- A 32-bit register or latch word (R11). -/
abbrev Word32 := BitVec 32

/-- A 16-bit flag word a command returns and clears (R11, R12). -/
abbrev Word16 := BitVec 16

end Sys2Proof
end

