-- ==== Sys2Proof/Packet.lean ====
section
/-! DEFINITION. A command packet as a queue delivers it (Table 03-7), and the operands of the event rows that are records. -/
namespace Sys2Proof

/-- One further packet of a chain: its header fields and the bytes after its header (R81). -/
structure ChainPart where
  flags    : Nat
  session  : Nat
  sequence : Nat
  /-- the header's LENGTH field -/
  length   : Nat
  tag      : Nat
  target   : Nat
  /-- every byte that follows the 16-byte header -/
  body     : List Byte
  deriving DecidableEq, Repr

/-- A command packet (Table 03-7), with the queue that carried it and the further packets of its chain.  The row of the
opcode table stands for the OPCODE field. -/
structure Packet where
  /-- submission queue 0-7 that carried the packet -/
  queue    : Nat
  /-- HOST_TAG, 32 bits -/
  tag      : Nat
  /-- TARGET, 16 bits -/
  target   : Nat
  /-- FLAGS, 8 bits (Table 03-8) -/
  flags    : Nat
  /-- SESSION, 8 bits -/
  session  : Nat
  /-- SEQUENCE, 32 bits -/
  sequence : Nat
  /-- the header's LENGTH field, 16 bits -/
  length   : Nat
  /-- every byte that follows the 16-byte header: parameters, then the MAC when SESSION_MAC is set -/
  body     : List Byte
  /-- the further packets of a chain, in order (R81) -/
  rest     : List ChainPart := []
  deriving DecidableEq, Repr

/-- What an input shows, with how many samples in a row have shown it (R236). -/
structure Sampled (α : Type) where
  value  : α
  stable : Nat
  deriving DecidableEq, Repr

/-- A PTP message as a port receives it: over Ethernet (IEEE 1588 Annex E), or over UDP (Annex C). -/
structure PtpMessage where
  annexE : Bool
  bytes  : List Byte
  deriving DecidableEq, Repr

end Sys2Proof
end

