-- ==== Sys2Proof/Syntax.lean ====
section
/-! DEFINITION. The commands of the block: one constructor per row of spec/opcode_table.json.  A host-command row carries
the packet that a queue delivered (Table 03-7); an event row carries what the world decides about the event. -/
namespace Sys2Proof

/-- A command of the block. DESIGN CHOICE (log 90). -/
inductive Instr where
  /-- SQ_TAIL_WRITE, R76. -/
  | sqTailWrite (queue : Nat) (index : Nat) (slots : List (List Byte))
  /-- CQ_HEAD_WRITE, R80. -/
  | cqHeadWrite (queue : Nat) (index : Nat)
  /-- SQ_FLUSH_WRITE, R95. -/
  | sqFlushWrite (queue : Nat) (value : Nat)
  /-- QUEUE_ENABLE, R75. -/
  | queueEnable (queue : Nat)
  /-- QUEUE_DISABLE, R75. -/
  | queueDisable (queue : Nat)
  /-- EQ_ENABLE, R88. -/
  | eqEnable
  /-- EQ_DISABLE, R75. -/
  | eqDisable
  /-- EQ_HEAD_WRITE, R88. -/
  | eqHeadWrite (index : Nat)
  /-- SQ_SKIPPED_READ, R11. -/
  | sqSkippedRead (queue : Nat)
  /-- EQ_DROPPED_READ, R11. -/
  | eqDroppedRead
  /-- HEAD_TIME_LO_READ, R74. -/
  | headTimeLoRead (wide : Bool)
  /-- CYCLE_LO_READ, R74. -/
  | cycleLoRead (wide : Bool)
  /-- REC_COMMIT, R74. -/
  | recCommit (length : Nat) (window : List Byte)
  /-- REC_END, R74. -/
  | recEnd
  /-- REGISTER_WRITE, R11. -/
  | registerWrite (offset : Nat) (wide : Bool) (value : Nat)
  /-- PCIE_POWER_STATE, R69. -/
  | pciePowerState (d3hot : Bool) (pme : Bool)
  /-- PERST_ASSERT, R68. -/
  | perstAssert
  /-- PCIE_LINK_DOWN, R68. -/
  | pcieLinkDown
  /-- ITEM_START, R78. -/
  | itemStart
  /-- COMPLETION_WRITE, R79. -/
  | completionWrite (queue : Nat)
  /-- ASYNC_DONE, R85. -/
  | asyncDone (queue : Nat)
  /-- FENCE_TIMEOUT, R90. -/
  | fenceTimeout
  /-- GROUP_EFFECT, R92. -/
  | groupEffect (queue : Nat)
  /-- GROUP_ABANDONED, R93. -/
  | groupAbandoned (queue : Nat)
  /-- ETH_DATAGRAM_RX, R72. -/
  | ethDatagramRx (port : Nat) (srcAddr : Nat) (srcPort : Nat) (dstPort : Nat) (payload : List Byte)
  /-- ETH_FRAME_RX, R70. -/
  | ethFrameRx (port : Nat) (frame : List Byte)
  /-- REASSEMBLY_TIMEOUT, R70. -/
  | reassemblyTimeout (port : Nat) (index : Nat)
  /-- EVENT_DATAGRAM_SEND, R89. -/
  | eventDatagramSend (count : Nat)
  /-- GET_SYSTEM_STATUS, R66. -/
  | getSystemStatus (p : Packet)
  /-- SET_MODE, R33. -/
  | setMode (p : Packet)
  /-- ENTER_IDLE, R48. -/
  | enterIdle (p : Packet)
  /-- SET_TOLERANCE, R50. -/
  | setTolerance (p : Packet)
  /-- WAKE, R55. -/
  | wake (p : Packet)
  /-- SET_RESCUE_POLICY, R56. -/
  | setRescuePolicy (p : Packet)
  /-- SYSTEM_RESET, R66. -/
  | systemReset (p : Packet)
  /-- VIN_START, R440. -/
  | vinStart (vin : Nat)
  /-- RAIL_SEQUENCE_FAIL, R440. -/
  | railSequenceFail
  /-- RAIL_RETRY, R440. -/
  | railRetry
  /-- POR_N_RISE, R41. -/
  | porNRise (bootsel : Nat) (headSel : Bool) (testN : Bool)
  /-- HEAD_TIME_LOAD, R459. -/
  | headTimeLoad
  /-- BOOT_STEP_DONE, R425. -/
  | bootStepDone (ok : Bool)
  /-- BOOT_STEP_TIMEOUT, R44. -/
  | bootStepTimeout
  /-- SADDLE_WINDOW_END, R45. -/
  | saddleWindowEnd (peerHome : Bool)
  /-- SOLO_TO_ACTIVE, R393. -/
  | soloToActive
  /-- NETWORK_BUILD_END, R144. -/
  | networkBuildEnd
  /-- AUTO_SERVICE, R47. -/
  | autoService
  /-- RESET_N_FALL, R40. -/
  | resetNFall
  /-- MODE_TRANSITION_DONE, R34. -/
  | modeTransitionDone
  /-- WAKE_SOURCE, R55. -/
  | wakeSource (source : Nat)
  /-- RESCUE_TRIGGER_FIELD_INPUT, R56. -/
  | rescueTriggerFieldInput
  /-- RESCUE_TRIGGER_VIN, R56. -/
  | rescueTriggerVin (vin : Nat)
  /-- RESCUE_TILES_GATED, R62. -/
  | rescueTilesGated
  /-- RESCUE_DONE, R63. -/
  | rescueDone
  /-- CYCLE_START, R21. -/
  | cycleStart
  /-- BACKUP_BEACON_SLOT, R126. -/
  | backupBeaconSlot
  /-- FORWARDED_BEACON_RX, R126. -/
  | forwardedBeaconRx (arrival : Nat) (bytes : List Byte)
  /-- UPLINK_FRAME_RX, R24. -/
  | uplinkFrameRx (branch : Nat) (start : Nat) (bytes : List Byte) (truncated : Bool)
  /-- FORWARDED_UPLINK_RX, R24. -/
  | forwardedUplinkRx (bytes : List Byte)
  /-- SETTLING_DONE, R256. -/
  | settlingDone (observer : Nat)
  /-- POSITION_LOST, R257. -/
  | positionLost (observer : Nat)
  /-- SENSOR_SUSPECT, R253. -/
  | sensorSuspect (source : Nat)
  /-- SENSOR_READMITTED, R253. -/
  | sensorReadmitted (source : Nat)
  /-- MOVER_CUTOFF, R201. -/
  | moverCutoff (mover : Nat)
  /-- AXIS_GRAPH_COMPLETE, R229. -/
  | axisGraphComplete (axis : Nat)
  /-- MOVER_FORCE_TIMEOUT, R230. -/
  | moverForceTimeout (mover : Nat)
  /-- RECORD_READY_DEADLINE, R23. -/
  | recordReadyDeadline (node : Nat)
  /-- HOLD_FAULT, R232. -/
  | holdFault (axis : Nat)
  /-- RANGE_OVERRUN, R233. -/
  | rangeOverrun (range : Nat)
  /-- DOWNLINK_SLOT, R122. -/
  | downlinkSlot (node : Nat)
  /-- FORWARDED_DOWNLINK_RX, R122. -/
  | forwardedDownlinkRx (bytes : List Byte)
  /-- GRAPH_ABANDONED, R229. -/
  | graphAbandoned (axis : Nat)
  /-- DYN_REQUEST_SEND, R130. -/
  | dynRequestSend (branch : Nat) (mini : Nat)
  /-- DYN_REPLY_RX, R130. -/
  | dynReplyRx (branch : Nat) (channel : Nat) (start : Nat) (bytes : List Byte) (truncated : Bool)
  /-- CONTOUR_LATE, R195. -/
  | contourLate (entry : Nat)
  /-- JOIN_CLAIM_RX, R138. -/
  | joinClaimRx (branch : Nat) (channel : Nat) (start : Nat) (bytes : List Byte) (truncated : Bool)
  /-- JOIN_GRANT_EFFECTIVE, R139. -/
  | joinGrantEffective (node : Nat)
  /-- NODE_SILENT, R165. -/
  | nodeSilent (node : Nat)
  /-- NODE_LOST, R165. -/
  | nodeLost (node : Nat)
  /-- REVOKE_COMPLETE, R145. -/
  | revokeComplete (node : Nat)
  /-- SCHEDULE_SWITCH, R128. -/
  | scheduleSwitch
  /-- LANE_CALIBRATION_START, R162. -/
  | laneCalibrationStart (branch : Nat) (channel : Nat)
  /-- LANE_CALIBRATION_DONE, R163. -/
  | laneCalibrationDone (branch : Nat) (channel : Nat)
  /-- LANE_DOWN, R161. -/
  | laneDown (lane : Nat)
  /-- LANE_UP, R161. -/
  | laneUp (lane : Nat) (inverted : Bool)
  /-- SADDLE_UP, R378. -/
  | saddleUp
  /-- MIGRATION_PREPARE, R272. -/
  | migrationPrepare (axis : Nat) (tile : Nat) (core : Nat)
  /-- MIGRATION_COMMIT, R272. -/
  | migrationCommit (axis : Nat)
  /-- MIGRATION_ABORTED, R274. -/
  | migrationAborted (axis : Nat)
  /-- FULL_PLACEMENT, R267. -/
  | fullPlacement
  /-- WINDOW_LOAD, R270. -/
  | windowLoad (tile : Nat) (table : Nat) (coordinate : Int)
  /-- TABLE_LOAD_DONE, R304. -/
  | tableLoadDone (tile : Nat) (slot : Nat)
  /-- BUFFER_SWITCH, R303. -/
  | bufferSwitch (tile : Nat) (slot : Nat)
  /-- TILE_REMOVED, R403. -/
  | tileRemoved (tile : Nat)
  /-- AXIS_RESTORE, R276. -/
  | axisRestore
  /-- OPERATION_DISPATCH, R280. -/
  | operationDispatch (list : Nat)
  /-- PREEMPTION, R282. -/
  | preemption (list : Nat)
  /-- SHED_LEVEL_RISE, R283. -/
  | shedLevelRise
  /-- SHED_LEVEL_FALL, R283. -/
  | shedLevelFall
  /-- FIRST_FAULT_DECISION, R410. -/
  | firstFaultDecision
  /-- DEFERRED_BINDING_CHANGE, R106. -/
  | deferredBindingChange (axis : Nat)
  /-- DEFERRED_RELEASE, R189. -/
  | deferredRelease (axis : Nat)
  /-- BINDING_IN_FORCE, R106. -/
  | bindingInForce (axis : Nat)
  /-- BIND_TIMEOUT, R111. -/
  | bindTimeout (axis : Nat)
  /-- FOLLOWING_ERROR, R206. -/
  | followingError (axis : Nat)
  /-- NO_COVERAGE, R213. -/
  | noCoverage (mover : Nat)
  /-- BRAKE_STUCK, R220. -/
  | brakeStuck (axis : Nat)
  /-- HOLD_DWELL_EXPIRED, R220. -/
  | holdDwellExpired (axis : Nat)
  /-- MOVE_DONE, R219. -/
  | moveDone (axis : Nat)
  /-- STOP_DONE, R221. -/
  | stopDone (axis : Nat)
  /-- STOP_OVERTIME, R222. -/
  | stopOvertime (axis : Nat)
  /-- SEGMENT_DEENERGISE, R221. -/
  | segmentDeenergise (axis : Nat)
  /-- FAULT_DETECTED, R400. -/
  | faultDetected (source : Nat) (code : Nat)
  /-- DIE_LINK_LOST, R18. -/
  | dieLinkLost
  /-- FIELD_INPUT_SNAPSHOT, R17. -/
  | fieldInputSnapshot (levels : Nat) (time : Nat)
  /-- FIELD_INPUT_REVERSED, R470. -/
  | fieldInputReversed (input : Nat)
  /-- FIELD_INPUT_OPEN, R470. -/
  | fieldInputOpen (input : Nat)
  /-- FIELD_OUTPUT_SHORT, R471. -/
  | fieldOutputShort (output : Nat)
  /-- SHORT_RETRY, R471. -/
  | shortRetry (output : Nat) (short : Bool)
  /-- FIELD_OUTPUT_OPEN_LOAD, R471. -/
  | fieldOutputOpenLoad (output : Nat) (present : Bool)
  /-- SAFE_INPUT, R407. -/
  | safeInput (levelA : Bool) (levelB : Bool)
  /-- SAFE_DISCREPANCY, R407. -/
  | safeDiscrepancy
  /-- BELAY_READBACK, R408. -/
  | belayReadback (balls : Nat)
  /-- KICK_SEND, R413. -/
  | kickSend
  /-- KICK_LAPSED, R413. -/
  | kickLapsed
  /-- ALIVE_TOGGLE, R412. -/
  | aliveToggle
  /-- VIN_STOP, R442. -/
  | vinStop (vin : Nat)
  /-- VIN_OVERVOLTAGE, R439. -/
  | vinOvervoltage (vin : Nat)
  /-- VIN_OVERVOLTAGE_END, R439. -/
  | vinOvervoltageEnd (vin : Nat)
  /-- VIN_LOW, R438. -/
  | vinLow (vin : Nat)
  /-- RAIL_FAULT, R441. -/
  | railFault (rail : Nat)
  /-- RAIL_LOST, R441. -/
  | railLost
  /-- REFERENCE_LOST, R444. -/
  | referenceLost
  /-- PLL_LOCK_LOST, R446. -/
  | pllLockLost (pll : Nat) (trip : Bool)
  /-- PLL_LOCKED, R445. -/
  | pllLocked (pll : Nat)
  /-- PLL_RELOCK_TIMEOUT, R446. -/
  | pllRelockTimeout (pll : Nat)
  /-- DDR_FSP_CHANGE_DONE, R447. -/
  | ddrFspChangeDone
  /-- DROOP_CROSSING, R448. -/
  | droopCrossing (domain : Nat) (level : Nat)
  /-- DROOP_RESTORE, R449. -/
  | droopRestore (domain : Nat)
  /-- THERMAL_LIMIT, R443. -/
  | thermalLimit (pfd : Bool)
  /-- THERMAL_SHUTDOWN, R443. -/
  | thermalShutdown (pfd : Bool)
  /-- THERMAL_CLEAR, R443. -/
  | thermalClear (pfd : Bool) (shutdown : Bool)
  /-- BROWN_OUT_DETECT, R452. -/
  | brownOutDetect
  /-- RTC_TICK, R455. -/
  | rtcTick
  /-- PPS_OUT, R463. -/
  | ppsOut
  /-- PPS_IN_EDGE, R463. -/
  | ppsInEdge (time : Nat)
  /-- PTP_MESSAGE_RX, R177. -/
  | ptpMessageRx (port : Nat) (message : PtpMessage) (stamp : Nat)
  /-- TIME_STEPPED, R180. -/
  | timeStepped
  /-- SERVO_HOLDOVER, R178. -/
  | servoHoldover
  /-- PTP_TX_STAMP, R184. -/
  | ptpTxStamp (port : Nat) (identifier : Nat) (stamp : Nat)
  /-- SADDLE_DELAY_MEASURE, R182. -/
  | saddleDelayMeasure (roundTrip : Nat)
  /-- GENERAL_TRIGGER_FIRE, R186. -/
  | generalTriggerFire (trigger : Nat)
  /-- ADC_PASS_DONE, R367. -/
  | adcPassDone (adc : Nat) (samples : List Int)
  /-- OPEN_WIRE, R363. -/
  | openWire (input : Nat)
  /-- ADC_CALIBRATION_DONE, R372. -/
  | adcCalibrationDone (adc : Nat) (offset : Int) (gain : Int)
  /-- SKEW_CALIBRATION_DONE, R373. -/
  | skewCalibrationDone (pair : Nat) (ok : Bool) (skew : Int)
  /-- ADC_CAL_DUE, R372. -/
  | adcCalDue (adc : Nat) (temperature : Int)
  /-- CONSUMER_POLL, R346. -/
  | consumerPoll (stream : Nat) (consumer : Nat)
  /-- GAP_PACKET, R347. -/
  | gapPacket (stream : Nat)
  /-- TRIGGER_HOLDOFF_END, R352. -/
  | triggerHoldoffEnd (unit : Nat)
  /-- MEASUREMENT_DONE, R354. -/
  | measurementDone (unit : Nat)
  /-- SEGMENT_DONE, R356. -/
  | segmentDone (unit : Nat)
  /-- QUADRATURE_EDGE, R238. -/
  | quadratureEdge (channel : Nat) (positive : Sampled Bool)
  /-- QUAD_ERROR, R238. -/
  | quadError (channel : Sampled Nat)
  /-- INDEX_EDGE, R239. -/
  | indexEdge (channel : Nat) (time : Nat) (gated : Sampled Bool)
  /-- DIRECTION, R240. -/
  | direction (channel : Nat)
  /-- HALL_TRANSITION, R244. -/
  | hallTransition (channel : Nat) (code : Sampled Nat)
  /-- SSI_FRAME_DONE, R242. -/
  | ssiFrameDone (channel : Nat) (ready : Bool) (frame : Nat) (extra : Bool)
  /-- RESYNCED, R243. -/
  | resynced (channel : Nat)
  /-- BRIDGE_FAULT, R323. -/
  | bridgeFault (channel : Nat) (low : Bool)
  /-- STALL, R329. -/
  | stall (axis : Nat)
  /-- STEPPER_DONE, R331. -/
  | stepperDone (axis : Nat)
  /-- STEPPER_STOP_DONE, R333. -/
  | stepperStopDone (axis : Nat)
  /-- LIMIT_TRIPPED, R334. -/
  | limitTripped (axis : Nat) (positive : Bool)
  /-- HOMING_LATCH, R335. -/
  | homingLatch (axis : Nat)
  /-- HOMED, R335. -/
  | homed (axis : Nat)
  /-- HOMING_FAILED, R336. -/
  | homingFailed (axis : Nat)
  /-- CHATTER, R338. -/
  | chatter (input : Nat)
  /-- HEARTBEAT_RX, R380. -/
  | heartbeatRx (bytes : List Byte)
  /-- HEARTBEAT_MISSING, R380. -/
  | heartbeatMissing
  /-- MIRROR_SECTION_RX, R383. -/
  | mirrorSectionRx (bytes : List Byte)
  /-- SETTING_RX, R382. -/
  | settingRx (bytes : List Byte)
  /-- HANDOVER, R395. -/
  | handover
  /-- DEPOSED, R392. -/
  | deposed
  /-- SESSION_IDLE_TIMEOUT, R431. -/
  | sessionIdleTimeout (session : Nat)
  /-- DEBUG_SESSION_EXPIRY, R433. -/
  | debugSessionExpiry
  /-- MODULE_LOAD_TIMEOUT, R316. -/
  | moduleLoadTimeout
  /-- PIN_PARK_END, R466. -/
  | pinParkEnd (pin : Nat)
  /-- DEBUG_HALT, R435. -/
  | debugHalt (kind : Nat) (tile : Nat) (core : Nat)
  /-- DEBUG_STEP, R435. -/
  | debugStep (kind : Nat) (tile : Nat) (core : Nat)
  /-- DEBUG_RESUME, R435. -/
  | debugResume (kind : Nat) (tile : Nat) (core : Nat)
  /-- JTAG_IDCODE, R432. -/
  | jtagIdcode
  /-- JTAG_BYPASS, R432. -/
  | jtagBypass
  /-- JTAG_EXTEST, R432. -/
  | jtagExtest (chain : List Bool)
  /-- JTAG_SAMPLE_PRELOAD, R432. -/
  | jtagSamplePreload (balls : List Bool) (chain : List Bool)
  /-- JTAG_INTEST, R432. -/
  | jtagIntest (chain : List Bool)
  /-- JTAG_CLAMP, R432. -/
  | jtagClamp
  /-- GET_QUEUE_STATUS, R96. -/
  | getQueueStatus (p : Packet)
  /-- FENCE_QUEUES, R90. -/
  | fenceQueues (p : Packet)
  /-- FENCE_CYCLE, R91. -/
  | fenceCycle (p : Packet)
  /-- FENCE_TIME, R92. -/
  | fenceTime (p : Packet)
  /-- FLUSH_QUEUE, R95. -/
  | flushQueue (p : Packet)
  /-- SET_EVENT_ROUTE, R89. -/
  | setEventRoute (p : Packet)
  /-- SESSION_CHALLENGE, R429. -/
  | sessionChallenge (p : Packet)
  /-- SESSION_OPEN, R429. -/
  | sessionOpen (p : Packet)
  /-- SESSION_CLOSE, R431. -/
  | sessionClose (p : Packet)
  /-- GET_RANGE, R119. -/
  | getRange (p : Packet)
  /-- SET_RANGE, R98. -/
  | setRange (p : Packet)
  /-- RANGE_START, R97. -/
  | rangeStart (p : Packet)
  /-- RANGE_STOP, R97. -/
  | rangeStop (p : Packet)
  /-- GET_AXIS, R119. -/
  | getAxis (p : Packet)
  /-- DEFINE_AXIS, R99. -/
  | defineAxis (p : Packet)
  /-- DELETE_AXIS, R119. -/
  | deleteAxis (p : Packet)
  /-- AXIS_ENABLE, R101. -/
  | axisEnable (p : Packet)
  /-- AXIS_DISABLE, R101. -/
  | axisDisable (p : Packet)
  /-- GET_MOVER, R119. -/
  | getMover (p : Packet)
  /-- DEFINE_MOVER, R102. -/
  | defineMover (p : Packet)
  /-- BIND_SEGMENT, R104. -/
  | bindSegment (p : Packet)
  /-- UNBIND_SEGMENT, R104. -/
  | unbindSegment (p : Packet)
  /-- SET_MOVER_TRACK, R103. -/
  | setMoverTrack (p : Packet)
  /-- SET_GAP, R118. -/
  | setGap (p : Packet)
  /-- GET_SCHEDULE, R145. -/
  | getSchedule (p : Packet)
  /-- GET_BRANCH, R145. -/
  | getBranch (p : Packet)
  /-- GET_NODE, R145. -/
  | getNode (p : Packet)
  /-- RESTORE_BRANCH, R134. -/
  | restoreBranch (p : Packet)
  /-- SET_JOIN, R143. -/
  | setJoin (p : Packet)
  /-- RELEASE_SLOT, R145. -/
  | releaseSlot (p : Packet)
  /-- GET_LANE, R145. -/
  | getLane (p : Packet)
  /-- CALIBRATE_LANE, R162. -/
  | calibrateLane (p : Packet)
  /-- GET_TIME, R199. -/
  | getTime (p : Packet)
  /-- SET_TIME_SOURCE, R177. -/
  | setTimeSource (p : Packet)
  /-- CLOSE_STEP, R179. -/
  | closeStep (p : Packet)
  /-- GET_PTP_PORT, R185. -/
  | getPtpPort (p : Packet)
  /-- SET_PORT_LATENCY, R183. -/
  | setPortLatency (p : Packet)
  /-- SET_TRIGGER, R186. -/
  | setTrigger (p : Packet)
  /-- ARM_CONTOUR, R189. -/
  | armContour (p : Packet)
  /-- DISARM_CONTOUR, R189. -/
  | disarmContour (p : Packet)
  /-- GET_CONTOUR, R189. -/
  | getContour (p : Packet)
  /-- GET_LOOP, R234. -/
  | getLoop (p : Packet)
  /-- SET_COEFF, R227. -/
  | setCoeff (p : Packet)
  /-- GET_COEFF, R234. -/
  | getCoeff (p : Packet)
  /-- CLEAR_LOOP_FLAGS, R224. -/
  | clearLoopFlags (p : Packet)
  /-- MOVE_TO, R218. -/
  | moveTo (p : Packet)
  /-- MOVE_LANDING, R219. -/
  | moveLanding (p : Packet)
  /-- STOP_MOVER, R221. -/
  | stopMover (p : Packet)
  /-- SET_LIMITS, R217. -/
  | setLimits (p : Packet)
  /-- SET_BLEND, R211. -/
  | setBlend (p : Packet)
  /-- GET_OVERRUN, R233. -/
  | getOverrun (p : Packet)
  /-- GET_CHANNEL, R259. -/
  | getChannel (p : Packet)
  /-- SET_CHANNEL, R237. -/
  | setChannel (p : Packet)
  /-- CLEAR_CHANNEL_FLAGS, R246. -/
  | clearChannelFlags (p : Packet)
  /-- SET_SENSOR, R247. -/
  | setSensor (p : Packet)
  /-- SET_OBSERVER, R255. -/
  | setObserver (p : Packet)
  /-- GET_OBSERVER, R259. -/
  | getObserver (p : Packet)
  /-- GET_PLACEMENT, R289. -/
  | getPlacement (p : Packet)
  /-- GET_TILE_LOAD, R289. -/
  | getTileLoad (p : Packet)
  /-- SET_AFFINITY, R268. -/
  | setAffinity (p : Packet)
  /-- SET_DISPATCH, R281. -/
  | setDispatch (p : Packet)
  /-- SET_PLACER, R262. -/
  | setPlacer (p : Packet)
  /-- GET_MODULE, R316. -/
  | getModule (p : Packet)
  /-- LOAD_MODULE, R311. -/
  | loadModule (p : Packet)
  /-- DELETE_MODULE, R316. -/
  | deleteModule (p : Packet)
  /-- ATTACH_OPERATION, R315. -/
  | attachOperation (p : Packet)
  /-- DETACH_OPERATION, R316. -/
  | detachOperation (p : Packet)
  /-- GET_STEPPER, R340. -/
  | getStepper (p : Packet)
  /-- SET_STEPPER, R318. -/
  | setStepper (p : Packet)
  /-- SET_STEPPER_LIMITS, R330. -/
  | setStepperLimits (p : Packet)
  /-- MOVE_STEPPER, R330. -/
  | moveStepper (p : Packet)
  /-- MOVE_GROUP, R332. -/
  | moveGroup (p : Packet)
  /-- STOP_STEPPER, R333. -/
  | stopStepper (p : Packet)
  /-- HOME_STEPPER, R335. -/
  | homeStepper (p : Packet)
  /-- SET_MOVE_DESC, R340. -/
  | setMoveDesc (p : Packet)
  /-- CLEAR_STEPPER_FLAGS, R339. -/
  | clearStepperFlags (p : Packet)
  /-- GET_STREAM, R359. -/
  | getStream (p : Packet)
  /-- SET_PROBE, R341. -/
  | setProbe (p : Packet)
  /-- SET_STREAM, R343. -/
  | setStream (p : Packet)
  /-- STREAM_START, R343. -/
  | streamStart (p : Packet)
  /-- STREAM_STOP, R348. -/
  | streamStop (p : Packet)
  /-- SET_TRIG_UNIT, R349. -/
  | setTrigUnit (p : Packet)
  /-- ARM_UNIT, R350. -/
  | armUnit (p : Packet)
  /-- FORCE_TRIGGER, R352. -/
  | forceTrigger (p : Packet)
  /-- GET_TRIG_UNIT, R359. -/
  | getTrigUnit (p : Packet)
  /-- START_CAPTURE, R355. -/
  | startCapture (p : Packet)
  /-- ABORT_CAPTURE, R357. -/
  | abortCapture (p : Packet)
  /-- READ_SEGMENT, R356. -/
  | readSegment (p : Packet)
  /-- GET_ADC, R374. -/
  | getAdc (p : Packet)
  /-- SET_ADC, R364. -/
  | setAdc (p : Packet)
  /-- SET_ADC_TRIGGER, R367. -/
  | setAdcTrigger (p : Packet)
  /-- SET_INPUT, R363. -/
  | setInput (p : Packet)
  /-- READ_CHANNEL, R368. -/
  | readChannel (p : Packet)
  /-- CALIBRATE_ADC, R372. -/
  | calibrateAdc (p : Packet)
  /-- GET_REDUNDANCY, R398. -/
  | getRedundancy (p : Packet)
  /-- SET_RETURN, R394. -/
  | setReturn (p : Packet)
  /-- SWITCHOVER, R397. -/
  | switchover (p : Packet)
  /-- RESYNC_PEER, R384. -/
  | resyncPeer (p : Packet)
  /-- GET_FAULT_SUMMARY, R419. -/
  | getFaultSummary (p : Packet)
  /-- GET_FAULTS, R419. -/
  | getFaults (p : Packet)
  /-- LIST_FAULTS, R419. -/
  | listFaults (p : Packet)
  /-- CLEAR_FAULT, R416. -/
  | clearFault (p : Packet)
  /-- CLEAR_FIRST_FAULT, R417. -/
  | clearFirstFault (p : Packet)
  /-- SET_ALIVE, R412. -/
  | setAlive (p : Packet)
  /-- SET_BELAY_CONFIG, R407. -/
  | setBelayConfig (p : Packet)
  /-- SET_OUTPUT_GROUP, R404. -/
  | setOutputGroup (p : Packet)
  /-- GET_SECURITY, R437. -/
  | getSecurity (p : Packet)
  /-- PROVISION, R420. -/
  | provision (p : Packet)
  /-- SET_LIFECYCLE, R420. -/
  | setLifecycle (p : Packet)
  /-- REVOKE_KEY, R421. -/
  | revokeKey (p : Packet)
  /-- ADVANCE_ROLLBACK, R428. -/
  | advanceRollback (p : Packet)
  /-- WRITE_IMAGE, R427. -/
  | writeImage (p : Packet)
  /-- DEBUG_CHALLENGE, R433. -/
  | debugChallenge (p : Packet)
  /-- DEBUG_OPEN, R433. -/
  | debugOpen (p : Packet)
  /-- DEBUG_CLOSE, R433. -/
  | debugClose (p : Packet)
  /-- GET_POWER, R461. -/
  | getPower (p : Packet)
  /-- SET_POWER_CONFIG, R461. -/
  | setPowerConfig (p : Packet)
  /-- GET_RTC, R461. -/
  | getRtc (p : Packet)
  /-- SET_RTC, R457. -/
  | setRtc (p : Packet)
  /-- SET_RTC_ALARM, R460. -/
  | setRtcAlarm (p : Packet)
  /-- SET_RTC_CONFIG, R458. -/
  | setRtcConfig (p : Packet)
  /-- READ_BACKUP, R454. -/
  | readBackup (p : Packet)
  /-- WRITE_BACKUP, R454. -/
  | writeBackup (p : Packet)
  /-- GET_PIN, R472. -/
  | getPin (p : Packet)
  /-- SET_PIN, R466. -/
  | setPin (p : Packet)
  /-- COMMIT_PINS, R466. -/
  | commitPins (p : Packet)
  /-- SET_GPIO, R468. -/
  | setGpio (p : Packet)
  /-- GET_FIELD_IO, R472. -/
  | getFieldIo (p : Packet)
  /-- SET_FIELD_INPUT, R469. -/
  | setFieldInput (p : Packet)
  /-- SET_FIELD_OUTPUT, R471. -/
  | setFieldOutput (p : Packet)
  /-- SET_FOUT_CONFIG, R471. -/
  | setFoutConfig (p : Packet)
  /-- POR_N_FALL, R33. -/
  | porNFall
  /-- RESET_N_RISE, R33. -/
  | resetNRise
  /-- PCIE_LINK_UP, R68. -/
  | pcieLinkUp
  /-- FIELD_INPUT_OPEN_END, R470. -/
  | fieldInputOpenEnd (input : Nat)
  /-- FIELD_INPUT_REVERSED_END, R470. -/
  | fieldInputReversedEnd (input : Nat)
  /-- VIN_LOW_END, R402. -/
  | vinLowEnd (vin : Nat)
  /-- CALENDAR_COMPARATOR_FIRE, R186. -/
  | calendarComparatorFire (entry : Nat)
  /-- IMAGE_TRANSFER_TIMEOUT, R437. -/
  | imageTransferTimeout
  deriving DecidableEq, Repr

end Sys2Proof
end

