-- ==== Sys2Proof/Decode.lean ====
section
/-! DEFINITION. The command that a word spells by the bits of the opcode table.  The table gives none of its 335 rows any
bits: commands reach the part as packets and events (Table 03-7, R87). -/
namespace Sys2Proof

/-- No row of the table has bits, so no word spells a command. DEDUCED (log 5). -/
def decodeTableWord (_nbits _w : Nat) : Option Instr := none

end Sys2Proof
end

