-- ==== Sys2Proof/Machine/Bytes.lean ====
section
/-! DEFINITION. Little-endian fields of packets, slots, frames and images (R4), signed fields, and CRC-free list helpers. -/
namespace Sys2Proof.Machine

/-- The `n` low bytes of `v`, least significant first (R4). -/
def leBytes : Nat → Nat → List Byte
  | 0, _ => []
  | n + 1, v => BitVec.ofNat 8 v :: leBytes n (v / 256)

/-- The number a little-endian byte string spells (R4). -/
def leNat : List Byte → Nat
  | [] => 0
  | b :: bs => b.toNat + 256 * leNat bs

/-- Bytes `o .. o+n-1` of a string as a number; bytes past its end count as 0. -/
def field (bs : List Byte) (o n : Nat) : Nat := leNat ((bs.drop o).take n)

/-- Read `v` as an `n`-bit two's complement number. -/
def toSigned (n v : Nat) : Int :=
  let m := v % 2 ^ n
  if m < 2 ^ (n - 1) then (m : Int) else (m : Int) - (2 ^ n : Nat)

/-- The `n`-bit two's complement pattern of an integer. -/
def ofSigned (n : Nat) (v : Int) : Nat := (v % ((2 ^ n : Nat) : Int)).toNat

/-- A signed little-endian field of `n` bytes. -/
def sfield (bs : List Byte) (o n : Nat) : Int := toSigned (8 * n) (field bs o n)

/-- A signed value as `n` little-endian bytes. -/
def leInt (n : Nat) (v : Int) : List Byte := leBytes n (ofSigned (8 * n) v)

/-- Concatenate fields, each given as (bytes, value). -/
def pack : List (Nat × Nat) → List Byte
  | [] => []
  | (n, v) :: fs => leBytes n v ++ pack fs

/-- Pad a string with zero bytes to `n` bytes, or cut it there. -/
def padTo (n : Nat) (bs : List Byte) : List Byte := (bs ++ List.replicate (n - bs.length) 0).take n

/-- A big-endian field of a frame. -/
def beField (bs : List Byte) (o n : Nat) : Nat := leNat ((bs.drop o).take n).reverse
/-- `n` big-endian bytes. -/
def beBytes (n v : Nat) : List Byte := (leBytes n v).reverse

/-- The 16-bit ones' complement sum of a byte string, an odd last byte padded with 0. -/
def sum16 : List Byte → Nat
  | [] => 0
  | [a] => a.toNat * 256
  | a :: b :: rest => a.toNat * 256 + b.toNat + sum16 rest

/-- Fold the carries of a ones' complement sum. -/
def fold16 (n : Nat) : Nat :=
  let a := n % 65536 + n / 65536
  let b := a % 65536 + a / 65536
  b % 65536 + b / 65536

/-- A checksum field over a byte string. PRESUMED (log 6). -/
def checksum (bs : List Byte) : Nat := 65535 - fold16 (sum16 bs)

/-- Are all the bytes `o .. o+n-1` zero (a reserved field, R13)? -/
def zeros (bs : List Byte) (o n : Nat) : Bool := field bs o n == 0

/-- Bits [hi:lo] of a number (R4). -/
def bits (v hi lo : Nat) : Nat := v / 2 ^ lo % 2 ^ (hi - lo + 1)

/-- Bit `i` of a number (R4). -/
def bit (v i : Nat) : Bool := v.testBit i

/-- A flag as a number. -/
def flag (b : Bool) (i : Nat) : Nat := if b then 2 ^ i else 0

/-- The value at an index, replaced; a list shorter than the index is unchanged. -/
def setAt {α : Type} (i : Nat) (f : α → α) (l : List α) : List α := l.modify i f

/-- The sum of a list of naturals. -/
def sumNat (l : List Nat) : Nat := l.foldl (· + ·) 0

/-- 32-bit serial-number comparison: is `a` after `b` (R72, R430, R375)? -/
def serialAfter (w a b : Nat) : Bool :=
  let n := (a + 2 ^ w - b % 2 ^ w) % 2 ^ w
  n != 0 && n < 2 ^ (w - 1)

/-- A count that stops at its largest value. -/
def satInc (max n : Nat) : Nat := if n < max then n + 1 else max

/-- Insert or replace the entry of a key in a list kept in rising key order. -/
def putKey {α : Type} (key : α → Nat) (x : α) : List α → List α
  | [] => [x]
  | y :: ys => if key x < key y then x :: y :: ys
               else if key x = key y then x :: ys
               else y :: putKey key x ys

end Sys2Proof.Machine
end

