-- ==== Sys2Proof/Machine/Fixed.lean ====
section
/-! DEFINITION. Fixed-point arithmetic: convergent rounding and saturation (R8, R486), gain words (R202), integer roots. -/
namespace Sys2Proof.Machine

/-- `n ÷ d` to the nearest integer, an exact half to the even one (R8). -/
def roundDiv (n : Int) (d : Nat) : Int :=
  let q := n / (d : Int)
  let r := n % (d : Int)
  if 2 * r < d then q else if 2 * r > d then q + 1 else if q % 2 = 0 then q else q + 1

/-- Clamp to an interval, and say whether the clamp acted. -/
def clampTo (lo hi x : Int) : Int × Bool := if x < lo then (lo, true) else if x > hi then (hi, true) else (x, false)

/-- Saturate to the Q1.23 range (R8). -/
def sat24 (x : Int) : Int × Bool := clampTo (-(2 ^ 23)) (2 ^ 23 - 1) x

/-- Saturate to the Q9.47 range of an accumulator (R7). -/
def sat56 (x : Int) : Int × Bool := clampTo (-(2 ^ 55)) (2 ^ 55 - 1) x

/-- Store a Q9.47 accumulator to a Q1.23 field: round to 23 fraction bits, then saturate (R8). -/
def store24 (acc : Int) : Int × Bool := sat24 (roundDiv acc (2 ^ 24))

/-- `limit(u, m)` of R203: clamp to ±m. -/
def limitTo (u m : Int) : Int × Bool := clampTo (-m) m u

/-- Mantissa of a gain word (R202). -/
def gainM (w : Nat) : Nat := bits w 23 4
/-- Exponent of a gain word (R202). -/
def gainE (w : Nat) : Nat := bits w 3 0

/-- A Q1.23 operand times a gain word, exactly: the product scaled by 2^20 (R202). -/
def gainMul (w : Nat) (x : Int) : Int := x * gainM w * (2 ^ gainE w : Nat)

/-- A Q1.23 operand times a gain word, stored by R8. -/
def gainStore (w : Nat) (x : Int) : Int × Bool := sat24 (roundDiv (gainMul w x) (2 ^ 20))

/-- A Q1.23 product stored by R8. -/
def mulStore (x y : Int) : Int × Bool := sat24 (roundDiv (x * y) (2 ^ 23))

/-- An unsigned 24-bit fraction of a turn: rounded, then taken modulo one turn (R486). -/
def storeTurn (n : Int) (d : Nat) : Nat := (roundDiv (n * 2 ^ 24) d % 2 ^ 24).toNat

/-- An unsigned 24-bit fraction that saturates (R486): the value `n ÷ 2^23` of a Q1.23 sum. -/
def storeDuty (n : Int) : Nat × Bool :=
  let r := clampTo 0 (2 ^ 24 - 1) (2 * n)
  (r.1.toNat, r.2)

/-- Newton steps of an integer square root. -/
def isqrtStep : Nat → Nat → Nat → Nat
  | 0, _, x => x
  | k + 1, n, x => let y := (x + n / x) / 2; if y < x then isqrtStep k n y else x

/-- The integer square root, the largest whole number whose square is at most `n` (for n below 2^256). -/
def isqrt (n : Nat) : Nat := if n = 0 then 0 else isqrtStep 300 n (2 ^ (n.log2 / 2 + 1))

/-- π scaled by 2^96. -/
def pi96 : Nat := 248902613312231085230521944622

/-- Alternating Taylor terms of a sine, scaled by 2^96: `term` is the last term, `m` its order. -/
def sineTerms : Nat → Int → Int → Nat → Int
  | 0, _, _, _ => 0
  | k + 1, x, term, m =>
    term + sineTerms k x (-(term * x / 2 ^ 96 * x / 2 ^ 96) / ((m + 1) * (m + 2) : Nat)) (m + 2)

/-- Entry `k` of the quarter-wave table: sin(π k ÷ 2,048) to the nearest Q1.23 value, entry 1,024 saturated (R487). -/
def quarterWave (k : Nat) : Int :=
  let x : Int := (pi96 * k / 2048 : Nat)
  (sat24 (roundDiv (sineTerms 16 x x 1) (2 ^ 73))).1

/-- sin θ of a 24-bit turn fraction, by the interpolated quarter-wave table (R487). -/
def sinTurn (theta : Nat) : Int :=
  let t := theta % 2 ^ 24
  let q := t / 2 ^ 22
  let u := if q % 2 = 0 then t % 2 ^ 22 else 2 ^ 22 - t % 2 ^ 22
  let k := u / 4096
  let v := if k ≥ 1024 then quarterWave 1024
    else (sat24 (roundDiv (quarterWave k * 4096 + (u % 4096 : Nat) * (quarterWave (k + 1) - quarterWave k)) 4096)).1
  if q ≥ 2 then -v else v

/-- cos θ is sin(θ + 1/4 turn) (R487). -/
def cosTurn (theta : Nat) : Int := sinTurn (theta + 2 ^ 22)

/-- 1 ÷ √3 as a Q1.23 value (R215; log 10). -/
def invSqrt3 : Int := 4843165

end Sys2Proof.Machine
end

