-- ==== Sys2Proof/Config.lean ====
section
/-! DEFINITION. What the spec leaves open: values and functions with no body, so that nothing can be proved of the
value they take.  Each is named in a log entry. -/
namespace Sys2Proof.Config

/-- Log 3.  Values that the spec says exist and does not give (a random nonce, a measured value, an unstated rounding),
one for every value of the model's own counter `Head.drawn`. -/
opaque freeNat : Nat → Nat
/-- Log 3.  As `freeNat`, signed. -/
opaque freeInt : Nat → Int
/-- Log 3.  As `freeNat`, a string of bytes of the length asked for. -/
opaque freeString : (draw length : Nat) → Vector Byte length
def freeBytes (draw length : Nat) : List Byte := (freeString draw length).toList

/-- Log 4.  SHA-384 of a byte string (R422): 48 bytes.  Named by the spec through its standard, not defined there. -/
opaque sha384Digest : List Byte → Vector Byte 48
def sha384 (message : List Byte) : List Byte := (sha384Digest message).toList
/-- Log 4.  HMAC-SHA-384 of a message under a key (R430): 48 bytes. -/
opaque hmac384Tag : (key message : List Byte) → Vector Byte 48
def hmac384 (key message : List Byte) : List Byte := (hmac384Tag key message).toList
/-- Log 4.  HKDF-SHA-384 of a secret, a salt and an info string (R429): a session key of 48 bytes. -/
opaque hkdf384Key : (secret salt info : List Byte) → Vector Byte 48
def hkdf384 (secret salt info : List Byte) : List Byte := (hkdf384Key secret salt info).toList
/-- Log 4.  ECDSA P-384: does this signature over this digest verify under this public key (R422)? -/
opaque ecdsaVerify : (publicKey digest signature : List Byte) → Bool
/-- Log 4.  Whether 97 bytes are an uncompressed point of P-384 (R429). -/
opaque isCurvePoint : List Byte → Bool
/-- Log 4.  The public key of a private P-384 key (R429): an uncompressed point of 97 bytes. -/
opaque publicPoint : (privateKey : List Byte) → Vector Byte 97
def publicOf (privateKey : List Byte) : List Byte := (publicPoint privateKey).toList
/-- Log 4.  ECDSA P-384 under the key slot of this SHA-384: a module file carries no public key (R311, Table 17-2). -/
opaque slotVerify : (keyHash digest signature : List Byte) → Bool
/-- Log 4.  The ECDH shared secret of a private key and a public key (R429): 48 bytes. -/
opaque ecdhShared : (privateKey publicKey : List Byte) → Vector Byte 48
def ecdhSecret (privateKey publicKey : List Byte) : List Byte := (ecdhShared privateKey publicKey).toList
/-- Log 4.  SHA-384 of the P-384 public key Belnak keeps in ROM for the first signature check of a BLANK part (R425). -/
opaque belnakKeyDigest : Vector Byte 48
def belnakKeyHash : List Byte := belnakKeyDigest.toList
/-- Belnak's PCI-SIG vendor identifier (R67): the spec names it and gives no number. PRESUMED (log 6). -/
opaque vendorId : Nat
/-- Log 6.  The MAC address of an Ethernet port (R70): the spec gives none. -/
opaque portMac : Nat → Vector Byte 6
def macOf (port : Nat) : List Byte := (portMac port).toList
/-- Log 13.  The clock identity of the head's PTP instance (Table 07-1), 8 bytes: the spec gives none. -/
opaque clockIdentity : Vector Byte 8
/-- Log 3.  The fixed correction of a Geunet lane to its ball (Table 07-2), in 2⁻⁸ ns. -/
opaque laneCorrection : Nat → Int
/-- Log 3.  Belnak's JEDEC manufacturer identity, 11 bits (R432). -/
opaque jedecIdentity : Nat

/-- Log 15.  What the operation number of a Massif vector operation stands for: the spec numbers none of them. -/
opaque massifKind : Nat → Nat
/-- Log 15.  A number that a Massif instruction word names in a field that the spec does not lay out, by the field's place. -/
opaque massifField : (word which : Nat) → Nat

/-- Log 106.  Whether control traffic keeps the frames of a stream from the staging area in a base cycle (R358): the spec gives no
measure of it. -/
opaque crowded : (cycle stream : Nat) → Bool

end Sys2Proof.Config
end

