-- ==== Sys2Proof/Machine/StAcq.lean ====
section
/-! DEFINITION. State of the acquisition unit (chapter 13) and of the analogue inputs (14). -/
namespace Sys2Proof.Machine

/-- A probe channel (R341). -/
structure Probe where
  /-- AXIS; 12 bits; SET_PROBE; reset DESIGN CHOICE 0 (log 1) -/
  axis : Nat := 0
  /-- SIGNAL, 0 when free; 8 bits; Table 13-1; reset DESIGN CHOICE 0 free (log 1) -/
  signal : Nat := 0
  /-- last value; 32 bits; R341; reset DESIGN CHOICE 0 (log 1) -/
  value : Nat := 0
  /-- valid in the current cycle; 1 bit; R341; reset 0 -/
  valid : Bool := false
  deriving DecidableEq, Repr

/-- The setting of a stream (SET_STREAM). -/
structure StreamCfg where
  /-- KIND, true for ADC -/
  adc       : Bool
  source    : Nat
  /-- DIV, 1-256 -/
  div       : Nat
  phase     : Nat
  /-- probes taken, rising -/
  probes    : List Nat
  ringLog2  : Nat
  vector    : Nat
  ringAddr  : Nat
  ctrlAddr  : Nat
  watermark : Nat
  deriving DecidableEq, Repr

/-- A stored sample instant of a stream: index, head time in 2⁻⁸ ns, period in 2⁻⁸ ns, its bytes and the values of its
channels with their validity, for trigger units. -/
structure Frame where
  index  : Nat
  time   : Nat
  period : Nat
  bytes  : List Byte
  values : List (Option Int)
  deriving DecidableEq, Repr

/-- A TRIGGER mark inside a gap waits for the GAP packet (R347). -/
structure Mark where
  unit    : Nat
  payload : List Byte
  index   : Nat
  time    : Nat
  info    : Nat
  deriving DecidableEq, Repr

/-- One stream (R343-R348). -/
structure Stream where
  /-- setting; SET_STREAM; reset DESIGN CHOICE unset (log 1) -/
  cfg : Option StreamCfg := none
  /-- STATE; 8 bits; Table 13-2; reset DESIGN CHOICE 0 stopped (log 1) -/
  state : Nat := 0
  /-- PRODUCER; 64 bits; Table 13-2; reset DESIGN CHOICE 0 (log 1) -/
  producer : Nat := 0
  /-- CONSUMER as last read; 64 bits; R346; reset DESIGN CHOICE 0 (log 1) -/
  consumer : Nat := 0
  /-- SEQ of the next packet; 32 bits; Table 13-3; reset DESIGN CHOICE 0 (log 1) -/
  seq : Nat := 0
  /-- LOST; 64 bits; Table 13-2; reset DESIGN CHOICE 0 (log 1) -/
  lost : Nat := 0
  /-- GAPS; 32 bits; GET_STREAM; reset DESIGN CHOICE 0 (log 1) -/
  gaps : Nat := 0
  /-- index of the next ADC frame; 64 bits; R343; reset 0 -/
  next : Nat := 0
  /-- frames of the open DATA packet, oldest first; R348; reset none -/
  frames : List Frame := []
  /-- closed packets without SEQ, waiting in the staging area, oldest first; R347; reset none -/
  staged : List (List Byte) := []
  /-- an open gap: reason, first index lost, its time, frames lost; R347; reset none -/
  gap : Option (Nat × Nat × Nat × Nat) := none
  /-- TRIGGER marks held in the gap, at most 16, and those dropped; R347; reset none -/
  marks : List Mark := []
  /-- LOST_TRIGGERS; 32 bits; R347; reset 0 -/
  lostTriggers : Nat := 0
  /-- paused in IDLE: it was running; 1 bit; R348; reset 0 -/
  paused : Bool := false
  /-- STREAM_STOP waits for the staged packets; 1 bit; R359; reset 0 -/
  stopping : Bool := false
  /-- the last frames taken, newest first: the pre-trigger record of its units; R354; reset none -/
  recent : List Frame := []
  deriving DecidableEq, Repr

/-- States of a trigger unit (GET_TRIG_UNIT). -/
inductive UnitState where
  | idle | arming | armed | holdoff
  deriving DecidableEq, Repr

/-- The setting of a trigger unit (SET_TRIG_UNIT). -/
structure UnitCfg where
  stream      : Nat
  source      : Nat
  slope       : Nat
  repeatMode  : Bool
  byEvents    : Bool
  measure     : Bool
  arg         : Nat
  level       : Int
  hyst        : Nat
  holdoff     : Nat
  pre         : Nat
  post        : Nat
  measChannel : Nat
  measHyst    : Nat
  deriving DecidableEq, Repr

/-- A record being filled after a trigger (R354, R356). -/
structure Record where
  /-- sample n and its fraction f -/
  index    : Nat
  fraction : Nat
  /-- trigger instant in 2⁻⁸ ns -/
  time     : Nat
  forced   : Bool
  shortPre : Bool
  /-- frames still to come -/
  left     : Nat
  /-- frames so far, oldest first -/
  frames   : List Frame
  /-- a frame was lost (R358) -/
  incomplete : Bool
  deriving DecidableEq, Repr

/-- One trigger unit (R349-R354). -/
structure TrigUnit where
  /-- setting; SET_TRIG_UNIT; reset DESIGN CHOICE unset (log 1) -/
  cfg : Option UnitCfg := none
  /-- STATE; 2 bits; GET_TRIG_UNIT; reset DESIGN CHOICE IDLE (log 1) -/
  state : UnitState := .idle
  /-- TRIG_COUNT; 32 bits; GET_TRIG_UNIT; reset DESIGN CHOICE 0 (log 1) -/
  count : Nat := 0
  /-- SUPPRESSED; 32 bits; GET_TRIG_UNIT; reset DESIGN CHOICE 0 (log 1) -/
  suppressed : Nat := 0
  /-- SUPPRESSED since the last mark; 32 bits; R347; reset 0 -/
  sinceMark : Nat := 0
  /-- LAST_TIME in 2⁻⁸ ns; 72 bits; GET_TRIG_UNIT; reset DESIGN CHOICE 0 (log 1) -/
  lastTime : Nat := 0
  /-- triggers still to ignore under EVENTS; 16 bits; R352; reset 0 -/
  ignore : Nat := 0
  /-- last sample of its channel when it was valid: its index, its instant in 2⁻⁸ ns and its value; R350; reset none -/
  last : Option (Nat × Nat × Int) := none
  /-- sample n of the last trigger; 64 bits; R353; reset none -/
  lastSample : Option Nat := none
  /-- records not yet measured or stored, oldest first; R354; reset none -/
  records : List Record := []
  deriving DecidableEq, Repr

/-- A running segmented capture (R355). -/
structure Capture where
  unit     : Nat
  segments : Nat
  /-- frames seen since the capture started -/
  seen     : Nat
  deriving DecidableEq, Repr

/-- Channel entry of a converter's sequence (R364). -/
structure SeqEntry where
  channel : Nat
  /-- SAMPLE in 10 ns -/
  sample  : Nat
  deriving DecidableEq, Repr

/-- The setting of a converter (SET_ADC). -/
structure AdcCfg where
  /-- MODE: 0 OFF, 1 SINGLE, 2 PAIR; 8 bits; R364; reset DESIGN CHOICE 0 OFF (log 1) -/
  mode : Nat := 0
  /-- RES; 8 bits; R364; reset 16 -/
  res : Nat := 16
  /-- FORMAT, true for LEFT; 1 bit; R364; reset RIGHT -/
  left : Bool := false
  /-- sequence, 1-16 entries; R364; reset DESIGN CHOICE none (log 1) -/
  seq : List SeqEntry := []
  deriving DecidableEq, Repr

/-- One converter (R364-R373). -/
structure Adc where
  /-- setting in force; SET_ADC -/
  cfg : AdcCfg := {}
  /-- setting from the next firing; SET_ADC; reset none -/
  nextCfg : Option AdcCfg := none
  /-- trigger: TRIGn and enable; 8 bits; SET_ADC_TRIGGER; reset DESIGN CHOICE 0 (log 1) -/
  trigger : Nat := 0
  /-- TRIG_MISSED; 32 bits; R367; reset DESIGN CHOICE 0 (log 1) -/
  missed : Nat := 0
  /-- cycle of the last miss; 48 bits; R367; reset none -/
  missCycle : Option Nat := none
  /-- PASSES; 64 bits; GET_ADC; reset DESIGN CHOICE 0 (log 1) -/
  passes : Nat := 0
  /-- head time in ns of the firing of the pass that runs; 64 bits; R367; reset none -/
  running : Option Nat := none
  /-- OFFSET in 1/16 code; 16 bits; R366; reset DESIGN CHOICE 0 (log 1) -/
  offset : Int := 0
  /-- GAIN, Q1.23; 24 bits; R366; reset DESIGN CHOICE 0 (log 1) -/
  gain : Int := 0
  /-- SKEW in 2 ps; 16 bits; R371; reset 0 -/
  skew : Int := 0
  /-- CAL_TEMP in 0.125 °C; 16 bits; GET_ADC; reset DESIGN CHOICE 0 (log 1) -/
  calTemp : Int := 0
  /-- an offset and gain calibration runs; 1 bit; R372; reset 0 -/
  calibrating : Bool := false
  /-- a skew calibration of its pair runs; 1 bit; R373; reset 0 -/
  skewing : Bool := false
  /-- passes have been interrupted since the last one; 1 bit; R372, R374; reset 0 -/
  interrupted : Bool := false
  /-- ADC_CAL_DUE posted since the last calibration; 1 bit; R372; reset 0 -/
  dueposted : Bool := false
  deriving DecidableEq, Repr

/-- An external analogue input (R363). -/
structure AnalogInput where
  /-- PULL; 3 bits; R363; reset off -/
  pull : Nat := 0
  /-- OW_COUNT; 8 bits; R363; reset 4 -/
  owCount : Nat := 4
  /-- OW_MARGIN; 16 bits; R363; reset 256 -/
  owMargin : Nat := 256
  deriving DecidableEq, Repr

/-- The latest result of a channel code (R368) and its open-wire check (R363). -/
structure Latest where
  code    : Nat
  result  : Nat
  /-- the result on the 16-bit scale, without the format bits, as VBUS_INPUT reads it (R368) -/
  raw     : Int
  adc     : Nat
  time    : Nat
  /-- head time in ns at which its conversion was complete (R364, R368) -/
  done    : Nat
  isOpen  : Bool
  /-- consecutive results that differ from `isOpen` -/
  run     : Nat
  deriving DecidableEq, Repr

/-- Acquisition and converters. -/
structure Acquisition where
  /-- probes 0-63; R341 -/
  probes : List Probe := List.replicate 64 {}
  /-- streams 0-3; R343 -/
  streams : List Stream := List.replicate 4 {}
  /-- trigger units 0-7; R349 -/
  units : List TrigUnit := List.replicate 8 {}
  /-- capture that runs; R355; reset none -/
  capture : Option Capture := none
  /-- stored segments of the segment area, oldest first; 4 MiB; R355; reset DESIGN CHOICE none (log 1) -/
  segments : List (List Byte) := []
  /-- converters 0-3; R364 -/
  adcs : List Adc := List.replicate 4 {}
  /-- external inputs 0-31; R363 -/
  inputs : List AnalogInput := List.replicate 32 {}
  /-- latest results, rising channel code; R368; reset none -/
  latest : List Latest := []
  deriving DecidableEq, Repr

end Sys2Proof.Machine
end

