-- ==== Sys2Proof/Machine/StHost.lean ====
section
/-! DEFINITION. State of the host links: queues, completions, events, MSI-X, PCIe, Ethernet, fences (chapter 03). -/
namespace Sys2Proof.Machine

/-- What the block put on its wires, rings and interrupt lines during the last command (cleared at the next one).
DESIGN CHOICE (log 85). -/
inductive Output where
  /-- a 64-byte slot written at an index of a queue's completion ring (R79) -/
  | completionSlot (queue index : Nat) (slot : List Byte)
  /-- a 32-byte entry written at an index of the event ring (R87) -/
  | eventEntry (index : Nat) (entry : List Byte)
  /-- an MSI-X message (R79) -/
  | msix (vector : Nat)
  /-- a UDP datagram: port 0-1, source UDP port, destination address and UDP port, and its UDP checksum (R70, R71, R89) -/
  | datagram (port srcPort destAddr destPort checksum : Nat) (payload : List Byte)
  /-- another Ethernet frame: ARP or ICMP answers, PTP messages (R70) -/
  | ethFrame (port : Nat) (bytes : List Byte)
  /-- a frame sent on a branch's channel, 0 A or 1 B (R122, R126), and its code groups, delimiters included (R146, R147) -/
  | laneFrame (branch channel : Nat) (bytes : List Byte) (code : List (BitVec 10))
  /-- a whole frame on the saddle link (R379), and the code groups of lanes S0 to S7 (R146) -/
  | saddle (bytes : List Byte) (code : List (List (BitVec 10)))
  /-- data written at an offset of a stream's ring (R345) -/
  | ringWrite (stream offset : Nat) (bytes : List Byte)
  /-- data written at an offset of a stream's ring control block (Table 13-2) -/
  | controlWrite (stream offset : Nat) (bytes : List Byte)
  /-- the value a register read returned (R11, R74) -/
  | readData (value : Nat)
  /-- a step pulse on a local stepper channel, with its direction (R321) -/
  | stepPulse (channel : Nat) (positive : Bool)
  /-- clock periods sent to an SSI encoder on FBn_0, each of so many ns (R241) -/
  | ssiClock (channel periods ns : Nat)
  /-- WAKE_N asserted (R69) -/
  | wakeN
  /-- an edge on a trigger or PPS output ball (R463, R465) -/
  | pinEdge (pin : Nat) (level : Bool)
  /-- bits shifted out of the test access port (R432) -/
  | scanOut (bits : List Bool)
  deriving DecidableEq, Repr

/-- The event an ACCEPTED item waits for (R85). -/
inductive Await where
  /-- the running mode or depth transition (R34) -/
  | transition
  /-- the effect instant of the deferred group (R92) -/
  | group
  /-- the fence's marked and started items (R90) -/
  | fence
  /-- a range becoming RUNNING at its boundary (R97) -/
  | rangeRunning (range : Nat)
  /-- a range becoming STOPPED (R97) -/
  | rangeStopped (range : Nat)
  /-- an axis or mover coming to rest for a disable (R101) -/
  | disabled (axis : Nat)
  /-- a lane's calibration (R162) -/
  | laneCalibrated (lane : Nat)
  /-- coefficient words of an axis still to land, up to the item's last one (R227) -/
  | coefficients (axis left : Nat)
  /-- MOVE_DONE of a mover or rotary axis (R219) -/
  | moved (axis : Nat)
  /-- STOP_DONE of a mover or rotary axis (R221) -/
  | stopped (axis : Nat)
  /-- STEPPER_DONE of an axis (R331) -/
  | stepped (axis : Nat)
  /-- STEPPER_STOP_DONE of an axis (R333) -/
  | stepStopped (axis : Nat)
  /-- HOMED of an axis (R335) -/
  | homed (axis : Nat)
  /-- CAPTURE_DONE (R357) -/
  | captured
  /-- a converter's calibration (R372) -/
  | adcCalibrated (adc : Nat)
  /-- the hand-over at cycle R (R397) -/
  | handover
  /-- PEER_READY (R384) -/
  | peerReady
  /-- the read-back of a written image (R427) -/
  | imageWritten
  /-- both heads' check of a completed module (R316) -/
  | moduleChecked
  deriving DecidableEq, Repr

/-- The header fields that a reply echoes (Table 03-9). -/
structure Echo where
  opcode   : Nat
  tag      : Nat
  target   : Nat
  flags    : Nat
  session  : Nat
  sequence : Nat
  /-- the packet carried a valid MAC, so its replies carry one (R82) -/
  authed   : Bool
  deriving DecidableEq, Repr

/-- A reply that waits to be written (R79) or was kept for resending (R72). -/
structure Reply where
  echo      : Echo
  /-- ASYNC_DONE, bit 6 of the reply's FLAGS (R85) -/
  asyncDone : Bool
  status    : Nat
  params    : List Byte
  /-- the session key its MAC is made with, held from the moment the reply is given -/
  key       : Option (List Byte) := none
  deriving DecidableEq, Repr

/-- A started item that returned ACCEPTED (R85), with its final status once it has one. -/
structure AsyncItem where
  echo  : Echo
  await : Await
  /-- no status has been returned yet: the item replies once, when it ends, and its queue waits for it (R78) -/
  owed  : Bool
  final : Option (Nat × List Byte)
  /-- its queue was disabled after it started: its final reply is discarded (R75) -/
  discard : Bool := false
  deriving DecidableEq, Repr

/-- A deferred group of a queue (R91). -/
structure Group where
  /-- true for FENCE_TIME -/
  byTime    : Bool
  /-- cycle named by FENCE_CYCLE, or the first cycle at or after the instant once known -/
  cycle     : Nat
  /-- head time in ns named by FENCE_TIME -/
  time      : Nat
  /-- items of the group still to be taken -/
  remaining : Nat
  /-- echo of the fence -/
  fence     : Echo
  /-- items taken and stored, oldest first: the opcode and its packet -/
  items     : List (Nat × Packet)
  deriving DecidableEq, Repr

/-- A datagram that waits to start on an Ethernet queue (R73), with its way back. -/
structure Datagram where
  port    : Nat
  srcAddr : Nat
  srcPort : Nat
  bytes   : List Byte
  deriving DecidableEq, Repr

/-- One submission queue and its completion queue (Tables 03-3 to 03-5). -/
structure Queue where
  /-- SQ_BASE; 64 bits; R75; reset DESIGN CHOICE 0 (log 1) -/
  sqBase : Nat := 0
  /-- CQ_BASE; 64 bits; R75; reset DESIGN CHOICE 0 (log 1) -/
  cqBase : Nat := 0
  /-- SQ_CFG.ENABLE; 1 bit; Table 03-4; reset 0 -/
  enabled : Bool := false
  /-- SQ_CFG.TRANSPORT, true for Ethernet; 2 bits; Table 03-4; reset 0 -/
  ethernet : Bool := false
  /-- SQ_CFG.DEPTH_LOG2; 4 bits; Table 03-4; reset 6 -/
  sqDepthLog2 : Nat := 6
  /-- CQ_CFG.DEPTH_LOG2; 4 bits; Table 03-3; reset 6 -/
  cqDepthLog2 : Nat := 6
  /-- CQ_CFG.VECTOR; 6 bits; Table 03-3; reset q + 1 -/
  vector : Nat
  /-- SQ_TAIL; 12 bits; Table 03-3; reset 0 (R75) -/
  sqTail : Nat := 0
  /-- SQ_HEAD; 12 bits; Table 03-3; reset 0 (R75) -/
  sqHead : Nat := 0
  /-- CQ_HEAD; 12 bits; Table 03-3; reset 0 (R75) -/
  cqHead : Nat := 0
  /-- CQ_TAIL; 12 bits; Table 03-3; reset 0 (R75) -/
  cqTail : Nat := 0
  /-- completion phase; 1 bit; R75; reset 1 -/
  phase : Bool := true
  /-- SQ_STATUS.SKIPPING; 1 bit; Table 03-5; reset 0 -/
  skipping : Bool := false
  /-- SQ_STATUS.SLOT_ERROR; 1 bit; Table 03-5; reset 0 -/
  slotError : Bool := false
  /-- SQ_STATUS.INDEX_ERROR; 1 bit; Table 03-5; reset 0 -/
  indexError : Bool := false
  /-- SQ_STATUS.FGEN; 4 bits; Table 03-5; reset 0 -/
  fgen : Nat := 0
  /-- SQ_SKIPPED; 32 bits; Table 03-3; reset 0 -/
  skipped : Nat := 0
  /-- slots skipped since enable; 32 bits; R96 GET_QUEUE_STATUS; reset 0 -/
  skippedTotal : Nat := 0
  /-- datagrams dropped as stale or for a wrong transport; 32 bits; R72; reset 0 -/
  stale : Nat := 0
  /-- published slots not yet read, from SQ_HEAD on; 64 bytes each; R76; reset none -/
  slots : List (List Byte) := []
  /-- the open chain: opcode and its packets so far; R81; reset none -/
  chain : Option (Nat × Packet) := none
  /-- replies that wait for completion slots, oldest first; R79; reset none -/
  replies : List Reply := []
  /-- started items whose final reply is still to be written; R80; reset none -/
  async : List AsyncItem := []
  /-- deferred group; R91; reset none -/
  group : Option Group := none
  /-- items of a group that has ended, to refuse as they are taken; R93, R94; reset 0 -/
  lateItems : Nat := 0
  /-- the status they get, FENCE_LATE or NOT_ACTIVE; R93, R94; reset FENCE_LATE -/
  lateStatus : Nat := 0x0201
  deriving DecidableEq, Repr

/-- The Ethernet side of a queue (R72, R73). -/
structure EthQueue where
  /-- highest SEQUENCE executed; 32 bits; R72; reset none -/
  highest : Option Nat := none
  /-- the last 16 replies sent, newest first, with the bytes sent; R72; reset none -/
  kept : List (Nat × List Byte) := []
  /-- datagrams that have not started, oldest first, at most 16; R73; reset none -/
  waiting : List Datagram := []
  /-- way back of each request not yet finally replied to: (tag, sequence, port, address, UDP port); R71; reset none -/
  ways : List (Nat × Nat × Nat × Nat × Nat) := []
  deriving DecidableEq, Repr

/-- A running FENCE_QUEUES (R90). -/
structure Fence where
  queue   : Nat
  echo    : Echo
  /-- TIMEOUT in µs, 0 for none -/
  timeout : Nat
  /-- head time at which the head took it, in ns -/
  since   : Nat
  deriving DecidableEq, Repr

/-- The event queue and the event route (Table 03-3, R87-R89). -/
structure EventQueue where
  /-- EQ_BASE; 64 bits; Table 03-3; reset DESIGN CHOICE 0 (log 1) -/
  base : Nat := 0
  /-- EQ_CFG.ENABLE; 1 bit; Table 03-3; reset 0 -/
  enabled : Bool := false
  /-- EQ_CFG.VECTOR; 6 bits; Table 03-3; reset 0 -/
  vector : Nat := 0
  /-- EQ_HEAD; 12 bits; Table 03-3; reset 0 (R75) -/
  head : Nat := 0
  /-- EQ_TAIL; 12 bits; Table 03-3; reset 0 (R75) -/
  tail : Nat := 0
  /-- phase of the next entry; 1 bit; R87; reset 1 -/
  phase : Bool := true
  /-- EQ_STATUS.EVQ_OVERFLOW; 1 bit; Table 03-3; reset DESIGN CHOICE 0 (log 1) -/
  overflow : Bool := false
  /-- EQ_DROPPED; 32 bits; Table 03-3; reset DESIGN CHOICE 0 (log 1) -/
  dropped : Nat := 0
  /-- SEQ of the next event; 32 bits; Table 03-12; reset DESIGN CHOICE 0 (log 1) -/
  seq : Nat := 0
  /-- events dropped since the last EVENTS_LOST; 32 bits; R88; reset 0 -/
  lost : Nat := 0
  /-- low word of the head time of the first of them; 32 bits; R88; reset 0 -/
  firstLost : Nat := 0
  /-- ROUTE: 0 PCIe, 1 and 2 Ethernet port 0 and 1; 8 bits; SET_EVENT_ROUTE (R96); reset 0 -/
  route : Nat := 0
  /-- DEST_ADDR; 32 bits; R89; reset DESIGN CHOICE 0 (log 1) -/
  destAddr : Nat := 0
  /-- DEST_PORT; 16 bits; R89; reset DESIGN CHOICE 0 (log 1) -/
  destPort : Nat := 0
  /-- entries staged for Ethernet, oldest first, at most 4,096; R89; reset none -/
  staged : List (List Byte) := []
  deriving DecidableEq, Repr

/-- A reassembly in progress (R70). -/
structure Reassembly where
  /-- source address and identification of the datagram -/
  key       : Nat × Nat
  /-- head time of its first fragment, in ns -/
  since     : Nat
  /-- offset and bytes of a fragment, and whether more follow -/
  fragments : List (Nat × List Byte × Bool)
  deriving DecidableEq, Repr

/-- One Ethernet port (R70, Table 17-6). -/
structure EthPort where
  /-- ETHn_MODE: 0 disabled, 1 SGMII, 2 1000BASE-X; 8 bits; Table 17-6; reset 0 until the boot options -/
  mode : Nat := 0
  /-- IPv4 address; 32 bits; Table 17-6; reset DESIGN CHOICE 0 (log 1) -/
  addr : Nat := 0
  /-- IPv4 mask; 32 bits; Table 17-6; reset DESIGN CHOICE 0 (log 1) -/
  mask : Nat := 0
  /-- IPv4 gateway; 32 bits; Table 17-6; reset DESIGN CHOICE 0 (log 1) -/
  gateway : Nat := 0
  /-- reassemblies in progress, at most 4; R70; reset none -/
  reassembly : List Reassembly := []
  /-- reassemblies dropped; 32 bits; R70; reset 0 -/
  dropped : Nat := 0
  deriving DecidableEq, Repr

/-- One MSI-X table entry (R67). PRESUMED (log 6). -/
structure MsixEntry where
  /-- message address; 64 bits; R67; reset DESIGN CHOICE 0 (log 1) -/
  addr : Nat := 0
  /-- message data; 32 bits; R67; reset DESIGN CHOICE 0 (log 1) -/
  data : Nat := 0
  /-- vector control, bit 0 mask; 32 bits; R67; reset PRESUMED masked, as PCI-SIG (log 6) -/
  masked : Bool := true
  /-- pending bit; 1 bit; Table 03-1; reset 0 -/
  pending : Bool := false
  deriving DecidableEq, Repr

/-- The PCIe endpoint and BAR0 latches (R67-R69, R74). -/
structure Pcie where
  /-- link up; 1 bit; R68; reset DESIGN CHOICE down (log 1) -/
  linkUp : Bool := false
  /-- function in D3hot; 1 bit; R69; reset D0 -/
  d3hot : Bool := false
  /-- PME enabled; 1 bit; R69; reset DESIGN CHOICE 0 (log 1) -/
  pme : Bool := false
  /-- WAKE_N asserted; 1 bit; R69; reset released -/
  wakeN : Bool := false
  /-- HEAD_TIME_HI as latched; 32 bits; R74; reset 0 -/
  timeHi : Nat := 0
  /-- CYCLE_HI as latched; 16 bits; R74; reset 0 -/
  cycleHi : Nat := 0
  /-- REC_OFFSET; 32 bits; Table 03-2; reset DESIGN CHOICE 0 (log 1) -/
  recOffset : Nat := 0
  /-- REC_STATUS.READY; 1 bit; Table 03-2; reset DESIGN CHOICE 0 (log 1) -/
  recReady : Bool := false
  /-- REC_STATUS.DONE; 1 bit; Table 03-2; reset DESIGN CHOICE 0 (log 1) -/
  recDone : Bool := false
  /-- bytes of the recovery image committed so far, by offset; R74; reset none -/
  recImage : List (Nat × List Byte) := []
  /-- FW_VERSION; 32 bits; Table 03-2; reset 0 -/
  fwVersion : Nat := 0
  /-- Device ID in configuration space; 16 bits; R67; reset 0x1024 -/
  deviceId : Nat := 0x1024
  /-- Revision ID in configuration space; 8 bits; R67; reset 0xB0 -/
  revisionId : Nat := 0xB0
  /-- class code in configuration space; 24 bits; R67; reset 0x11_8000 -/
  classCode : Nat := 0x118000
  /-- recovery window: nonzero 32-bit words by word offset, rising; 1 MiB; Table 03-1; reset DESIGN CHOICE all 0 (log 1) -/
  recWindow : List (Nat × Nat) := []
  /-- MSI-X entries, 64 of them; R67 -/
  msix : List MsixEntry := List.replicate 64 {}
  deriving DecidableEq, Repr

end Sys2Proof.Machine
end

