-- ==== Sys2Proof/Machine/StCompute.lean ====
section
/-! DEFINITION. State of placement and dispatch (chapter 10), of the Tor and Massif cores and of the operation modules (11). -/
namespace Sys2Proof.Machine

/-- STATE of a terrain buffer (Table 11-10). -/
inductive BufState where
  | empty | loading | complete | active
  deriving DecidableEq, Repr

/-- One buffer of a terrain slot (Tables 10-3 and 11-10). -/
structure TerrainBuffer where
  /-- TABLE_ID, 0xFFF none; 12 bits; Table 11-10; reset DESIGN CHOICE none (log 1) -/
  table : Nat := 0xFFF
  /-- STATE; 2 bits; Table 11-10; reset DESIGN CHOICE EMPTY (log 1) -/
  state : BufState := .empty
  /-- GEN; 8 bits; R304; reset DESIGN CHOICE 0 (log 1) -/
  gen : Nat := 0
  /-- FIRST, table index of the first entry; 48 bits; Table 11-10; reset DESIGN CHOICE 0 (log 1) -/
  first : Int := 0
  /-- COUNT; 13 bits; Table 11-10; reset DESIGN CHOICE 0 (log 1) -/
  count : Nat := 0
  /-- its load is one that the placer ordered, in the SYS group; R271; reset none -/
  ordered : Bool := false
  /-- base cycle in which its copy was complete; R303; reset none -/
  done : Nat := 0
  deriving DecidableEq, Repr

/-- A terrain slot of a tile: its two buffers (Table 10-3). -/
structure TerrainSlot where
  /-- first buffer; Table 11-10 -/
  a : TerrainBuffer := {}
  /-- second buffer; Table 11-10 -/
  b : TerrainBuffer := {}
  deriving DecidableEq, Repr

/-- An operation on a core: its group (range 0-7, SYS 8), its axis and its place in the axis's graph (R279). -/
structure Operation where
  group : Nat
  axis  : Nat
  step  : Nat
  cost  : Nat
  /-- head time in ns at which it started -/
  since : Nat
  deriving DecidableEq, Repr

/-- A Tor or Massif core as the scheduler sees it (Table 10-1). -/
structure Core where
  /-- ACTIVE operation; Table 10-1; reset none -/
  active : Option Operation := none
  /-- STAGED operation; R282; reset none -/
  staged : Option Operation := none
  /-- saved contexts, newest first, at most 2; R282; reset none -/
  saved : List Operation := []
  deriving DecidableEq, Repr

/-- A Cairn ready list: its groups' deficits and its round-robin position (R280). -/
structure ReadyList where
  /-- deficit of each group, ranges 0-7 then SYS; R280; reset DESIGN CHOICE 0 (log 1) -/
  deficit : List Int := List.replicate 9 0
  /-- last chosen group; 4 bits; R280; reset DESIGN CHOICE 8 (log 1) -/
  last : Nat := 8
  /-- the cores it feeds; R260 -/
  cores : List Core := List.replicate 4 {}
  deriving DecidableEq, Repr

/-- STATE of a tile (GET_TILE_LOAD). -/
inductive TileState where
  | up | gated | lost
  deriving DecidableEq, Repr

/-- A tile (R260, GET_TILE_LOAD). -/
structure Tile where
  /-- STATE; 2 bits; GET_TILE_LOAD; reset up -/
  state : TileState := .up
  /-- terrain slots 0-15; Table 10-3 -/
  slots : List TerrainSlot := List.replicate 16 {}
  /-- Tor ready list and its cores; R260 -/
  list : ReadyList := {}
  /-- instance the loop engine runs; R280; reset none -/
  engine : Option Operation := none
  /-- WEIGHT_RAISED; 1 bit; R281; reset 0 -/
  weightRaised : Bool := false
  /-- PLACE_SHORT; 1 bit; R264; reset 0 -/
  placeShort : Bool := false
  /-- weight in force of the G0 groups, none when the configured one is; R281; reset none -/
  raised : Option Nat := none
  /-- clocks the Tor cores were busy in this cycle's window; R283; reset 0 -/
  busy : List Nat := [0, 0, 0, 0]
  /-- clocks the loop engine was busy in this cycle's window; R283; reset 0 -/
  engineBusy : Nat := 0
  /-- U_LAST in %; 8 bits; R283; reset DESIGN CHOICE 0 (log 1) -/
  uLast : Nat := 0
  /-- U_PEAK in %; 8 bits; R283; reset DESIGN CHOICE 0 (log 1) -/
  uPeak : Nat := 0
  /-- PREEMPTS; 16 bits; GET_TILE_LOAD; reset DESIGN CHOICE 0 (log 1) -/
  preempts : Nat := 0
  /-- COMMITS; 16 bits; GET_TILE_LOAD; reset DESIGN CHOICE 0 (log 1) -/
  commits : Nat := 0
  deriving DecidableEq, Repr

/-- STATE of GET_PLACEMENT. -/
inductive PlaceState where
  | placed | prepare | awaiting | notPlaced
  deriving DecidableEq, Repr

/-- Where an axis is placed, its hint and its migrations (R266, R268, R272). -/
structure Place where
  /-- TILE; 4 bits; GET_PLACEMENT; reset not placed -/
  tile : Nat := 0xFF
  /-- CORE; 2 bits; GET_PLACEMENT; reset not placed -/
  core : Nat := 0xFF
  /-- home Massif core of the operations that run in the Massif cluster; 2 bits; R262, R280; reset none -/
  massif : Nat := 0xFF
  /-- STATE; 2 bits; GET_PLACEMENT; reset not placed -/
  state : PlaceState := .notPlaced
  /-- phase group of a range with a divisor; 8 bits; R28, R262; reset 0 -/
  phase : Nat := 0
  /-- HINT_KIND; 2 bits; R268; reset 0 none -/
  hintKind : Nat := 0
  /-- OTHER; 16 bits; SET_AFFINITY; reset 0 -/
  hintOther : Nat := 0
  /-- HINT_STATE; 2 bits; R268; reset 0 none -/
  hintState : Nat := 0
  /-- MIGRATIONS; 32 bits; GET_PLACEMENT; reset 0 -/
  migrations : Nat := 0
  /-- LAST_COMMIT; 48 bits; GET_PLACEMENT; reset 0 -/
  lastCommit : Nat := 0
  /-- destination of a prepared migration: tile, core and the cycle of PREPARE; R272; reset none -/
  moving : Option (Nat × Nat × Nat) := none
  /-- first gap, by its cycle, in which a migration may commit after one was abandoned; R274; reset 0 -/
  retry : Nat := 0
  deriving DecidableEq, Repr

/-- An entry of a module attached at a hook of an axis (R315). DEDUCED (log 55). -/
structure Attachment where
  hook     : Nat
  moduleId : Nat
  entry    : Nat
  /-- private words, 0-8 of 24 bits (R312) -/
  priv     : List Nat
  /-- hook block word 0x3F reads 1 at the next run (R312) -/
  fresh    : Bool
  deriving DecidableEq, Repr

/-- An entry of an operation module (Table 11-15). -/
structure ModuleEntry where
  offset : Nat
  cost   : Nat
  hook   : Nat
  kinds  : Nat
  deriving DecidableEq, Repr

/-- A loaded operation module (R311, R316). -/
structure Module where
  /-- MODULE_ID; 16 bits; Table 11-14 -/
  id : Nat
  /-- CORE, true for Massif; 8 bits; Table 11-14 -/
  massif : Bool
  /-- KEY_SLOT; 8 bits; Table 11-14 -/
  keySlot : Nat
  /-- VERSION; 32 bits; Table 11-14 -/
  version : Nat
  /-- HOLDOFF; 16 bits; Table 11-14 -/
  holdoff : Nat
  /-- PRIVATE; 8 bits; Table 11-14 -/
  priv : Nat
  /-- entries; Table 11-15 -/
  entries : List ModuleEntry
  /-- code as 32-bit (Tor) or 64-bit (Massif) instructions; Table 11-14 -/
  code : List Nat
  /-- constants, 24 bits each; Table 11-14 -/
  consts : List Nat
  /-- size of the file; 32 bits; GET_MODULE -/
  bytes : Nat
  /-- SOURCE, true for a command; 8 bits; GET_MODULE -/
  byCommand : Bool
  /-- FAULTS; 32 bits; GET_MODULE; reset 0 -/
  faults : Nat := 0
  deriving DecidableEq, Repr

/-- Placement, dispatch, shedding and modules. -/
structure Compute where
  /-- tiles 0-15; R260 -/
  tiles : List Tile := List.replicate 16 {}
  /-- Massif ready list and its cores; R260 -/
  massif : ReadyList := {}
  /-- clocks the Massif cores were busy in this cycle's window; R262; reset 0 -/
  massifBusy : Nat := 0
  /-- PLACE_CAP in force in %; 8 bits; R262; reset 50 -/
  placeCap : Nat := 50
  /-- PLACE_CAP written and waiting for the next full placement; 8 bits; SET_PLACER; reset none -/
  placeCapNext : Option Nat := none
  /-- SHED_HIGH in %; 8 bits; R283; reset 95 -/
  shedHigh : Nat := 95
  /-- SHED_LOW in %; 8 bits; R283; reset 80 -/
  shedLow : Nat := 80
  /-- LEAD_TIME in ms; 16 bits; R270; reset 50 -/
  leadTime : Nat := 50
  /-- WINDOW_WORDS; 16 bits; R270; reset 1,024 -/
  windowWords : Nat := 1024
  /-- RESTORE_MS; 16 bits; R283; reset 1,000 -/
  restoreMs : Nat := 1000
  /-- REHOME_GAP in cycles; 16 bits; R269; reset 3,200 -/
  rehomeGap : Nat := 3200
  /-- WEIGHT of each range, none for the reset value of its class; 8 bits; R281; reset by class -/
  weights : List (Option Nat) := List.replicate 8 none
  /-- DELIVERY of each range, true for PREEMPT, none for the reset value of its class; R282; reset by class -/
  delivery : List (Option Bool) := List.replicate 8 none
  /-- SAG_FACTOR in 1/64; 8 bits; R263; reset DESIGN CHOICE 0 before a placement (log 1) -/
  sagFactor : Nat := 0
  /-- the set of axes, ranges or hints has changed since the last full placement; 1 bit; R267; reset 0 -/
  changed : Bool := false
  /-- shed level; 2 bits; R283; reset 0 -/
  shedLevel : Nat := 0
  /-- consecutive overloaded cycles; 3 bits; R283; reset 0 -/
  overRun : Nat := 0
  /-- a G0 or G1 operation was held in this cycle though its inputs were in time; 1 bit; R283; reset 0 -/
  heldInTime : Bool := false
  /-- head time in ns since which the projection of the next lower level holds; 64 bits; R283; reset none -/
  lowSince : Option Nat := none
  /-- the network build is over and its full placement is to run; 1 bit; R267; reset 0 -/
  afterBuild : Bool := false
  /-- Moraine was reached: the wake runs a full placement and restores every axis; 1 bit; R277; reset 0 -/
  parked : Bool := false
  /-- cycle after whose window the gap of the two counts below began; 48 bits; R272; reset 0 -/
  gapOf : Nat := 0
  /-- commits made in the current gap; 6 bits; R272; reset 0 -/
  gapCommits : Nat := 0
  /-- axes restored in the current gap; 7 bits; R276; reset 0 -/
  gapRestores : Nat := 0
  /-- loaded modules, rising MODULE_ID; R316; reset those of the image -/
  modules : List Module := []
  /-- highest VERSION accepted since reset for each MODULE_ID; R311; reset none -/
  versions : List (Nat × Nat) := []
  /-- LOAD_MODULE in progress: MODULE_ID, TOTAL, bytes so far and head time ns of the last chunk; R316; reset none -/
  loading : Option (Nat × Nat × List Byte × Nat) := none
  deriving DecidableEq, Repr

end Sys2Proof.Machine
end

