-- ==== Sys2Proof/Machine/StCore.lean ====
section
/-! DEFINITION. The registers of a Tor and of a Massif core while an operation runs (Tables 11-1 and 11-12), which a context
save keeps (R299, R310). -/
namespace Sys2Proof.Machine

/-- A write to an address register that its readers see late (Table 11-7). -/
inductive LateWrite where
  | p (i v : Nat)
  | n (i : Nat) (v : Int)
  | l (i v : Nat)
  | adm (v : Nat)
  deriving DecidableEq, Repr

/-- Where a branch goes after its two delay slots (R296). -/
inductive Jump where
  | to (pc : Nat)
  | call (pc back : Nat)
  | ret
  | leave
  | done
  deriving DecidableEq, Repr

/-- A table load that runs: its terrain slot, the buffer it fills, and its COUNT (R305). -/
structure TableLoad where
  slot  : Nat
  useB  : Bool
  count : Nat
  deriving DecidableEq, Repr

/-- The registers of a Tor core (Table 11-1) and what its pipeline still holds back (Table 11-7). -/
structure TorState where
  pc     : Nat
  /-- D0-D7 after every instruction but the last -/
  d      : List Int := List.replicate 8 0
  /-- the last instruction's writes to D registers: by the MAC part or ALU, register, value -/
  recent : List (Bool × Nat × Int) := []
  a      : List Int := List.replicate 4 0
  p      : List Nat := List.replicate 8 0
  n      : List Int := List.replicate 8 1
  l      : List Nat := List.replicate 8 0
  adm    : Nat := 0
  /-- late writes, with the instructions until they are seen -/
  late   : List (Nat × LateWrite) := []
  /-- Z, N, V after the last instruction and after the two before it -/
  flags  : List (Bool × Bool × Bool) := List.replicate 3 (false, false, false)
  sat    : Bool := false
  tmiss  : Bool := false
  tlbusy : Bool := false
  /-- active block repeats, innermost first: first and last instruction, iterations left -/
  loops  : List (Nat × Nat × Nat) := []
  calls  : List Nat := []
  /-- delay slots left, and what follows them -/
  slot   : Option (Nat × Jump) := none
  /-- issues left of a repeated instruction -/
  rc     : Nat := 0
  /-- local words written -/
  mem    : List (Nat × Nat) := []
  /-- TLP, and the table load that runs -/
  tlp    : Nat := 0
  load   : Option TableLoad := none
  /-- CCNT -/
  clocks : Nat := 0
  slots  : List TerrainSlot
  /-- free values drawn -/
  drawn  : Nat
  done   : Bool := false
  deriving DecidableEq, Repr

/-- A write of a Massif operation that has not landed yet (R307). -/
inductive MassifWrite where
  /-- lanes of a physical vector register; a lane that is masked off keeps its value -/
  | v (reg : Nat) (lanes : List (Option Int))
  /-- lanes of a vector accumulator -/
  | va (reg : Nat) (lanes : List (Option Int))
  | s (reg : Nat) (value : Int)
  | q (reg value : Nat)
  | k (reg value : Nat)
  deriving DecidableEq, Repr

/-- The modulo loop that runs: the first instruction of its body, II and STAGES (R309). -/
structure ModuloLoop where
  start  : Nat
  length : Nat
  stages : Nat
  deriving DecidableEq, Repr

/-- The registers of a Massif core (Table 11-12) and the writes under way. -/
structure MassifState where
  pc     : Nat
  /-- V0-V31, then the 32 physical rotating registers; 8 lanes each -/
  v      : List (List Int) := List.replicate 64 (List.replicate 8 0)
  va     : List (List Int) := List.replicate 4 (List.replicate 8 0)
  s      : List Int := List.replicate 16 0
  q      : List Nat := List.replicate 8 0
  k      : List Nat := 0xFF :: List.replicate 7 0
  ring   : Nat := 0
  pass   : Nat := 0
  iter   : Nat := 0
  body   : Option ModuloLoop := none
  /-- writes under way, the oldest first, each with the clock at which it lands -/
  late   : List (Nat × MassifWrite) := []
  /-- what follows the delay slot -/
  slot   : Option Jump := none
  calls  : List Nat := []
  sat    : Bool := false
  /-- local words written -/
  mem    : List (Nat × Nat) := []
  clocks : Nat := 0
  /-- free values drawn -/
  drawn  : Nat
  done   : Bool := false
  deriving DecidableEq, Repr

/-- The context of an operation that was displaced (R282, R299, R310). -/
inductive CoreContext where
  | tor (s : TorState)
  | massif (s : MassifState)
  deriving DecidableEq, Repr

end Sys2Proof.Machine
end

