-- ==== Sys2Proof/Machine/StStepper.lean ====
section
/-! DEFINITION. State of the stepper axes and of the local stepper channels (chapter 12). -/
namespace Sys2Proof.Machine

/-- The setting of a stepper axis (SET_STEPPER). -/
structure StepperCfg where
  /-- MODE, Table 12-1; 8 bits; SET_STEPPER; reset DESIGN CHOICE 0 unset (log 1) -/
  mode : Nat := 0
  /-- STEP_SHIFT; 8 bits; R321; reset 0 -/
  stepShift : Nat := 0
  /-- STEP_WIDTH in 10 ns; 8 bits; R321; reset 100 -/
  stepWidth : Nat := 100
  /-- DIR_SETUP in 10 ns; 8 bits; R321; reset 20 -/
  dirSetup : Nat := 20
  /-- PWM_PERIOD in ticks; 16 bits; R322; reset 2,500 -/
  pwmPeriod : Nat := 2500
  /-- MSTEP_TABLE; 2 bits; R322; reset 0 -/
  table : Nat := 0
  /-- INVERT_DIR; 1 bit; R317; reset DESIGN CHOICE 0 (log 1) -/
  invertDir : Bool := false
  /-- REQUIRE_HOME; 1 bit; R331; reset DESIGN CHOICE 0 (log 1) -/
  requireHome : Bool := false
  /-- ENCODER; 1 bit; R327; reset DESIGN CHOICE 0 (log 1) -/
  encoder : Bool := false
  /-- I_FS in mA; 16 bits; R322; reset DESIGN CHOICE 1 (log 1) -/
  iFs : Nat := 1
  /-- R_COIL in mΩ; 16 bits; R322; reset DESIGN CHOICE 1 (log 1) -/
  rCoil : Nat := 1
  /-- KE in µV·s; 16 bits; R322; reset DESIGN CHOICE 0 (log 1) -/
  ke : Nat := 0
  /-- VBUS_NOM in 10 mV; 16 bits; R322; reset DESIGN CHOICE 100 (log 1) -/
  vbusNom : Nat := 100
  /-- VBUS_INPUT; 8 bits; R322; reset DESIGN CHOICE 0xFF (log 1) -/
  vbusInput : Nat := 0xFF
  /-- STALL_CYCLES; 8 bits; R329; reset 4 -/
  stallCycles : Nat := 4
  /-- VBUS_FS in 10 mV; 16 bits; R322; reset DESIGN CHOICE 1 (log 1) -/
  vbusFs : Nat := 1
  /-- I_MIN, Q1.23; 24 bits; R328; reset 0x266666 -/
  iMin : Int := 0x266666
  /-- I_MAX, Q1.23; 24 bits; R328; reset 0x733333 -/
  iMax : Int := 0x733333
  /-- I_HOLD, Q1.23; 24 bits; R328; reset 0x19999A -/
  iHold : Int := 0x19999A
  /-- HOLD_DELAY in ms; 16 bits; R328; reset 200 -/
  holdDelay : Nat := 200
  /-- LAMBDA_LOW in microsteps; 16 bits; R328; reset 32 -/
  lambdaLow : Nat := 32
  /-- LAMBDA_HIGH in microsteps; 16 bits; R328; reset 192 -/
  lambdaHigh : Nat := 192
  /-- LAMBDA_STALL in microsteps; 16 bits; R329; reset 224 -/
  lambdaStall : Nat := 224
  /-- ENC_SCALE, gain word; 24 bits; R327; reset DESIGN CHOICE 0 (log 1) -/
  encScale : Nat := 0
  /-- LIMIT_POS; 8 bits; R334; reset DESIGN CHOICE 0xFF none (log 1) -/
  limitPos : Nat := 0xFF
  /-- LIMIT_NEG; 8 bits; R334; reset DESIGN CHOICE 0xFF none (log 1) -/
  limitNeg : Nat := 0xFF
  /-- HOME_INPUT; 8 bits; R335; reset DESIGN CHOICE 0xFF none (log 1) -/
  homeInput : Nat := 0xFF
  /-- INPUT_LEVEL; 3 bits; SET_STEPPER; reset DESIGN CHOICE 0 (log 1) -/
  inputLevel : Nat := 0
  /-- CHATTER_EDGES; 8 bits; R338; reset 8 -/
  chatterEdges : Nat := 8
  /-- CHATTER_MS; 16 bits; R338; reset 100 -/
  chatterMs : Nat := 100
  deriving DecidableEq, Repr

/-- A planned trapezoid (R330): its start at head time `t0` and its phases (ns, acceleration in microsteps/s²).  A member
of a group follows the leader's trapezoid scaled (R332). -/
structure Ramp where
  t0     : Nat
  /-- position at t0, microsteps with 16 fraction bits; the leader's for a group -/
  p0     : Int
  /-- velocity at t0, microsteps/s -/
  v0     : Int
  phases : List (Nat × Int)
  /-- position from the end on, microsteps; the leader's for a group -/
  target : Int
  /-- own start (16 fraction bits), own distance and the leader's distance -/
  scale  : Option (Int × Int × Int)
  deriving DecidableEq, Repr

/-- STATE of GET_STEPPER. -/
inductive StepState where
  | idle | moving | stopping | homing
  deriving DecidableEq, Repr

/-- The phases of a homing sequence (Table 12-5). -/
inductive HomingPhase where
  | seek | ramp | back | toHome
  deriving DecidableEq, Repr

/-- A homing sequence in progress (R335). -/
structure Homing where
  mode    : Nat
  negative : Bool
  vcreep  : Nat
  homePos : Int
  maxDist : Nat
  phase   : HomingPhase
  /-- position at the start of the sequence and at the start of the reverse phase, microsteps -/
  start   : Int
  back    : Int
  /-- head time in ns of the start -/
  since   : Nat
  /-- head time of the first snapshot that showed the edge of the reverse phase, none before it (R335) -/
  edge    : Option Nat
  deriving DecidableEq, Repr

/-- A stepper axis (chapter 12). -/
structure Stepper where
  /-- setting; SET_STEPPER -/
  cfg : StepperCfg := {}
  /-- limit sets NORMAL, QSTOP, HOMING: VMAX and AMAX; Table 12-4 -/
  limits : List (Nat × Nat) := [(512000, 2560000), (1, 12800000), (128000, 2560000)]
  /-- commanded position, microsteps with 16 fraction bits; 64 bits; R330; reset DESIGN CHOICE 0 (log 1) -/
  pos : Int := 0
  /-- planned velocity, microsteps/s; 32 bits; GET_STEPPER; reset DESIGN CHOICE 0 (log 1) -/
  vel : Int := 0
  /-- plan that runs; R330; reset none -/
  ramp : Option Ramp := none
  /-- TARGET, microsteps; 32 bits; GET_STEPPER; reset DESIGN CHOICE 0 (log 1) -/
  target : Int := 0
  /-- STATE; 2 bits; GET_STEPPER; reset idle -/
  state : StepState := .idle
  /-- the stop that runs is a quick one; 1 bit; R333; reset 0 -/
  quick : Bool := false
  /-- the stop follows a fault that permits controlled stopping; 1 bit; R333; reset 0 -/
  faultStop : Bool := false
  /-- leader of the moving group this axis is a member of; 12 bits; R332; reset none -/
  group : Option Nat := none
  /-- homing in progress; R335; reset none -/
  homing : Option Homing := none
  /-- latched bits of STEP_FLAGS; 16 bits; Table 12-6; reset 0 -/
  flags : BitVec 16 := 0
  /-- HOMED when the axis last left ENABLED, kept for an axis with ENCODER set; 1 bit; R337; reset 0 -/
  keepHomed : Bool := false
  /-- λ in microsteps, none when unknown; 16 bits; R327; reset unknown -/
  lambda : Option Int := none
  /-- I, Q1.23; 24 bits; R328; reset DESIGN CHOICE 0 (log 1) -/
  amplitude : Int := 0
  /-- head time in ns of the last motion; 64 bits; R328; reset none -/
  lastMotion : Option Nat := none
  /-- consecutive cycles at I_MAX with |λ| above LAMBDA_STALL; 8 bits; R329; reset 0 -/
  stallRun : Nat := 0
  /-- ENC_OFFSET in microsteps; 32 bits; R327; reset DESIGN CHOICE 0 (log 1) -/
  encOffset : Int := 0
  /-- move descriptors 0-15: KIND and POSITION; SET_MOVE_DESC; reset DESIGN CHOICE 0 empty (log 1) -/
  descs : List (Nat × Int) := List.replicate 16 (0, 0)
  deriving DecidableEq, Repr

/-- A local stepper channel (R318-R323). -/
structure StepChannel where
  /-- ACC, with its position part extended by the counted wraps: microsteps with 32 fraction bits; 64 bits; R319; reset
  DESIGN CHOICE 0 (log 1) -/
  acc : Int := 0
  /-- VEL; 32 bits signed; R319; reset DESIGN CHOICE 0 (log 1) -/
  vel : Int := 0
  /-- VEL of the interval before the one that runs; 32 bits signed; R335; reset DESIGN CHOICE 0 (log 1) -/
  before : Int := 0
  /-- VEL written for the next interval; 32 bits signed; R320; reset DESIGN CHOICE 0 (log 1) -/
  next : Int := 0
  /-- N of the interval that runs, ticks; R320; reset 0 -/
  ticks : Nat := 0
  /-- head time in ns at which the interval opened; 64 bits; R320; reset 0 -/
  opened : Nat := 0
  /-- level of DIR; 1 bit; R321; reset DESIGN CHOICE 0 (log 1) -/
  dir : Bool := false
  /-- head time in ns of the last change of DIR; 64 bits; R321; reset none -/
  dirAt : Option Nat := none
  /-- head time in ns of the last rising edge of STEP; 64 bits; R321; reset none -/
  stepAt : Option Nat := none
  /-- head times in ns at which delayed pulses start; R321; reset none -/
  delayed : List Nat := []
  /-- duties PA1, PA2, PB1, PB2 in ticks of the PWM period; R322; reset 0 outputs low -/
  duty : Nat × Nat × Nat × Nat := (0, 0, 0, 0)
  /-- BFLT_N low; 1 bit; R323; reset DESIGN CHOICE 0 (log 1) -/
  fault : Bool := false
  deriving DecidableEq, Repr

end Sys2Proof.Machine
end

