-- ==== Sys2Proof/Machine/StMotion.lean ====
section
/-! DEFINITION. State of ranges, axes, movers (chapter 04), time base and calendar (07), loops (08), feedback and
observers (09). -/
namespace Sys2Proof.Machine

/-- Range states (Table 04-1). -/
inductive RangeState where
  | unused | stopped | running | belay
  deriving DecidableEq, Repr

/-- A range (Table 04-1). -/
structure Range where
  /-- DIVISOR; 8 bits; Table 04-1; reset 1 -/
  divisor : Nat := 1
  /-- RESCUE_DIVISOR; 8 bits; Table 04-1; reset 1 -/
  rescueDivisor : Nat := 1
  /-- CLASS G0-G3; 2 bits; Table 04-1; reset G1 -/
  cls : Nat := 1
  /-- STATE; 2 bits; Table 04-1; reset UNUSED -/
  state : RangeState := .unused
  /-- AUTO_RUN; 1 bit; Table 04-1; reset 0 -/
  autoRun : Bool := false
  /-- RANGE_START waits for its boundary; 1 bit; R97; reset 0 -/
  starting : Bool := false
  /-- RANGE_STOP waits for movers and steppers; 1 bit; R97; reset 0 -/
  stopping : Bool := false
  /-- shed by the placer; 1 bit; R284; reset 0 -/
  shed : Bool := false
  /-- (head time ns, held axis-cycles) of the cycles of the last 1 s, newest first; R233; reset none -/
  heldLog : List (Nat × Nat) := []
  /-- SHED_HOLDS; 32 bits; R284; reset DESIGN CHOICE 0 (log 1) -/
  shedHolds : Nat := 0
  /-- PEAK_1S; 32 bits; GET_OVERRUN; reset DESIGN CHOICE 0 (log 1) -/
  peak : Nat := 0
  /-- HOLD_FAULTS; 16 bits; GET_OVERRUN; reset DESIGN CHOICE 0 (log 1) -/
  holdFaults : Nat := 0
  deriving DecidableEq, Repr

/-- Axis kinds (Table 04-2). -/
inductive AxisKind where
  | segment | mover | stepper
  deriving DecidableEq, Repr

/-- Axis states (R101). -/
inductive AxisState where
  | disabled | enabled | belay
  deriving DecidableEq, Repr

/-- Loop state of an axis (Table 08-5) with the flags the next evaluation reads. -/
structure Loop where
  /-- IX, Q1.31; 32 bits; Table 08-5; reset 0 (R205) -/
  ix : Int := 0
  /-- IV, Q1.31; 32 bits; Table 08-5; reset 0 (R205) -/
  iv : Int := 0
  /-- S, Q1.23; 24 bits; Table 08-5; reset DESIGN CHOICE 0 (log 1) -/
  s : Int := 0
  /-- LAST_CMD, Q1.23; 24 bits; Table 08-5; reset DESIGN CHOICE 0 (log 1) -/
  lastCmd : Int := 0
  /-- STICKY; 16 bits; Table 08-4; reset 0 -/
  sticky : BitVec 16 := 0
  /-- position stage saturated at the last evaluation; 1 bit; R203; reset 0 -/
  satX : Bool := false
  /-- velocity stage saturated at the last evaluation; 1 bit; R203; reset 0 -/
  satV : Bool := false
  /-- vref of the last evaluation; 24 bits; R203; reset 0 -/
  vref : Int := 0
  /-- OVERRUNS; 32 bits; GET_LOOP; reset DESIGN CHOICE 0 (log 1) -/
  overruns : Nat := 0
  /-- consecutive held cycles of the range; R232; reset 0 -/
  holdRun : Nat := 0
  /-- consecutive cycles above FOLLOW_LIMIT; R206; reset 0 -/
  followRun : Nat := 0
  /-- cycles since the last terrain miss, up to 64; R210; reset 64 -/
  cleanRun : Nat := 64
  deriving DecidableEq, Repr

/-- Current loop of a segment axis (R215). -/
structure Current where
  /-- d integrator; Q1.23; R215; reset 0 -/
  intD : Int := 0
  /-- q integrator; Q1.23; R215; reset 0 -/
  intQ : Int := 0
  /-- u_d of the last evaluation; Q1.23; R215; reset 0 -/
  uD : Int := 0
  /-- u_q of the last evaluation; Q1.23; R215; reset 0 -/
  uQ : Int := 0
  /-- voltage limited at the last evaluation; 1 bit; R215; reset 0 -/
  limited : Bool := false
  /-- I_D measured; 24 bits; GET_LOOP; reset DESIGN CHOICE 0 (log 1) -/
  iD : Int := 0
  /-- I_Q measured; 24 bits; GET_LOOP; reset DESIGN CHOICE 0 (log 1) -/
  iQ : Int := 0
  /-- i_q* of the last evaluation; 24 bits; R212; reset 0 -/
  iqRef : Int := 0
  /-- i_d reference of the last evaluation; 24 bits; R216; reset 0 -/
  idRef : Int := 0
  deriving DecidableEq, Repr

/-- A profile limit set (Table 08-3). -/
structure Limits where
  vmax : Nat
  amax : Nat
  jmax : Nat
  deriving DecidableEq, Repr

/-- A planned jerk-limited profile (R218): its start state at head time `t0` and its phases (ns, jerk in µm/s³). -/
structure Plan where
  t0     : Nat
  /-- set-point at t0, units with 16 fraction bits -/
  x0     : Int
  /-- velocity at t0, µm/s -/
  v0     : Int
  /-- acceleration at t0, µm/s² -/
  a0     : Int
  phases : List (Nat × Int)
  /-- coordinate from the end instant on -/
  target : Int
  deriving DecidableEq, Repr

/-- MOVE of GET_LOOP. -/
inductive MoveState where
  | idle | moving | stopping | faultStop
  deriving DecidableEq, Repr

/-- What follows the end of a stop (R221, R222). -/
inductive AfterStop where
  | rest | disable | belay | rescue
  deriving DecidableEq, Repr

/-- The profile generator of a mover axis or rotary segment axis (R217-R223). -/
structure Motion where
  /-- x_set, units with 16 fraction bits; 64 bits; R218; reset 0 -/
  xSet : Int := 0
  /-- v_set, µm/s; 32 bits; GET_LOOP; reset 0 -/
  vSet : Int := 0
  /-- set-point acceleration, µm/s²; 32 bits; GET_LOOP; reset 0 -/
  aSet : Int := 0
  /-- profile that runs; R218; reset none -/
  plan : Option Plan := none
  /-- MOVE; 2 bits; GET_LOOP; reset idle -/
  move : MoveState := .idle
  /-- a quick stop; 1 bit; R223; reset 0 -/
  quick : Bool := false
  /-- limit set of the running move; 2 bits; R221; reset 0 -/
  set : Nat := 0
  /-- what follows the stop; R221; reset nothing -/
  after : AfterStop := .rest
  /-- cycles within IN_POS of the target; R219; reset 0 -/
  inPosRun : Nat := 0
  /-- cycles below 1,000 µm/s; R221; reset 0 -/
  restRun : Nat := 0
  /-- the start waits for the brakes until this head time in ns; R220; reset none -/
  brakeWait : Option Nat := none
  /-- target of the move whose start waits for the brakes; R220; reset none -/
  waitTarget : Option Int := none
  /-- BRAKE_RELEASE is sent; 1 bit; R220; reset 0 -/
  brakeRelease : Bool := false
  /-- head time in ns at which HOLD_DWELL ends; R220; reset none -/
  dwellEnd : Option Nat := none
  /-- head time in ns by which the segments are de-energised; R221; reset none -/
  dropAt : Option Nat := none
  /-- IN_POS in units; 32 bits; R219; reset 2,000 -/
  inPos : Nat := 2000
  /-- HOLD_DWELL in ms; 16 bits; R220; reset 1,000 -/
  holdDwell : Nat := 1000
  /-- consecutive cycles with Σc below 0.25; R213; reset 0 -/
  coverRun : Nat := 0
  /-- limit sets NORMAL, COMMISSION, RESCUE, QSTOP; Table 08-3 -/
  limits : List Limits :=
    [⟨1000000, 500000, 1000000⟩, ⟨250000, 250000, 500000⟩, ⟨500000, 500000, 1000000⟩, ⟨0, 2500000, 5000000⟩]
  deriving DecidableEq, Repr

/-- A sensor descriptor (Table 09-3). -/
structure Sensor where
  /-- KIND; 8 bits; Table 09-3; reset DESIGN CHOICE 0 none (log 1) -/
  kind : Nat := 0
  /-- BITS; 8 bits; Table 09-3; reset DESIGN CHOICE 0 (log 1) -/
  bits : Nat := 0
  /-- COUNT_NM; 16 bits; Table 09-3; reset DESIGN CHOICE 0 (log 1) -/
  countNm : Nat := 0
  /-- WINDOW; 32 bits; Table 09-3; reset DESIGN CHOICE 0 (log 1) -/
  window : Nat := 0
  /-- DIR; 1 bit; Table 09-3; reset DESIGN CHOICE 0 (log 1) -/
  dir : Bool := false
  deriving DecidableEq, Repr

/-- Exclusion of a source of fusion (R253). -/
structure SourceRun where
  /-- consecutive rejected cycles; R253; reset 0 -/
  rejected : Nat := 0
  /-- EXCLUDED; 1 bit; R253; reset 0 -/
  excluded : Bool := false
  /-- consecutive cycles with the residual within GATE while EXCLUDED; R253; reset 0 -/
  good : Nat := 0
  deriving DecidableEq, Repr

/-- Observer states (R256). -/
inductive ObsState where
  | noFix | settling | tracking | predicting
  deriving DecidableEq, Repr

/-- What SET_OBSERVER gives an observer (R252, R255, R257). -/
structure ObsSetting where
  bw          : Nat
  bwRescue    : Nat
  gate        : Nat
  agree       : Nat
  predLimit   : Nat
  scaleOffset : Int
  deriving DecidableEq, Repr

/-- A tracking observer (R254-R258). -/
structure Observer where
  /-- the setting that waits for the next update; SET_OBSERVER; reset none -/
  next : Option ObsSetting := none
  /-- X_HAT, 16 fraction bits; 48 bits; Table 09-4; reset 0 -/
  x : Int := 0
  /-- V_HAT, 16 fraction bits; 48 bits; Table 09-4; reset 0 -/
  v : Int := 0
  /-- A_HAT, 8 fraction bits; 40 bits; Table 09-4; reset 0 -/
  a : Int := 0
  /-- STATE; 2 bits; Table 09-4; reset NO_FIX -/
  state : ObsState := .noFix
  /-- PRED_RUN; 8 bits; Table 09-4; reset 0 -/
  predRun : Nat := 0
  /-- BW in 0.1 Hz; 16 bits; R255; reset 1,000 -/
  bw : Nat := 1000
  /-- BW_RESCUE in 0.1 Hz; 16 bits; R255; reset 250 -/
  bwRescue : Nat := 250
  /-- GATE in units; 32 bits; R252; reset 4,000 -/
  gate : Nat := 4000
  /-- AGREE in units; 32 bits; R252; reset 400 -/
  agree : Nat := 400
  /-- PRED_LIMIT; 8 bits; R257; reset 16 -/
  predLimit : Nat := 16
  /-- SCALE_OFFSET; 32 bits; SET_OBSERVER; reset 0 -/
  scaleOffset : Int := 0
  /-- updates left in SETTLING; R256; reset 0 -/
  settle : Nat := 0
  /-- BW_CLIPPED; 1 bit; R255; reset 0 -/
  clipped : Bool := false
  /-- DISAGREE in the last cycle; 1 bit; GET_OBSERVER; reset 0 -/
  disagree : Bool := false
  /-- RESIDUAL in units; 32 bits; GET_OBSERVER; reset DESIGN CHOICE 0 (log 1) -/
  residual : Int := 0
  /-- WINDOW_ERR; 16 bits; GET_OBSERVER; reset DESIGN CHOICE 0 (log 1) -/
  windowErr : Nat := 0
  /-- STRAY; 16 bits; GET_OBSERVER; reset DESIGN CHOICE 0 (log 1) -/
  stray : Nat := 0
  /-- SOURCES of the last cycle; 17 bits; GET_OBSERVER; reset DESIGN CHOICE 0 (log 1) -/
  sources : Nat := 0
  /-- readings of one lone source in consecutive cycles, with the source, newest first, at most 4; R256; reset none -/
  lone : List (Nat × Int) := []
  /-- a local channel's observer has lost position; 1 bit; R257; reset 0 -/
  lost : Bool := false
  /-- the estimate used in the last cycle, X_HAT of GET_LOOP in units; 32 bits; GET_LOOP; reset DESIGN CHOICE 0 (log 1) -/
  used : Int := 0
  deriving DecidableEq, Repr

/-- Progress of an axis's graph in the current cycle (R201, R229). -/
inductive GraphState where
  | waiting | ready | complete | abandoned
  deriving DecidableEq, Repr

/-- The values of an axis's graph while it runs (R201-R216, Table 11-16); nothing of it is committed before the graph ends
(R229). -/
structure Work where
  /-- operations of the graph that have run (R279) -/
  step     : Nat := 0
  /-- head time in ns at which the next one became ready -/
  since    : Nat
  /-- the cycle's uplink reading is used (R216) -/
  used     : Bool := false
  /-- AUX_VALID -/
  auxValid : Bool := false
  iU       : Int := 0
  iV       : Int := 0
  aux      : Int := 0
  /-- force command of the mover, or of the rotary axis itself -/
  force    : Int := 0
  /-- F_fric and i_cog (R209) -/
  fric     : Int := 0
  cog      : Int := 0
  iqRef    : Int := 0
  idRef    : Int := 0
  dutyU    : Nat := 0
  dutyV    : Nat := 0
  dutyW    : Nat := 0
  /-- loop instances after their evaluation (R203) -/
  loop     : Loop := {}
  /-- force loop after its evaluation (R215) -/
  current  : Current := {}
  /-- the set-point of the cycle (R218): x_set, v_set, a_set -/
  xSet     : Int := 0
  vSet     : Int := 0
  aSet     : Int := 0
  /-- STICKY bits met so far (R224, R291) -/
  sticky   : BitVec 16 := 0
  /-- private words that custom operations have written, by hook (R294) -/
  priv     : List (Nat × List Nat) := []
  /-- the context of a custom operation that was displaced (R299, R310) -/
  ctx      : Option CoreContext := none
  /-- clocks that the last operation used (R280, R283) -/
  took     : Nat := 0
  deriving DecidableEq, Repr

/-- The copy of an axis's loop state that the head keeps from the last completed cycle (R276). -/
structure Kept where
  /-- loop state; 16 bytes; R276; reset as Table 08-5 -/
  loop : Loop := {}
  /-- profile; 64 bytes; R276; reset as R217 -/
  motion : Motion := {}
  /-- observer of a rotary axis; R276; reset NO_FIX -/
  obs : Observer := {}
  deriving DecidableEq, Repr

/-- An axis (R99-R101, R105). -/
structure Axis where
  /-- identifier; 12 bits; R99 -/
  id : Nat
  /-- KIND; 8 bits; Table 04-2 -/
  kind : AxisKind
  /-- RANGE; 3 bits; R98 -/
  range : Nat
  /-- LOCATION; 16 bits; DEFINE_AXIS -/
  location : Nat
  /-- TRACK; 8 bits; DEFINE_AXIS -/
  track : Nat
  /-- SEG_INDEX; 16 bits; R100 -/
  segIndex : Nat
  /-- SEG_START; 32 bits signed; R100 -/
  segStart : Int
  /-- SEG_LENGTH; 32 bits; R100 -/
  segLength : Nat
  /-- STATE; 2 bits; R101; reset DISABLED -/
  state : AxisState := .disabled
  /-- EPOCH of the last decided change; 8 bits; R105; reset 0 -/
  epoch : Nat := 0
  /-- EPOCH_CYCLE; 48 bits; GET_AXIS; reset 0 -/
  epochCycle : Nat := 0
  /-- BIND_TIMEOUT has been raised for the epoch in force (R111); reset DESIGN CHOICE false (log 1). -/
  bindTimedOut : Bool := false
  /-- mover of the last decided binding; 8 bits; R104; reset none -/
  mover : Option Nat := none
  /-- epoch in force; 8 bits; R105; reset 0 -/
  epochNow : Nat := 0
  /-- mover of the binding in force; 8 bits; R106; reset none -/
  moverNow : Option Nat := none
  /-- EPOCH_NEW is to be sent; 1 bit; R111; reset 0 -/
  epochNew : Bool := false
  /-- epoch of the last uplink record since the change; 8 bits; R111; reset none -/
  upEpoch : Option Nat := none
  /-- STALE_HOST; 16 bits; R109; reset 0 -/
  staleHost : Nat := 0
  /-- STALE_UP; 16 bits; R113; reset 0 -/
  staleUp : Nat := 0
  /-- NODE_MISMATCH; 16 bits; R112; reset 0 -/
  nodeMismatch : Nat := 0
  /-- blend coverage, Q1.23; 24 bits; R211; reset 0 -/
  coverage : Nat := 0
  /-- consecutive cycles with coverage 0; R114; reset DESIGN CHOICE 0 (log 1) -/
  zeroRun : Nat := 0
  /-- loop state; Table 08-5 -/
  loop : Loop := {}
  /-- current loop; R215 -/
  current : Current := {}
  /-- profile generator, rotary and mover axes; R217 -/
  motion : Motion := {}
  /-- observer of a rotary axis; R254 -/
  obs : Observer := {}
  /-- NORMAL coefficient words 0x00-0x3F, by index; 24 bits each; Table 08-6 -/
  coeff : List Nat
  /-- RESCUE coefficient words 0x40-0x7F; 24 bits each; Table 08-6 -/
  coeffRescue : List Nat
  /-- words waiting to land, in order, at most 64; R227; reset none -/
  pending : List (Nat × Nat) := []
  /-- sensor descriptor of SET_SENSOR; Table 09-3 -/
  sensor : Sensor := {}
  /-- W_ORIGIN; 32 bits signed; R248; reset DESIGN CHOICE 0 (log 1) -/
  wOrigin : Int := 0
  /-- the node's descriptor differs; 1 bit; R247; reset 0 -/
  mismatch : Bool := false
  /-- reading the node's sensor descriptor still waits for room in the branch queue; 1 bit; R164; reset 0 -/
  descDue : Bool := false
  /-- exclusion of its sensor; R253 -/
  source : SourceRun := {}
  /-- cycle of the last SENSOR_STRAY; 48 bits; R249; reset none -/
  strayCycle : Option Nat := none
  /-- progress of the graph in this cycle; R229; reset waiting -/
  graph : GraphState := .waiting
  /-- last downlink record sent, 12 bytes; R229; reset MODE OFF -/
  record : List Byte := List.replicate 12 0
  /-- record of the graph that is complete, 12 bytes; R229; reset none -/
  packed : Option (List Byte) := none
  /-- uplink record of this cycle that is used, 20 bytes; R216; reset none -/
  uplink : Option (List Byte) := none
  /-- status word of the last valid uplink record; 32 bits; Table 06-8; reset DESIGN CHOICE 0 (log 1) -/
  status : Nat := 0
  /-- stepper axis; chapter 12 -/
  step : Stepper := {}
  /-- place; R266 -/
  place : Place := {}
  /-- attached custom operations, rising hook; R315; reset none -/
  hooks : List Attachment := []
  /-- values of the graph that runs; R279; reset none -/
  work : Option Work := none
  /-- values of the graph that committed in this cycle, which the probes read; R341; reset none -/
  done : Option Work := none
  /-- a coefficient word has landed in this cycle; 1 bit; R227; reset 0 -/
  landed : Bool := false
  /-- this cycle's hold is counted; 1 bit; R229; reset 0 -/
  held : Bool := false
  /-- copy kept from the last completed cycle; R276 -/
  kept : Kept := {}
  deriving DecidableEq, Repr

/-- A mover (R102). -/
structure Mover where
  /-- number; 8 bits; R102 -/
  id : Nat
  /-- AXIS; 12 bits; DEFINE_MOVER -/
  axis : Nat
  /-- TRACK; 6 bits; R103 -/
  track : Nat
  /-- AUTO_HANDOVER; 1 bit; R114; reset 1 -/
  autoHandover : Bool := true
  /-- NOTIFY_BIND; 1 bit; DEFINE_MOVER; reset 0 -/
  notifyBind : Bool := false
  /-- LENGTH; 32 bits; R102 -/
  length : Nat
  /-- LEAD; 32 bits; R102; reset 4,000,000 -/
  lead : Nat := 4000000
  /-- LAG; 32 bits; R102; reset 2,000,000 -/
  lag : Nat := 2000000
  /-- HYST; 32 bits; R102; reset 200,000 -/
  hyst : Nat := 200000
  /-- COORD of the last DEFINE_MOVER or SET_MOVER_TRACK; 32 bits signed; R250 -/
  coord : Int
  /-- BLEND_TABLE; 8 bits; R211; reset DESIGN CHOICE 0 (log 1) -/
  blend : Nat := 0
  /-- MAG_INSET; 32 bits; R211; reset 0 -/
  magInset : Nat := 0
  /-- observer; R254 -/
  obs : Observer := {}
  /-- readings of this cycle: source (segment axis, or 0x2000 + channel) and z with 8 fraction bits; R252; reset none -/
  inbox : List (Nat × Int) := []
  /-- the cut-off of this cycle has passed; 1 bit; R201; reset 0 -/
  cut : Bool := false
  /-- force command of this cycle; Q1.23; R200; reset none -/
  force : Option Int := none
  /-- landing the rescue plan goes to; 32 bits; R58; reset none -/
  rescueTarget : Option Int := none
  /-- last x̂ the calendar used, units; 32 bits; R198; reset none -/
  calX : Option Int := none
  deriving DecidableEq, Repr

/-- A track: its gap rule and its landing table (R117, R219). -/
structure Track where
  /-- GAP_SEGMENTS; 8 bits; R117; reset 2 -/
  gap : Nat := 2
  /-- TRAVEL_LOW and TRAVEL_HIGH; 32 bits each; R219; reset none before the image -/
  travel : Option (Int × Int) := none
  /-- landing coordinates, ascending, at most 128; R219; reset none -/
  landings : List Int := []
  deriving DecidableEq, Repr

/-- A binding change decided and not yet in force (R106). -/
structure BindChange where
  axis  : Nat
  /-- mover after the change -/
  mover : Option Nat
  /-- mover named in BINDING_CHANGED -/
  named : Nat
  epoch : Nat
  /-- cycle from which it is in force -/
  cycle : Nat
  /-- SOURCE of the event: 0, 1 host item, 2 calendar -/
  source : Nat
  deriving DecidableEq, Repr

/-- A deferred calendar binding change (R106) or release (R114). -/
structure DeferredBind where
  axis  : Nat
  mover : Nat
  bind  : Bool
  /-- first cycle in which it may be decided; for a release, the coverage condition decides -/
  cycle : Nat
  entry : Nat
  deriving DecidableEq, Repr

/-- A terrain table of the image (Table 08-2). -/
structure Terrain where
  id          : Nat
  cogging     : Bool
  periodic    : Bool
  origin      : Int
  spacingLog2 : Nat
  entries     : List Int
  deriving DecidableEq, Repr

/-- States of a calendar entry (R189); SPENT entries are freed. -/
inductive EntryState where
  | armed | waiting
  deriving DecidableEq, Repr

/-- A calendar entry (R189, ARM_CONTOUR). -/
structure CalEntry where
  entry  : Nat
  mover  : Nat
  track  : Nat
  /-- DIR: 0 EITHER, 1 UP, 2 DOWN -/
  dir    : Nat
  rearm  : Bool
  notify : Bool
  action : Nat
  coord  : Int
  hyst   : Nat
  /-- ACTION_PARAM, 16 bytes -/
  param  : List Byte
  state  : EntryState
  /-- FIRED, 32 bits -/
  fired  : Nat
  /-- LAST_CYCLE, 48 bits -/
  last   : Nat
  /-- crossed, but beyond the 256th entry of its cycle (R196) -/
  missed : Bool
  deriving DecidableEq, Repr

/-- A local action placed on a comparator of the calendar (R186). -/
structure Comparator where
  /-- t*, head time in ns -/
  time   : Nat
  entry  : Nat
  mover  : Nat
  action : Nat
  param  : List Byte
  deriving DecidableEq, Repr

/-- A NODE_ACTION request that waits to be sent (R194, R195). -/
structure CalAction where
  entry : Nat
  mover : Nat
  node  : Nat
  /-- node action code -/
  code  : Nat
  cyc8  : Nat
  /-- cycle k, by whose end it is to be sent -/
  cycle : Nat
  deriving DecidableEq, Repr

/-- An entry that fired, as it stood (R193). -/
structure Fired where
  entry     : CalEntry
  /-- t* − T of the cycle of t*, ns -/
  offset    : Nat
  predicted : Bool
  late      : Bool
  deriving DecidableEq, Repr

/-- A general trigger (Table 07-3). -/
structure Trigger where
  /-- MODE; 8 bits; Table 07-3; reset DESIGN CHOICE 0 OFF (log 1) -/
  mode : Nat := 0
  /-- DIV; 9 bits; Table 07-3; reset DESIGN CHOICE 1 (log 1) -/
  div : Nat := 1
  /-- PHASE; 8 bits; Table 07-3; reset DESIGN CHOICE 0 (log 1) -/
  phase : Nat := 0
  /-- OFFSET; 16 bits; Table 07-3; reset DESIGN CHOICE 0 (log 1) -/
  offset : Nat := 0
  /-- START in ns; 64 bits; Table 07-3; reset DESIGN CHOICE 0 (log 1) -/
  start : Nat := 0
  /-- PERIOD in 2⁻¹⁶ ns; 48 bits; Table 07-3; reset DESIGN CHOICE 0 (log 1) -/
  period : Nat := 0
  /-- next instant in 2⁻¹⁶ ns; 80 bits; R187; reset none -/
  next : Option Nat := none
  /-- TRIG_MERGED; 32 bits; R187; reset 0 -/
  merged : Nat := 0
  deriving DecidableEq, Repr

/-- Servo states (R178). -/
inductive Servo where
  | free | acquiring | tracking | locked | holdover
  deriving DecidableEq, Repr

/-- A Sync whose origin is still to come (R177, R184). PRESUMED (log 13). -/
structure PtpSync where
  sequence   : Nat
  /-- receive stamp on the line, 2⁻¹⁶ ns -/
  receipt    : Int
  /-- correctionField of the Sync, 2⁻¹⁶ ns -/
  correction : Int
  deriving DecidableEq, Repr

/-- A Delay_Req or Pdelay_Req that waits for its answer (R177, R184). PRESUMED (log 13). -/
structure PtpRequest where
  /-- messageType: 1 Delay_Req, 2 Pdelay_Req -/
  type     : Nat
  sequence : Nat
  /-- the origin and the receipt of the Sync it follows, 2⁻¹⁶ ns -/
  origin   : Int
  receipt  : Int
  /-- its transmit stamp, once the firmware has read it (R184), 2⁻¹⁶ ns -/
  stamp    : Option Int
  /-- a two-step Pdelay_Resp has come: its request receipt time, and its receive stamp, 2⁻¹⁶ ns -/
  response : Option (Int × Int)
  deriving DecidableEq, Repr

/-- A Pdelay_Resp that waits for its own transmit stamp (R177, R184). PRESUMED (log 13). -/
structure PtpAnswer where
  sequence   : Nat
  requester  : List Byte
  /-- correctionField of the request, 2⁻¹⁶ ns -/
  correction : Int
  deriving DecidableEq, Repr

/-- A PTP port (R177, R183-R185, GET_PTP_PORT). PRESUMED (log 6). -/
structure PtpPort where
  /-- PORT_STATE; 8 bits; GET_PTP_PORT; reset PRESUMED 1 INITIALIZING, IEEE 1588 (log 6) -/
  state : Nat := 1
  /-- transmit stamps: identifier and stamp in 2⁻⁸ ns, oldest first, at most 16; R184; reset none -/
  stamps : List (Nat × Nat) := []
  /-- TSQ_DROPPED; 32 bits; R185; reset 0 -/
  dropped : Nat := 0
  /-- TSQ_OVERFLOW; 1 bit; R185; reset 0 -/
  overflow : Bool := false
  /-- MEAN_PATH in ns; 64 bits; GET_PTP_PORT; reset DESIGN CHOICE 0 (log 1) -/
  meanPath : Nat := 0
  /-- PORT_OFFSET in ns; 64 bits signed; GET_PTP_PORT; reset DESIGN CHOICE 0 (log 1) -/
  offset : Int := 0
  /-- TX_EXT in 1/16 ns; 32 bits signed; Table 07-2; reset 0 -/
  txExt : Int := 0
  /-- RX_EXT in 1/16 ns; 32 bits signed; Table 07-2; reset 0 -/
  rxExt : Int := 0
  /-- the last exchanges: (offset, path delay) in ns, newest first, at most 4; R178; reset none -/
  exchanges : List (Int × Int) := []
  /-- data set of the best Announce heard, a lower number the better; 208 bits; Table 07-1; reset none -/
  best : Option Nat := none
  /-- the last Sync of the master chosen, which waits for its Follow_Up; Table 07-1; reset none -/
  sync : Option PtpSync := none
  /-- the request that waits for its answer; Table 07-1; reset none -/
  request : Option PtpRequest := none
  /-- answers that wait for their transmit stamps; Table 07-1; reset none -/
  answers : List PtpAnswer := []
  /-- path delay to the neighbour in ns, under P2P; Table 07-1; reset none -/
  linkDelay : Option Int := none
  /-- sequenceId of the next request; 16 bits; R184; reset PRESUMED 0 (log 13) -/
  sequence : Nat := 0
  deriving DecidableEq, Repr

/-- The time base and the calendar (chapter 07). -/
structure TimeBase where
  /-- head time in 2⁻³² ns; 96 bits; R174; reset from the RTC, DESIGN CHOICE 0 before the load (log 1) -/
  head : Nat := 0
  /-- INCR in 2⁻³² ns; 36 bits; R174; reset nominal 0x8_0000_0000 -/
  incr : Nat := 0x800000000
  /-- cycle number; 48 bits; R10; reset DESIGN CHOICE 0 (log 1) -/
  cycle : Nat := 0
  /-- T_k in ns; 64 bits; R176; reset DESIGN CHOICE 0 (log 1) -/
  cycleStart : Nat := 0
  /-- SERVO; 3 bits; Table 07-4; reset 0 FREE -/
  servo : Servo := .free
  /-- STEP_OPEN; 1 bit; Table 07-4; reset 1 -/
  stepOpen : Bool := true
  /-- STEPPED; 1 bit; Table 07-4; reset 0 -/
  stepped : Bool := false
  /-- TIME_FAR; 1 bit; Table 07-4; reset 0 -/
  far : Bool := false
  /-- RATE_CLAMPED; 1 bit; Table 07-4; reset 0 -/
  clamped : Bool := false
  /-- SOURCE in use; 2 bits; Table 07-4; reset 0 NONE -/
  source : Nat := 0
  /-- SOURCE configured, true for PTP; 8 bits; SET_TIME_SOURCE; reset 0 until the image -/
  ptp : Bool := false
  /-- DOMAIN; 8 bits; Table 07-1; reset 0 -/
  domain : Nat := 0
  /-- PORT_MECH; 4 bits; SET_TIME_SOURCE; reset DESIGN CHOICE 0 until the image (log 1) -/
  portMech : Nat := 0
  /-- SERVO_BW in 0.01 Hz; 8 bits; R178; reset 10 -/
  servoBw : Nat := 10
  /-- STEP_MIN in ns; 32 bits; R179; reset 1,000 -/
  stepMin : Nat := 1000
  /-- FAR_THRESHOLD in ns; 32 bits; R181; reset 10,000 -/
  farThreshold : Nat := 10000
  /-- OFFSET last measured in ns; 64 bits signed; GET_TIME; reset 0 -/
  offset : Int := 0
  /-- head time in ns of the last valid offset; 64 bits; R178; reset 0 -/
  offsetAt : Nat := 0
  /-- STEP Δ in ns; 64 bits signed; GET_TIME; reset 0 none -/
  stepDelta : Int := 0
  /-- step due at the next cycle boundary; R179; reset none -/
  stepDue : Option Int := none
  /-- first cycle at whose boundary the step may be made; 48 bits; R179; reset 0 -/
  stepCycle : Nat := 0
  /-- updates below 100 ns in a row; R178; reset 0 -/
  lockRun : Nat := 0
  /-- updates below FAR_THRESHOLD ÷ 2 in a row; R181; reset 0 -/
  nearRun : Nat := 0
  /-- the settings of SET_TIME_SOURCE wait for the next servo update; R199; reset none -/
  settings : Option (Bool × Nat × Nat × Nat × Nat × Nat) := none
  /-- PTP ports 0 and 1; R185 -/
  ports : List PtpPort := [{}, {}]
  /-- general triggers 0-7; R186 -/
  triggers : List Trigger := List.replicate 8 {}
  deriving DecidableEq, Repr

/-- The contour calendar (R189-R198). -/
structure Calendar where
  /-- entries, rising number, of the 8,192; R189; reset all free -/
  entries : List CalEntry := []
  /-- local actions placed on the comparators; R186; reset none -/
  comparators : List Comparator := []
  /-- NODE_ACTION requests queued and not yet sent; R195; reset none -/
  actions : List CalAction := []
  /-- entries fired in this cycle, carried out as the next one opens, in the order of their crossing instants; R193;
  reset none -/
  fired : List Fired := []
  /-- the evaluation of this cycle has been made; 1 bit; R190; reset 0 -/
  evaluated : Bool := false
  deriving DecidableEq, Repr

/-- Channel modes and use (SET_CHANNEL). -/
structure ChannelCfg where
  /-- MODE; 8 bits; Table 09-1; reset 0 -/
  mode : Nat := 0
  /-- USE; 8 bits; R237; reset 0 -/
  use : Nat := 0
  /-- OWNER; 16 bits; SET_CHANNEL; reset DESIGN CHOICE 0xFFFF (log 1) -/
  owner : Nat := 0xFFFF
  /-- FILTER; 8 bits; R236; reset 2 -/
  filter : Nat := 2
  /-- FLAGS; 8 bits; SET_CHANNEL; reset DESIGN CHOICE 0 (log 1) -/
  flags : Nat := 0
  /-- DIR_HYST; 16 bits; R240; reset 4 -/
  dirHyst : Nat := 4
  /-- CPR; 32 bits; R239; reset DESIGN CHOICE 0 (log 1) -/
  cpr : Nat := 0
  /-- INDEX_TOL; 8 bits; R239; reset 2 -/
  indexTol : Nat := 2
  /-- SSI_BITS; 8 bits; R241; reset DESIGN CHOICE 0 (log 1) -/
  ssiBits : Nat := 0
  /-- POS_BITS; 8 bits; R241; reset DESIGN CHOICE 0 (log 1) -/
  posBits : Nat := 0
  /-- LEAD_BITS; 8 bits; R241; reset DESIGN CHOICE 0 (log 1) -/
  leadBits : Nat := 0
  /-- ERR_BIT; 8 bits; R241; reset DESIGN CHOICE 0xFF (log 1) -/
  errBit : Nat := 0xFF
  /-- CLK_DIV; 16 bits; R241; reset DESIGN CHOICE 10 (log 1) -/
  clkDiv : Nat := 10
  /-- DATA_DELAY; 16 bits; R241; reset DESIGN CHOICE 0 (log 1) -/
  dataDelay : Nat := 0
  /-- RESYNC_GAP; 8 bits; R243; reset 8 -/
  resyncGap : Nat := 8
  /-- RESYNC_COUNT; 8 bits; R243; reset 4 -/
  resyncCount : Nat := 4
  /-- PLAUS; 32 bits; R243; reset 1,024 -/
  plaus : Nat := 1024
  /-- DIV_N; 16 bits; R245; reset DESIGN CHOICE 1 (log 1) -/
  divN : Nat := 1
  /-- DIV_M; 16 bits; R245; reset DESIGN CHOICE 0 (log 1) -/
  divM : Nat := 0
  /-- TRACK_ORIGIN; 32 bits signed; SET_CHANNEL; reset DESIGN CHOICE 0 (log 1) -/
  trackOrigin : Int := 0
  /-- COUNT_NM; 16 bits; SET_CHANNEL; reset DESIGN CHOICE 0 (log 1) -/
  countNm : Nat := 0
  deriving DecidableEq, Repr

/-- A local feedback channel (R235-R246). -/
structure Feedback where
  /-- setting in force; SET_CHANNEL -/
  cfg : ChannelCfg := {}
  /-- setting that waits for the next cycle boundary; SET_CHANNEL; reset none -/
  next : Option ChannelCfg := none
  /-- count; 32 bits; R238; reset 0 -/
  count : Nat := 0
  /-- COUNT latched at the last cycle trigger; 32 bits; R237; reset 0 -/
  latched : Nat := 0
  /-- CH_FLAGS; 16 bits; Table 09-2; reset 0 -/
  flags : BitVec 16 := 0
  /-- INDEX_COUNT; 32 bits; R239; reset DESIGN CHOICE 0 (log 1) -/
  indexCount : Nat := 0
  /-- INDEX_DELTA; 32 bits signed; R239; reset DESIGN CHOICE 0 (log 1) -/
  indexDelta : Int := 0
  /-- INDEX_TIME in ns; 64 bits; R239; reset DESIGN CHOICE 0 (log 1) -/
  indexTime : Nat := 0
  /-- INDEX_DIR, none before the first latch; 1 bit; R239; reset none -/
  indexDir : Option Bool := none
  /-- QUAD_ERRORS; 16 bits; R238; reset 0 -/
  quadErrors : Nat := 0
  /-- ABORTS; 16 bits; GET_CHANNEL; reset 0 -/
  aborts : Nat := 0
  /-- Hall sector, none outside HALL or for an invalid code; 8 bits; R244; reset none -/
  sector : Option Nat := none
  /-- counts made in the new direction and head time of the first; R240; reset none -/
  dirRun : Nat × Nat := (0, 0)
  /-- a DIRECTION event was posted in this cycle; 1 bit; R240; reset 0 -/
  dirPosted : Bool := false
  /-- cycle of the last illegal sample; 48 bits; R238; reset none -/
  quadCycle : Option Nat := none
  /-- cycle of the last HALL_INVALID event; 48 bits; R244; reset none -/
  hallCycle : Option Nat := none
  /-- an SSI frame runs; 1 bit; R241; reset 0 -/
  ssiBusy : Bool := false
  /-- a usable SSI frame arrived since the last cycle trigger; 1 bit; R243; reset 0 -/
  fresh : Bool := false
  /-- cycle triggers since the last usable frame; R243; reset 0 -/
  silence : Nat := 0
  /-- silence length reported by RESYNCED; R243; reset 0 -/
  outage : Nat := 0
  /-- plausible frames of the RESYNC run, newest first; R243; reset none -/
  run : List Nat := []
  /-- divider accumulator; 17 bits; R245; reset 0 -/
  divAcc : Nat := 0
  /-- toggles waiting; 8 bits; R245; reset 0 -/
  divWait : Nat := 0
  /-- toggles that wait for the next cycle, in SSI mode; 8 bits; R245; reset 0 -/
  divNext : Nat := 0
  /-- head time in ns from which the next toggle may leave; 64 bits; R245; reset DESIGN CHOICE 0 (log 1) -/
  divAt : Nat := 0
  /-- least time in ns between toggles; 20, or a share of the cycle in SSI mode; 32 bits; R245; reset 20 -/
  divGap : Nat := 20
  /-- DIVn level; 1 bit; R245; reset low (Table 19-2) -/
  divLevel : Bool := false
  /-- observer; R254 -/
  obs : Observer := {}
  /-- exclusion as a source of fusion; R253 -/
  source : SourceRun := {}
  deriving DecidableEq, Repr

end Sys2Proof.Machine
end

