-- ==== Sys2Proof/Machine/StNet.lean ====
section
/-! DEFINITION. State of Geunet: schedules, branches, positions, lanes, dynamic segment (chapters 05 and 06). -/
namespace Sys2Proof.Machine

/-- A position entry of a schedule (Table 05-4). -/
structure PositionEntry where
  spur     : Bool
  axes     : Nat
  identity : Nat
  deriving DecidableEq, Repr

/-- A branch descriptor with its positions (Table 05-3). -/
structure BranchEntry where
  branch    : Nat
  join      : Bool
  slot      : Nat
  hop       : Nat
  positions : List PositionEntry
  deriving DecidableEq, Repr

/-- A track entry (Table 05-5). -/
structure TrackEntry where
  check   : Bool
  endLow  : Nat
  endHigh : Nat
  deriving DecidableEq, Repr

/-- A schedule of the configuration image (Table 05-2). -/
structure Schedule where
  schedId      : Nat
  /-- KIND: false base, true rescue -/
  rescue       : Bool
  /-- RATE: 0 8 kHz, 1 16 kHz, 2 32 kHz, 3 64 kHz -/
  rate         : Nat
  upStart      : Nat
  pipe         : Nat
  dynStart     : Nat
  join         : Nat
  mini         : Nat
  miniCount    : Nat
  window       : Nat
  babbleLimit  : Nat
  joinEnable   : Bool
  babbleWindow : Nat
  branches     : List BranchEntry
  tracks       : List TrackEntry
  deriving DecidableEq, Repr

/-- The kinds of schedule of SCHED_KIND (Table 06-3). -/
inductive SchedKind where
  | base | rescue | col | valley
  deriving DecidableEq, Repr

/-- Result of a timing check (R144): passed, not run, or the first failing item of Table 05-6 and its branch. -/
inductive CheckResult where
  | passed
  | notRun
  | failed (item branch : Nat)
  deriving DecidableEq, Repr

/-- An announced schedule switch (R128). -/
structure SchedSwitch where
  next  : SchedKind
  cycle : Nat
  /-- the lanes turn off at the switch cycle (the park before Moraine, R54) -/
  park  : Bool
  deriving DecidableEq, Repr

/-- The state of one channel of a branch (R133, R145, R163). -/
structure Channel where
  /-- cut; 1 bit; R133; reset 0 -/
  cut : Bool := false
  /-- line errors of frames the standby head forwarded from this channel; 32 bits; R25; reset 0 -/
  fwdErr : Nat := 0
  /-- cut due at the next cycle boundary; 1 bit; R133; reset 0 -/
  cutDue : Bool := false
  /-- restore due at the next cycle boundary; 1 bit; R145; reset 0 -/
  restoreDue : Bool := false
  /-- OOW; 32 bits; GET_BRANCH; reset 0 -/
  oow : Nat := 0
  /-- cycles of the recent out-of-window frames, newest first; R133; reset none -/
  oowCycles : List Nat := []
  /-- the peer head has reported its lane of this channel DOWN; 1 bit; R162; reset 0 -/
  down : Bool := false
  /-- calibration: 0 none, 1 pending, 2 announced, 3 silent; 2 bits; GET_LANE; reset 0 -/
  calState : Nat := 0
  /-- beacons still to count down, then silent cycles left; R163; reset 0 -/
  calLeft : Nat := 0
  deriving DecidableEq, Repr

/-- The states of a scheduled position (R136). -/
inductive SlotState where
  | unlocked | spur | held
  deriving DecidableEq, Repr

/-- A position of a branch (R136, R165, GET_NODE). -/
structure Position where
  /-- OPEN (`unlocked`), SPUR or HELD; 2 bits; R136; reset as the schedule -/
  state : SlotState := .unlocked
  /-- identity of the holder; 64 bits; GET_NODE; reset 0 -/
  identity : Nat := 0
  /-- DELAY_A in ns, none when unknown; 16 bits; GET_NODE; reset unknown -/
  delayA : Option Nat := none
  /-- DELAY_B in ns, none when unknown; 16 bits; GET_NODE; reset unknown -/
  delayB : Option Nat := none
  /-- SILENT; 16 bits; R165; reset 0 -/
  silent : Nat := 0
  /-- a valid UP_STATIC frame arrived in this cycle; 1 bit; R165; reset 0 -/
  heard : Bool := false
  /-- JOIN_CYCLE; 48 bits; GET_NODE; reset 0 -/
  joinCycle : Nat := 0
  /-- cycle in which the position became SPUR by silence; 48 bits; R165; reset none -/
  lostCycle : Option Nat := none
  /-- parked by R54: cycles of full schedule still to pass; R54; reset none -/
  parked : Option Nat := none
  /-- out-of-window frames counted against the node; 32 bits; R133; reset 0 -/
  oow : Nat := 0
  /-- first valid uplink copy of this cycle, without its CRC and its CHANNEL bit; R24; reset none -/
  copy : Option (List Byte) := none
  /-- downlink frame of this cycle in the branch port; R23; reset none -/
  down : Option (List Byte) := none
  /-- divergences counted against the node; 32 bits; R159; reset 0 -/
  diverge : Nat := 0
  deriving DecidableEq, Repr

/-- A pending beacon extension entry (R139, Table 06-4). -/
structure ExtEntry where
  /-- 1 GRANT, 2 REFUSE, 3 REVOKE -/
  kind      : Nat
  position  : Nat
  reason    : Nat
  identity  : Nat
  delayA    : Option Nat
  delayB    : Option Nat
  /-- effective cycle of a grant; of a revocation, the cycle after its eighth beacon -/
  effective : Nat
  /-- beacons that have carried it -/
  sent      : Nat
  deriving DecidableEq, Repr

/-- A dynamic request of the head to a node (R156, R164). -/
structure DynRequest where
  /-- node address -/
  node : Nat
  op   : Nat
  tag  : Nat
  data : List Byte
  /-- calendar entry whose action it carries, or none (R194) -/
  entry : Option Nat
  deriving DecidableEq, Repr

/-- A join claim seen in the join window of the current cycle (R138). -/
structure ClaimSeen where
  channel  : Nat
  position : Nat
  delay    : Nat
  identity : Nat
  axes     : Nat
  deriving DecidableEq, Repr

/-- One branch (R145). -/
structure Branch where
  /-- channel A; R145 -/
  chanA : Channel := {}
  /-- channel B; R145 -/
  chanB : Channel := {}
  /-- SET_JOIN mask bit, JOIN_ENABLE of the base schedule's descriptor at first; 1 bit; R143; reset from the image -/
  joinMask : Bool := false
  /-- as `joinMask`, for the rescue schedule; 1 bit; R143; reset from the image -/
  joinRescue : Bool := false
  /-- JOIN_OPEN of this cycle's beacon; 1 bit; R138; reset 0 -/
  joinSent : Bool := false
  /-- identities whose latest claim named different positions on the two channels; 64 bits each; R121; reset none -/
  misplaced : List Nat := []
  /-- CUTS; 16 bits; GET_BRANCH; reset 0 -/
  cuts : Nat := 0
  /-- SADDLE_LATE, on the active head as the standby head last reported it; 16 bits; GET_BRANCH; reset 0 -/
  saddleLate : Nat := 0
  /-- positions, by number; R136; reset none before the image -/
  positions : List Position := []
  /-- pending extension entries, at most 8; R138; reset none -/
  ext : List ExtEntry := []
  /-- queued dynamic requests, at most 16; R164; reset none -/
  dyn : List DynRequest := []
  /-- positions due a POLL; R131; reset none -/
  polls : List Nat := []
  /-- requests sent in the outward mini-slots of this cycle; R130; reset none -/
  sentNow : List (Nat × DynRequest) := []
  /-- requests sent in the outward mini-slots of the previous cycle: they own this cycle's inward mini-slots; R130; reset none -/
  owned : List (Nat × DynRequest) := []
  /-- owners of this cycle's inward mini-slots that have replied; R130; reset none -/
  answered : List (Nat × DynRequest) := []
  /-- claims seen in this cycle's join window; R138; reset none -/
  claims : List ClaimSeen := []
  /-- forwarded beacon of this cycle, complete in time; R126; reset none -/
  fwdBeacon : Option (List Byte) := none
  /-- next dynamic request tag; 8 bits; R156; reset DESIGN CHOICE 0 (log 1) -/
  nextTag : Nat := 0
  deriving DecidableEq, Repr

/-- A lane of the head: B00-B31 are 0-31, S0-S7 are 32-39 (GET_LANE). -/
structure Lane where
  /-- LINK: 0 DOWN, 1 acquiring, 2 UP, 3 electrical idle; 8 bits; GET_LANE; reset 3 (R38) -/
  link : Nat := 3
  /-- receive input inverted; 1 bit; R160; reset 0 -/
  inverted : Bool := false
  /-- CRC_ERR; 32 bits; GET_LANE; reset 0 -/
  crcErr : Nat := 0
  /-- LEN_ERR; 32 bits; GET_LANE; reset 0 -/
  lenErr : Nat := 0
  /-- CODE_ERR; 32 bits; GET_LANE; reset 0 -/
  codeErr : Nat := 0
  /-- DIVERGE; 32 bits; GET_LANE; reset 0 -/
  diverge : Nat := 0
  /-- LOS_COUNT; 16 bits; GET_LANE; reset 0 -/
  los : Nat := 0
  /-- SLOT_LOST; 16 bits; GET_LANE; reset 0 -/
  slotLost : Nat := 0
  /-- CAL_TEMP; 16 bits signed; GET_LANE; reset DESIGN CHOICE 0 (log 1) -/
  calTemp : Int := 0
  /-- CAL_CYCLE; 48 bits; GET_LANE; reset DESIGN CHOICE 0 (log 1) -/
  calCycle : Nat := 0
  /-- running disparity of the transmitter, positive or negative; 1 bit; R146; reset PRESUMED negative (log 105) -/
  positive : Bool := false
  /-- time-stamp of the last frame received, at the ball, in 2⁻⁸ ns; 72 bits; R183; reset DESIGN CHOICE 0 (log 1) -/
  rxStamp : Nat := 0
  /-- time-stamp of the last frame sent, at the ball, in 2⁻⁸ ns; 72 bits signed; R183; reset DESIGN CHOICE 0 (log 1) -/
  txStamp : Int := 0
  deriving DecidableEq, Repr

/-- Geunet as a whole. -/
structure Net where
  /-- base schedule; Table 05-2; R142; reset none before the image -/
  base : Option Schedule := none
  /-- rescue schedule; Table 05-2; R142; reset none -/
  rescue : Option Schedule := none
  /-- kind of the schedule in force; 2 bits; R141; reset DESIGN CHOICE base (log 1) -/
  kind : SchedKind := .base
  /-- beacons and frames are sent; 1 bit; R38; reset 0 -/
  running : Bool := false
  /-- timing check of the base schedule; GET_SCHEDULE; R144; reset not run -/
  checkBase : CheckResult := .notRun
  /-- timing check of the rescue schedule; GET_SCHEDULE; R144; reset not run -/
  checkRescue : CheckResult := .notRun
  /-- announced switch; R128; reset none -/
  switch : Option SchedSwitch := none
  /-- length in ns of the cycle that ends, when the switch of the next one has already taken effect; the model's own (R176);
  reset none -/
  closing : Option Nat := none
  /-- switches that wait for the announced one; R128; reset none -/
  waiting : List SchedSwitch := []
  /-- cycle of the last switch; 48 bits; R162; reset none -/
  switched : Option Nat := none
  /-- cycles of the base schedule since it came back, counted up to 64; R54; reset 0 -/
  baseRun : Nat := 0
  /-- branches 0-31; R145 -/
  branches : List Branch := List.replicate 32 {}
  /-- lanes 0-39; GET_LANE -/
  lanes : List Lane := List.replicate 40 {}
  /-- length of the current run of backup beacons of a standby head; R127; reset 0 -/
  backupRun : Nat := 0
  /-- BELAY_MASK last received from the active head; 8 bits; R126; reset 0 -/
  peerBelayMask : Nat := 0
  deriving DecidableEq, Repr

end Sys2Proof.Machine
end

