-- ==== Sys2Proof/Machine/StPeer.lean ====
section
/-! DEFINITION. State of the redundant pair: claims, saddle link, heartbeats, mirror, settings, return (chapter 15). -/
namespace Sys2Proof.Machine

/-- Mirror states of a standby head (R384). -/
inductive MirrorState where
  | none | syncing | ready
  deriving DecidableEq, Repr

/-- A command passed, or to be passed, to the peer head (R382). -/
structure Setting where
  seq    : Nat
  effect : Nat
  opcode : Nat
  packet : Packet
  deriving DecidableEq, Repr

/-- What changed and is still to be mirrored (R381): a host entry's definition, with the 28 parameter bytes of ARM_CONTOUR; an
entry's state or count; a fault source's latches. -/
inductive MirrorChange where
  | calDef (entry : Nat) (params : List Byte)
  | calState (entry : Nat)
  | latch (source : Nat)
  deriving DecidableEq, Repr

/-- The redundant pair as one head sees it. -/
structure Peer where
  /-- all eight saddle lanes UP and deskewed; 1 bit; R378; reset DOWN -/
  saddleUp : Bool := false
  /-- own claim epoch; 12 bits; R376; reset 0 before the role -/
  epoch : Nat := 0
  /-- (epoch, cycle) of the claims seen in uplink frames of the last 64 cycles; R388; reset none -/
  seen : List (Nat × Nat) := []
  /-- consecutive cycles with a greater claim in uplink frames, and the last such cycle; R392; reset none -/
  deposeRun : Nat × Nat := (0, 0)
  /-- deposed and not yet STANDBY again; 1 bit; R392; reset 0 -/
  deposed : Bool := false
  /-- a head that was deposed has taken STANDBY and is still in SAFE; 1 bit; R392; reset 0 -/
  leavesSafe : Bool := false
  /-- ROLE_CYCLE; 48 bits; GET_REDUNDANCY; reset 0 -/
  roleCycle : Nat := 0
  /-- SYS_STATE of the last peer heartbeat; 32 bits; Table 15-3; reset none -/
  state : Option Nat := none
  /-- PEER_CLAIM; 16 bits; GET_REDUNDANCY; reset 0 -/
  claim : Nat := 0
  /-- FLAGS of the last peer heartbeat; 16 bits; Table 15-3; reset 0 -/
  flags : Nat := 0
  /-- RETURN_CYCLE of the last peer heartbeat; 48 bits; Table 15-3; reset 0 -/
  returnCycle : Nat := 0
  /-- NEXT_SCHED and SWITCH_CYCLE of the last peer heartbeat; Table 15-3; reset 0 -/
  switch : Nat × Nat := (0, 0)
  /-- SETTING_SEQ of the peer heartbeats, newest first, at most 3; Table 15-3; reset none -/
  seqs : List Nat := []
  /-- IMAGE_DIGEST of the peer; 64 bits; Table 15-3; reset 0 -/
  digest : Nat := 0
  /-- a valid heartbeat of this cycle has arrived; 1 bit; R380; reset 0 -/
  heard : Bool := false
  /-- cycle of the last valid heartbeat; 48 bits; R388; reset 0 -/
  lastHeard : Nat := 0
  /-- HB_MISSED; 8 bits; GET_REDUNDANCY; reset 0 -/
  missed : Nat := 0
  /-- cycle of the last missing heartbeat counted; 48 bits; R380; reset none -/
  missedCycle : Option Nat := none
  /-- branch lanes restarted under Valley at a missing heartbeat; 1 bit; Table 15-7; reset 0 -/
  restarted : Bool := false
  /-- PEER_LOST posted in this run; 1 bit; R391; reset 0 -/
  lostPosted : Bool := false
  /-- T_SENT of the last peer heartbeat and its receipt, ns; 64 bits each; Table 15-3; reset 0 -/
  echo : Nat × Nat := (0, 0)
  /-- SADDLE_DELAY in ns; 32 bits; R182; reset 0 -/
  saddleDelay : Nat := 0
  /-- MIRROR, on the active head the peer's; 2 bits; R384; reset NONE -/
  mirror : MirrorState := .none
  /-- consecutive complete cycles; R384; reset 0 -/
  completeRun : Nat := 0
  /-- consecutive incomplete or diverged cycles; R386; reset 0 -/
  badRun : Nat := 0
  /-- bodies of the mirror sections of this cycle, oldest first: received by a standby head, sent by an active one; R384 -/
  sections : List (List Byte) := []
  /-- bodies of the mirror sections of the cycle before; R380; reset none -/
  lastSections : List (List Byte) := []
  /-- (key, cycle) of the mirrored records held: kind × 65,536 + object; R383; reset none -/
  records : List (Nat × Nat) := []
  /-- calendar entries still missing from the snapshot; 13 bits; R384; reset all -/
  snapCal : Nat := 8192
  /-- latches still missing from the snapshot; 13 bits; R384; reset all -/
  snapLatch : Nat := 5192
  /-- SETTING_SEQ: last sent by an active head, last applied by a standby head; 32 bits; Table 15-3; reset 0 -/
  settingSeq : Nat := 0
  /-- setting log, newest first; R382; reset none -/
  log : List Setting := []
  /-- bytes of the log; R382; reset 0 -/
  logBytes : Nat := 0
  /-- LOG_FULL; 1 bit; R382; reset 0 -/
  logFull : Bool := false
  /-- settings received whose EFFECT_CYCLE is to come; R382; reset none -/
  waiting : List Setting := []
  /-- changes not yet mirrored, in the order they occurred; R381; reset none -/
  changes : List MirrorChange := []
  /-- bytes of SETTING sections sent in this cycle; R385; reset 0 -/
  settingBytes : Nat := 0
  /-- active head: SEQ of the next logged setting to replay; 32 bits; R385; reset none -/
  replay : Option Nat := none
  /-- active head: next calendar entry of the full snapshot, 8,192 when all are sent; R385; reset 8,192 -/
  sendCal : Nat := 8192
  /-- active head: next source of the full snapshot, in the order of R418's kinds, 5,192 when all are sent; R385; reset 5,192 -/
  sendLatch : Nat := 5192
  /-- next entry of the rolling refresh; 13 bits; R381; reset DESIGN CHOICE 0 (log 1) -/
  refresh : Nat := 0
  /-- DIVERGED; 32 bits; GET_REDUNDANCY; reset 0 -/
  diverged : Nat := 0
  /-- TAKEOVERS; 32 bits; GET_REDUNDANCY; reset 0 -/
  takeovers : Nat := 0
  /-- witnesses and reporting nodes of the latest cycle; R387; reset 0 -/
  witness : Nat × Nat := (0, 0)
  /-- witnesses and reporting nodes of the cycle that runs; R387; reset 0 -/
  witnessNow : Nat × Nat := (0, 0)
  /-- RETURN_ENABLE; 1 bit; SET_RETURN; reset 1 -/
  returnEnable : Bool := true
  /-- HOT_RETURN; 1 bit; SET_RETURN; reset 0 -/
  hotReturn : Bool := false
  /-- R of a pending grant; 48 bits; R394; reset none -/
  grant : Option Nat := none
  /-- the grant comes from SWITCHOVER: its HOT flag; R397; reset none -/
  switchover : Option Bool := none
  /-- first cycle of computed records after a takeover: R113 is waived in it; 48 bits; R389; reset none -/
  waive : Option Nat := none
  /-- the calendar's first evaluation after a takeover is due; 1 bit; R198; reset 0 -/
  calResume : Bool := false
  /-- a SOLO head waits for the boundary at which it becomes ACTIVE; 1 bit; R393; reset 0 -/
  peerStandby : Bool := false
  /-- RESYNC_PEER asked of the standby head; 1 bit; R384; reset 0 -/
  resync : Bool := false
  deriving DecidableEq, Repr

end Sys2Proof.Machine
end

