-- ==== Sys2Proof/Machine/StSys.lean ====
section
/-! DEFINITION. State of the modes and start-up (chapter 02), faults and the alive signal (16), security and debug (17),
supply, clocks and backup domain (18), balls and pin functions (19). -/
namespace Sys2Proof.Machine

/-- The eight modes of Table 02-1. -/
inductive Mode where
  | off | reset | boot | commission | service | rescue | idle | safe
  deriving DecidableEq, Repr

/-- The roles of R31; `none` before the role is fixed (R45). -/
inductive Role where
  | none | active | standby | solo
  deriving DecidableEq, Repr

/-- A mode or depth transition in progress (R34). -/
structure Transition where
  /-- mode that will be reached -/
  target : Mode
  /-- idle depth that will be reached, 0 outside IDLE -/
  depth  : Nat
  /-- CAUSE of Table 02-8 -/
  cause  : Nat
  /-- host tag and queue of the item that caused it (R37) -/
  origin : Option (Nat × Nat)
  deriving DecidableEq, Repr

/-- The steps of the boot chain (R425, Table 02-4). -/
inductive BootStep where
  | plls | stage1 | ddr | image | record | commands | lanes | saddle | built
  deriving DecidableEq, Repr

/-- Modes, roles and start-up (chapter 02). -/
structure Sys where
  /-- mode in force; 4 bits; Table 02-7; reset 0x1 BOOT -/
  mode : Mode := .boot
  /-- idle depth; 3 bits; Table 02-7; reset 0 -/
  depth : Nat := 0
  /-- transition in progress; 1 bit and its target; R34; reset none -/
  transition : Option Transition := none
  /-- role; 2 bits; Table 02-7; reset 0 none -/
  role : Role := .none
  /-- HOME, HEAD_SEL as sampled; 1 bit; R41; reset DESIGN CHOICE 0 (log 1) -/
  home : Bool := false
  /-- ON_BATTERY; 1 bit; Table 02-7; reset 0 -/
  onBattery : Bool := false
  /-- RESCUE_DONE; 1 bit; Table 02-7; reset 0 -/
  rescueDone : Bool := false
  /-- BOOTSEL as sampled; 3 bits; R41; reset DESIGN CHOICE 0 (log 1) -/
  bootsel : Nat := 0
  /-- TEST_N as sampled; 1 bit; R41; reset DESIGN CHOICE 1 (log 1) -/
  testN : Bool := true
  /-- level of POR_N; 1 bit; R41; reset high in BOOT (Table 02-2) -/
  porN : Bool := true
  /-- level of RESET_N; 1 bit; R40; reset high in BOOT (Table 02-2) -/
  resetN : Bool := true
  /-- BOOT_CODE; 8 bits; Table 02-7; reset 0x00 -/
  bootCode : Nat := 0
  /-- step of the boot chain that runs; -; R425; reset the first -/
  bootStep : BootStep := .plls
  /-- valid uplink frames heard in the saddle window without a trained saddle link; 1 bit; R393; reset 0 -/
  strangers : Bool := false
  /-- boot chain stopped by a failure; 1 bit; R44; reset 0 -/
  bootFailed : Bool := false
  /-- TOLERANCE in force in µs; 32 bits; GET_SYSTEM_STATUS; reset 0 outside IDLE -/
  tolerance : Nat := 0
  /-- MODE_TIME in ns; 64 bits; GET_SYSTEM_STATUS; reset DESIGN CHOICE 0 (log 1) -/
  modeTime : Nat := 0
  /-- WAKE_SOURCES; 3 bits; R55; reset DESIGN CHOICE 0 (log 1) -/
  wakeSources : Nat := 0
  /-- WAKE_INPUT; 6 bits; R55; reset DESIGN CHOICE 0 (log 1) -/
  wakeInput : Nat := 0
  /-- TRIGGERS of the rescue policy; 3 bits; SET_RESCUE_POLICY; reset 0x01 -/
  triggers : Nat := 1
  /-- MAINS_INPUT; 8 bits; SET_RESCUE_POLICY; reset 0x00 -/
  mainsInput : Nat := 0
  /-- VIN_THRESHOLD in 10 mV; 16 bits; SET_RESCUE_POLICY; reset 2,000 -/
  vinThreshold : Nat := 2000
  /-- REST_TOLERANCE in µs; 32 bits; SET_RESCUE_POLICY; reset 5,000 -/
  restTolerance : Nat := 5000
  /-- a node has asked for WAKE in a POLL reply and the head has not acted on it; 1 bit; R55, Table 06-9; reset 0 -/
  nodeWake : Bool := false
  /-- wake source that waits for a transition to end; 1 bit; R35; reset 0 -/
  waitingWake : Bool := false
  /-- SOLO_ALLOWED; 1 bit; Table 17-6; reset 0 until the boot options -/
  soloAllowed : Bool := false
  /-- AUTO_SERVICE; 1 bit; Table 17-6; reset 0 until the boot options -/
  autoService : Bool := false
  /-- SADDLE_MS; 16 bits; Table 02-4; reset 200 -/
  saddleMs : Nat := 200
  /-- BUILD_MS; 16 bits; Table 02-4; reset 2,000 -/
  buildMs : Nat := 2000
  /-- BASE of the UDP ports; 16 bits; R71; reset 41,870 -/
  udpBase : Nat := 41870
  /-- network build over; 1 bit; Table 02-4; reset 0 -/
  built : Bool := false
  /-- schedule check passed; 1 bit; R47; reset 0 -/
  checked : Bool := false
  /-- movers whose rescue is blocked; mover numbers; R59; reset none -/
  blocked : List Nat := []
  /-- rescue entry: 12 tiles gated; 1 bit; R62; reset 0 -/
  tilesGated : Bool := false
  deriving DecidableEq, Repr

/-- One fault source's latches (R399, R400). -/
structure Latch where
  /-- source index: KIND in [15:12], instance in [11:0] (R399) -/
  source : Nat
  /-- latch word (R400) -/
  word : BitVec 32
  /-- (code, count, first cycle) of every latched code (R400) -/
  counts : List (Nat × Nat × Nat)
  /-- cycle of the first latch since the last clear of any code (GET_FAULTS), none since that clear -/
  firstCycle : Option Nat
  deriving DecidableEq, Repr

/-- A report that reached the collector (R401). -/
structure Report where
  cycle    : Nat
  time     : Nat
  source   : Nat
  code     : Nat
  severity : Nat
  deriving DecidableEq, Repr

/-- The first-fault record (R410, Table 16-4). -/
structure FirstFault where
  report    : Report
  sameCount : Nat
  sameMask  : Nat
  deriving DecidableEq, Repr

/-- A belay group: every output of the device, or of one range (R404). -/
structure OutputGroup where
  /-- GROUP: 0 DEVICE, 1-8 range 0-7; 8 bits; SET_OUTPUT_GROUP; reset 0 -/
  group : Nat := 0
  /-- SAFE_LEVEL; 1 bit; SET_OUTPUT_GROUP; reset 0 -/
  safeHigh : Bool := false
  deriving DecidableEq, Repr

/-- The fault collector, the belay path and the alive generator (chapter 16). DEDUCED (log 64). -/
structure Faults where
  /-- latches, rising source; 32 bits each; R400; reset none set (Table 16-5) -/
  latches : List Latch := []
  /-- reports of the last two cycles, newest first; -; R410; reset none -/
  reports : List Report := []
  /-- first-fault record; Table 16-4; R410; reset FIRST_VALID 0 -/
  first : Option FirstFault := none
  /-- ALIVE_RUN; 1 bit; Table 16-5; reset 0 -/
  aliveRun : Bool := false
  /-- level of the ALIVE ball; 1 bit; R412; reset low (R38) -/
  aliveLevel : Bool := false
  /-- kick watchdog armed; 1 bit; R413; reset 0 -/
  kickArmed : Bool := false
  /-- next kick value; 8 bits; R413; reset 0 -/
  kickNext : Nat := 0
  /-- KICK_SEQ, last valid kick; 8 bits; GET_FAULT_SUMMARY; reset DESIGN CHOICE 0 (log 1) -/
  kickLast : Nat := 0
  /-- head time in ns of the last valid kick or arming; 64 bits; R413; reset 0 -/
  kickTime : Nat := 0
  /-- ALIVE_HZ; 16 bits; SET_ALIVE; reset 1,000 -/
  aliveHz : Nat := 1000
  /-- ALIVE_HZ written and not yet in force; 16 bits; R412; reset none -/
  aliveHzNext : Option Nat := none
  /-- KICK_TIMEOUT in ms; 8 bits; SET_ALIVE; reset 10 -/
  kickTimeout : Nat := 10
  /-- A_RANGES; 8 bits; SET_BELAY_CONFIG; reset 0xFF -/
  aRanges : Nat := 0xFF
  /-- B_RANGES; 8 bits; SET_BELAY_CONFIG; reset 0xFF -/
  bRanges : Nat := 0xFF
  /-- LOCAL_AXES for A; 1 bit; SET_BELAY_CONFIG; reset 1 -/
  aLocal : Bool := true
  /-- LOCAL_AXES for B; 1 bit; SET_BELAY_CONFIG; reset 1 -/
  bLocal : Bool := true
  /-- SAFE_IN_RANGES; 8 bits; R407; reset 0x00 -/
  safeInRanges : Nat := 0
  /-- DISCREPANCY_MS; 16 bits; R407; reset 20 -/
  discrepancyMs : Nat := 20
  /-- FAULT_N_SEV; 8 bits; R415; reset 2 -/
  faultNSev : Nat := 2
  /-- filtered level of SAFE_IN_A; 1 bit; Table 16-5; reset 0 -/
  safeInA : Bool := false
  /-- filtered level of SAFE_IN_B; 1 bit; Table 16-5; reset 0 -/
  safeInB : Bool := false
  /-- head time in ns since which the two safe inputs differ; 64 bits; R407; reset none -/
  differSince : Option Nat := none
  /-- balls that read other than driven: BELAY_OUT_A, BELAY_OUT_B, ALIVE; 3 bits; R408; reset 0 -/
  readback : Nat := 0
  /-- die-to-die packet channel valid; 1 bit; R18; reset 1 -/
  dieLinkOk : Bool := true
  /-- corrected SRAM words; 32 bits; R19; reset 0 -/
  eccCorrected : Nat := 0
  /-- belay group of field outputs 0-3 and general-purpose outputs 0-39; Table 16-3; R404 -/
  outputs : List OutputGroup := List.replicate 44 {}
  deriving DecidableEq, Repr

/-- An open host session (R429-R431). -/
structure Session where
  id       : Nat
  key      : List Byte
  /-- CLASSES of its host key (Table 17-7) -/
  classes  : Nat
  keyIndex : Nat
  /-- highest SEQUENCE accepted -/
  highest  : Option Nat
  /-- head time in ns of the last accepted packet -/
  lastUse  : Nat
  deriving DecidableEq, Repr

/-- A host key entry of the selected record (Table 17-7). -/
structure HostKey where
  publicKey : List Byte
  classes   : Nat
  deriving DecidableEq, Repr

/-- An open debug session (R433). -/
structure DebugSession where
  /-- host session that opened it -/
  session : Nat
  /-- head time in ns at which it ends, when a token gave a DURATION -/
  ends    : Option Nat
  /-- opened with a token -/
  token   : Bool
  deriving DecidableEq, Repr

/-- A chunked transfer in progress (R437, R316). -/
structure Transfer where
  total   : Nat
  /-- SET of WRITE_IMAGE, module identifier of LOAD_MODULE -/
  object  : Nat
  /-- bytes received so far -/
  bytes   : List Byte
  /-- head time in ns of the last chunk -/
  last    : Nat
  deriving DecidableEq, Repr

/-- A core of the part (R435). -/
inductive CoreId where
  | tor (tile core : Nat)
  | massif (core : Nat)
  | management
  deriving DecidableEq, Repr

/-- The instructions of the test access port (R432). PRESUMED (log 6). -/
inductive Tap where
  | idcode | bypass | extest | samplePreload | intest | clamp
  deriving DecidableEq, Repr

/-- Security, images and debug (chapter 17). DESIGN CHOICE (log 7). DESIGN CHOICE (log 91). -/
structure Security where
  /-- LIFECYCLE fuses: 0 BLANK, 1 PROVISIONED, 2 FIELD, 3 RETIRED; 2 bits; Table 17-1; reset OTP, DESIGN CHOICE 0 (log 7) -/
  lifecycle : Nat := 0
  /-- LIFECYCLE in force since the last reset; 2 bits; PROVISION; reset as the fuses -/
  lifecycleNow : Nat := 0
  /-- DEVICE_ID; 64 bits; Table 17-2; reset OTP, DESIGN CHOICE 0 (log 7) -/
  deviceId : Nat := 0
  /-- ROOT_HASH; 48 bytes; Table 17-2; reset OTP, DESIGN CHOICE 0 (log 7) -/
  rootHash : List Byte := List.replicate 48 0
  /-- SLOT_HASH0-3; 48 bytes each; Table 17-2; reset OTP, DESIGN CHOICE 0 (log 7) -/
  slotHash : List (List Byte) := List.replicate 4 (List.replicate 48 0)
  /-- REVOKED; 4 bits; Table 17-2; reset OTP, DESIGN CHOICE 0 (log 7) -/
  revoked : Nat := 0
  /-- ROLLBACK counter; 7 bits; Table 17-2; reset OTP, DESIGN CHOICE 0 (log 7) -/
  rollback : Nat := 0
  /-- open sessions, at most 15; R431; reset none -/
  sessions : List Session := []
  /-- outstanding SESSION_CHALLENGE nonce and its head time; 48 bytes; R429; reset none -/
  nonce : Option (List Byte × Nat) := none
  /-- AUTH_FAIL; 32 bits; GET_SECURITY; reset DESIGN CHOICE 0 (log 1) -/
  authFail : Nat := 0
  /-- host keys of the selected record; Table 17-7; reset none -/
  hostKeys : List HostKey := []
  /-- SESSION_IDLE in s; 32 bits; Table 17-6; reset 600 -/
  sessionIdle : Nat := 600
  /-- debug level 0-2; 2 bits; Table 17-10; reset 2, as Table 17-11 gives a BLANK part in BOOT -/
  debugLevel : Nat := 2
  /-- open debug session; R433; reset none -/
  debugSession : Option DebugSession := none
  /-- outstanding DEBUG_CHALLENGE nonce and its head time; 16 bytes; Table 17-12; reset none -/
  debugNonce : Option (List Byte × Nat) := none
  /-- halted cores; R435; reset none -/
  halted : List CoreId := []
  /-- primary set's files: stage-1, image, record copies 0-2; Table 17-4; reset DESIGN CHOICE empty (log 7) -/
  primary : List (List Byte) := List.replicate 5 []
  /-- alternate set's files; Table 17-4; reset DESIGN CHOICE empty (log 7) -/
  alternate : List (List Byte) := List.replicate 5 []
  /-- stage-1 that runs; R428; reset none -/
  stage1 : List Byte := []
  /-- configuration image that runs; R425; reset none -/
  image : List Byte := []
  /-- selected record; R426; reset none -/
  record : List Byte := []
  /-- RECORD_COPY, 0-2; 8 bits; GET_SECURITY; reset 0xFF none -/
  recordCopy : Nat := 0xFF
  /-- index and status of the refused command record; R424; reset none -/
  failed : Option (Nat × Nat) := none
  /-- WRITE_IMAGE transfer in progress; R437; reset none -/
  transfer : Option Transfer := none
  /-- instruction of the test access port; 8 bits, codes not given; R432; reset PRESUMED IDCODE, as IEEE 1149.1 (log 6) -/
  tap : Tap := .idcode
  /-- boundary-scan chain, one cell per ball number; 900 cells; R432; reset DESIGN CHOICE none captured (log 1) -/
  boundary : List Bool := []
  /-- balls driven from the chain; R432; reset 0 -/
  scanDrives : Bool := false
  deriving DecidableEq, Repr

/-- A calendar date and time (R455, R461). -/
structure Date where
  year   : Nat
  month  : Nat
  day    : Nat
  hour   : Nat
  minute : Nat
  second : Nat
  deriving DecidableEq, Repr

/-- The backup domain (R451-R460).  It keeps its contents through RESET and OFF. DESIGN CHOICE (log 8). -/
structure Backup where
  /-- runs from VIN rather than VBKUP; 1 bit; R451; reset from VIN in BOOT -/
  onVin : Bool := true
  /-- both signature words exact; 64 bits; R452; reset DESIGN CHOICE written anew by BOOT (log 8) -/
  signature : Bool := true
  /-- RET_VALID; 1 bit; Table 18-5; reset backup domain, DESIGN CHOICE 0 (log 8) -/
  retValid : Bool := false
  /-- RTC date and time; 8-byte date field; R455; reset 2000-01-01 00:00:00 (R453) -/
  now : Date := ⟨2000, 1, 1, 0, 0, 0⟩
  /-- ticks; 15 bits; R455; reset DESIGN CHOICE 0 (log 8) -/
  ticks : Nat := 0
  /-- ticks counted toward the next trim; 20 bits; R458; reset DESIGN CHOICE 0 (log 8) -/
  trimCount : Nat := 0
  /-- TRIM; 8 bits signed; R458; reset 0 -/
  trim : Int := 0
  /-- RTC_SYNC; 1 bit; R453; reset 1 -/
  sync : Bool := true
  /-- a correction is due at the next whole second; 1 bit; R458; reset 0 -/
  syncDue : Bool := false
  /-- armed alarm; 8-byte date field; R460; reset DESIGN CHOICE none (log 8) -/
  alarm : Option Date := none
  /-- ALARM flag; 1 bit; Table 18-5; reset 0 (R453) -/
  alarmFlag : Bool := false
  /-- TIME_LOST; 1 bit; R453; reset DESIGN CHOICE 1, retention lost (log 8) -/
  timeLost : Bool := true
  /-- CENTURY_WRAP; 1 bit; R456; reset 0 (R453) -/
  centuryWrap : Bool := false
  /-- LAST_EPOCH; 12 bits; R454; reset 0 (R453) -/
  lastEpoch : Nat := 0
  /-- backup words, none when invalid; 8 × 32 bits; R454; reset invalid (R453) -/
  words : List (Option Nat) := List.replicate 8 none
  /-- the head time still waits for its load; 1 bit; R459; reset 1 -/
  loadDue : Bool := true
  deriving DecidableEq, Repr

/-- A clock domain driven by a PLL (R445, R446): PLL_C, PLL_M or PLL_D. -/
structure Pll where
  /-- locked and ungated; 1 bit; Table 18-7; reset 0 -/
  lock : Bool := false
  /-- on the safe clock; 1 bit; Table 18-7; reset 1 -/
  safe : Bool := true
  /-- on the safe clock after a loss of lock or a trip; 1 bit; R446; reset 0 -/
  lost : Bool := false
  /-- failed relock attempts in a row; 2 bits; R446; reset 0 -/
  failed : Nat := 0
  deriving DecidableEq, Repr

/-- A droop domain: tile 0-15, Massif cluster (16), system (17) (R448, R449). -/
structure Droop where
  /-- fraction the droop sensor requires: 0 full, 1 3/4, 2 1/2; 2 bits; R448; reset 0 -/
  level : Nat := 0
  /-- cycle of the last CLOCK_STRETCHED; 48 bits; R449; reset none -/
  posted : Option Nat := none
  deriving DecidableEq, Repr

/-- Supply and clocks (chapter 18). -/
structure Power where
  /-- VIN in 10 mV; 16 bits; Table 18-5; reset 0 -/
  vin : Nat := 0
  /-- INPUT_OPEN; 1 bit; Table 18-5; reset 0 -/
  inputOpen : Bool := false
  /-- VIN_LOW condition; 1 bit; Table 18-5; reset 0 -/
  vinLow : Bool := false
  /-- LD_LIMIT condition; 1 bit; Table 18-5; reset 0 -/
  ldLimit : Bool := false
  /-- PFD_LIMIT condition; 1 bit; Table 18-5; reset 0 -/
  pfdLimit : Bool := false
  /-- LD above its shutdown level; 1 bit; R443; reset 0 -/
  ldShutdown : Bool := false
  /-- PFD above its shutdown level; 1 bit; R443; reset 0 -/
  pfdShutdown : Bool := false
  /-- BKUP_LOW; 1 bit; Table 18-5; reset 0 -/
  bkupLow : Bool := false
  /-- all LD rails good; 1 bit; Table 02-2; reset 1 in BOOT -/
  railsGood : Bool := true
  /-- a rail sequence runs; 1 bit; R440; reset 0 -/
  sequencing : Bool := false
  /-- a failed sequence waits for its retry; 1 bit; R440; reset 0 -/
  retryDue : Bool := false
  /-- retries used since VIN rose; 2 bits; R440; reset 0 -/
  retries : Nat := 0
  /-- rails outside their window: bit n for rail n; 4 bits; R441; reset 0 -/
  railFault : Nat := 0
  /-- VIN_LOW warning level in 10 mV; 16 bits; SET_POWER_CONFIG; reset 800 -/
  vinLowLevel : Nat := 800
  /-- LD_LIMIT in °C; 8 bits; SET_POWER_CONFIG; reset 115 -/
  ldLimitLevel : Nat := 115
  /-- PFD_LIMIT in °C; 8 bits; SET_POWER_CONFIG; reset 120 -/
  pfdLimitLevel : Nat := 120
  /-- BKUP_CHARGE; 1 bit; SET_POWER_CONFIG; reset 0 -/
  bkupCharge : Bool := false
  /-- PLL_C; R445; reset safe clock -/
  pllC : Pll := {}
  /-- PLL_M; R445; reset safe clock -/
  pllM : Pll := {}
  /-- PLL_D; R445; reset safe clock -/
  pllD : Pll := {}
  /-- D_FSP: LPDDR4X at 1,600 MT/s; 1 bit; Table 18-7; reset 0 -/
  dFsp : Bool := false
  /-- set point changes, the one in progress first: true for 1,600 MT/s; R447; reset none -/
  fspChange : List Bool := []
  /-- CEILING; 1 bit; Table 18-7; reset 0 -/
  ceiling : Bool := false
  /-- RELOCKS; 4 bits; Table 18-7; reset 0 -/
  relocks : Nat := 0
  /-- STRETCHES; 32 bits; GET_POWER; reset DESIGN CHOICE 0 (log 1) -/
  stretches : Nat := 0
  /-- droop domains; 18 of them; R448; reset full -/
  droop : List Droop := List.replicate 18 {}
  deriving DecidableEq, Repr

/-- A setting of a general-purpose ball (SET_PIN). -/
structure PinSetting where
  /-- FUNC; 8 bits; Table 19-3; reset 0 GPIO (Table 19-2) -/
  func : Nat := 0
  /-- GPIO output; 1 bit; SET_PIN; reset 0 input (Table 19-2) -/
  output : Bool := false
  /-- INIT_LEVEL; 1 bit; SET_PIN; reset DESIGN CHOICE 0 (log 1) -/
  initLevel : Bool := false
  /-- pull: 0 none, 1 up, 2 down; 2 bits; SET_PIN; reset 2 (Table 19-2) -/
  pull : Nat := 2
  /-- PARK_MODE; 1 bit; SET_PIN; reset DESIGN CHOICE 0 (log 1) -/
  parkHold : Bool := false
  /-- TRIG_WIDTH in 10 ns; 8 bits; R465; reset 10 (100 ns) -/
  trigWidth : Nat := 10
  deriving DecidableEq, Repr

/-- A general-purpose ball (R466-R468). -/
structure Pin where
  /-- committed setting; R466; reset input with weak pull-down -/
  set : PinSetting := {}
  /-- staged setting; R466; reset none -/
  staged : Option PinSetting := none
  /-- level kept for a GPIO output; 1 bit; R467; reset 0 -/
  level : Bool := false
  /-- level the ball drives, none at high impedance; 1 bit; R466; reset none -/
  drives : Option Bool := none
  /-- parked; 1 bit; R466; reset 0 -/
  parked : Bool := false
  /-- head time in ns at which the park ends; 64 bits; R466; reset DESIGN CHOICE 0 (log 1) -/
  parkEnd : Nat := 0
  /-- level held while parked, none at high impedance; 1 bit; R466; reset none -/
  held : Option Bool := none
  /-- head time in ns at which a TRIG_OUT pulse ends; 64 bits; R465; reset none -/
  pulseEnd : Option Nat := none
  deriving DecidableEq, Repr

/-- A field input (R469, R470). -/
structure FieldInput where
  /-- DEBOUNCE in µs; 16 bits; R469; reset 500 -/
  debounce : Nat := 500
  /-- OPEN_DETECT; 1 bit; SET_FIELD_INPUT; reset 0 -/
  openDetect : Bool := false
  /-- INVALID_LEVEL; 1 bit; R470; reset 0 -/
  invalidLevel : Bool := false
  /-- debounced voltage level; 1 bit; R469; reset DESIGN CHOICE low (log 1) -/
  voltage : Bool := false
  /-- raw level of the last snapshot; 1 bit; R469; reset DESIGN CHOICE low (log 1) -/
  raw : Bool := false
  /-- snapshot time in ns since which the raw level is stable; 64 bits; R469; reset DESIGN CHOICE 0 (log 1) -/
  rawSince : Nat := 0
  /-- snapshot times in ns of the raw transitions of the last second, newest first; R338; reset none -/
  edges : List Nat := []
  /-- snapshot level; 1 bit; R17; reset DESIGN CHOICE low (log 1) -/
  level : Bool := false
  /-- level of the last snapshot that was sent; 1 bit; R17; reset DESIGN CHOICE low (log 1) -/
  sent : Bool := false
  /-- OPEN; 1 bit; R470; reset 0 -/
  isOpen : Bool := false
  /-- REVERSED; 1 bit; R470; reset 0 -/
  reversed : Bool := false
  deriving DecidableEq, Repr

/-- A field output (R471). -/
structure FieldOutput where
  /-- written level; 1 bit; R471; reset off (R38) -/
  written : Bool := false
  /-- switch on; 1 bit; R471; reset off -/
  on : Bool := false
  /-- disconnected for a short; 1 bit; R471; reset 0 -/
  short : Bool := false
  /-- head time in ns of the last disconnection; 64 bits; R471; reset DESIGN CHOICE 0 (log 1) -/
  shortAt : Nat := 0
  /-- open load condition; 1 bit; R471; reset 0 -/
  openLoad : Bool := false
  /-- SHORT_RETRY_MS; 16 bits; R471; reset 1,000 -/
  retryMs : Nat := 1000
  /-- OFF_DIAG; 1 bit; SET_FOUT_CONFIG; reset 0 -/
  offDiag : Bool := false
  deriving DecidableEq, Repr

/-- Balls and pin functions (chapter 19). -/
structure Pins where
  /-- GP0-GP39; R466 -/
  gp : List Pin := List.replicate 40 {}
  /-- PARK_CLKS; 8 bits; R466; reset 2 -/
  parkClks : Nat := 2
  /-- PPS_OUT level; 1 bit; R463; reset low (Table 19-2) -/
  ppsOut : Bool := false
  /-- stamp of the last PPS_IN edge in ns; 64 bits; R463; reset DESIGN CHOICE 0 (log 1) -/
  ppsIn : Nat := 0
  /-- FIN0-FIN31; R469 -/
  fin : List FieldInput := List.replicate 32 {}
  /-- head time in ns of the last snapshot; 64 bits; R17; reset DESIGN CHOICE 0 (log 1) -/
  snapTime : Nat := 0
  /-- FOUT0-FOUT3; R471 -/
  fout : List FieldOutput := List.replicate 4 {}
  deriving DecidableEq, Repr

end Sys2Proof.Machine
end

