-- ==== Sys2Proof/Machine/State.lean ====
section
/-! DEFINITION. The state of the block: the head's own state, and the queue of commands that wait. -/
namespace Sys2Proof.Machine

/-- Why a command stops the machine. -/
inductive Fault where
  /-- A command names an object the part does not have (a queue above 7, a lane above 39, a ball above 39).  Raised by
  the event rows, whose operands `WellFormed` bounds.  Safe: the spec gives such an event no meaning. -/
  | noSuchObject
  deriving DecidableEq, Repr

/-- Why a command has no meaning in the model. -/
inductive Refusal where
  /-- Raised by an arm of `exec` whose meaning is not written.  Safe. -/
  | notModelled (mnemonic : String)
  deriving DecidableEq, Repr

/-- Everything the spec gives the motion head. -/
structure Head where
  /-- modes and start-up (chapter 02) -/
  sys : Sys := {}
  /-- submission and completion queues 0-7 (chapter 03) -/
  queues : List Queue := (List.range 8).map fun q => { vector := q + 1 }
  /-- Ethernet side of the queues (R72) -/
  ethq : List EthQueue := List.replicate 8 {}
  /-- running FENCE_QUEUES, oldest first; R90; reset none -/
  fences : List Fence := []
  /-- next queue of the round robin; 3 bits; R78; reset DESIGN CHOICE 0 (log 1) -/
  turn : Nat := 0
  /-- event queue and route (R87) -/
  evq : EventQueue := {}
  /-- Ethernet ports 0 and 1 (R70) -/
  eth : List EthPort := [{}, {}]
  /-- PCIe endpoint (R67) -/
  pcie : Pcie := {}
  /-- fault collector (chapter 16) -/
  faults : Faults := {}
  /-- security, images and debug (chapter 17) -/
  sec : Security := {}
  /-- backup domain (chapter 18) -/
  backup : Backup := {}
  /-- supply and clocks (chapter 18) -/
  power : Power := {}
  /-- balls (chapter 19) -/
  pins : Pins := {}
  /-- Geunet (chapters 05, 06) -/
  net : Net := {}
  /-- ranges 0-7 (R97) -/
  ranges : List Range := List.replicate 8 {}
  /-- defined axes, rising identifier; R99; reset none -/
  axes : List Axis := []
  /-- defined movers, rising number; R102; reset none -/
  movers : List Mover := []
  /-- tracks 0-63 (R103) -/
  tracks : List Track := List.replicate 64 {}
  /-- binding changes decided and not in force; R106; reset none -/
  binds : List BindChange := []
  /-- deferred calendar changes and releases; R106; reset none -/
  deferred : List DeferredBind := []
  /-- terrain tables of the image; R207; reset none -/
  terrain : List Terrain := []
  /-- blend tables, at most 16, of 257 entries of 24 bits; R211; reset DESIGN CHOICE none held, which reads as zeros (log 1) -/
  blends : List (List Nat) := []
  /-- time base (chapter 07) -/
  time : TimeBase := {}
  /-- contour calendar (R189) -/
  cal : Calendar := {}
  /-- local feedback channels 0-7 (R235) -/
  channels : List Feedback := List.replicate 8 {}
  /-- placement, dispatch and modules (chapters 10, 11) -/
  compute : Compute := {}
  /-- local stepper channels 0-7 (R318) -/
  steps : List StepChannel := List.replicate 8 {}
  /-- microstep tables 1-3 of the image, 1,024 entries each; R322; reset none -/
  microsteps : List (List Int) := []
  /-- acquisition and converters (chapters 13, 14) -/
  acq : Acquisition := {}
  /-- the redundant pair (chapter 15) -/
  peer : Peer := {}
  /-- what the last command put on wires, rings and interrupt lines; the model's own; reset none -/
  sent : List Output := []
  /-- free values drawn so far; the model's own (log 86); reset DESIGN CHOICE 0 -/
  drawn : Nat := 0
  deriving DecidableEq, Repr

/-- The block: the head, and the commands that wait, first in first out. -/
structure State where
  /-- the head -/
  head : Head
  /-- commands that wait, the front first -/
  pending : List Instr
  deriving DecidableEq, Repr

/-- The block right after reset: every field at the value its declaration gives, nothing waiting.
DESIGN CHOICE (log 1). -/
def State.reset : State := { head := {}, pending := [] }

end Sys2Proof.Machine
end

