-- ==== Sys2Proof/Machine/Ops.lean ====
section
/-! DEFINITION. The named operations on the head that every family uses: objects by number, time, free values, events
(R87-R89), interrupts, replies (R79, R84, R85), final statuses, and how an event row acts on the state. -/
namespace Sys2Proof.Machine

/-! ### Objects by number -/

def Head.queue (h : Head) (q : Nat) : Queue := h.queues.getD q { vector := q + 1 }
def Head.setQueue (h : Head) (q : Nat) (f : Queue → Queue) : Head := { h with queues := setAt q f h.queues }
def Head.ethQueue (h : Head) (q : Nat) : EthQueue := h.ethq.getD q {}
def Head.setEthQueue (h : Head) (q : Nat) (f : EthQueue → EthQueue) : Head := { h with ethq := setAt q f h.ethq }
def Head.axis? (h : Head) (id : Nat) : Option Axis := h.axes.find? fun a => a.id == id
def Head.setAxis (h : Head) (id : Nat) (f : Axis → Axis) : Head :=
  { h with axes := h.axes.map fun a => if a.id = id then f a else a }
/-- Change every axis that satisfies a test. -/
def Head.setAxes (h : Head) (p : Axis → Bool) (f : Axis → Axis) : Head :=
  { h with axes := h.axes.map fun a => if p a then f a else a }
def Head.mover? (h : Head) (m : Nat) : Option Mover := h.movers.find? fun x => x.id == m
def Head.setMover (h : Head) (m : Nat) (f : Mover → Mover) : Head :=
  { h with movers := h.movers.map fun x => if x.id = m then f x else x }
/-- The mover whose mover axis this is (R99). -/
def Head.moverOfAxis? (h : Head) (axis : Nat) : Option Mover := h.movers.find? fun x => x.axis == axis
def Head.range (h : Head) (r : Nat) : Range := h.ranges.getD r {}
def Head.setRange (h : Head) (r : Nat) (f : Range → Range) : Head := { h with ranges := setAt r f h.ranges }
def Head.track (h : Head) (t : Nat) : Track := h.tracks.getD t {}
def Head.channel (h : Head) (c : Nat) : Feedback := h.channels.getD c {}
def Head.setChannel (h : Head) (c : Nat) (f : Feedback → Feedback) : Head := { h with channels := setAt c f h.channels }
def Head.branch (h : Head) (b : Nat) : Branch := h.net.branches.getD b {}
def Head.setBranch (h : Head) (b : Nat) (f : Branch → Branch) : Head :=
  { h with net := { h.net with branches := setAt b f h.net.branches } }
def Head.lane (h : Head) (l : Nat) : Lane := h.net.lanes.getD l {}
def Head.setLane (h : Head) (l : Nat) (f : Lane → Lane) : Head :=
  { h with net := { h.net with lanes := setAt l f h.net.lanes } }
def Head.pin (h : Head) (k : Nat) : Pin := h.pins.gp.getD k {}
def Head.setPin (h : Head) (k : Nat) (f : Pin → Pin) : Head := { h with pins := { h.pins with gp := setAt k f h.pins.gp } }
def Head.fieldIn (h : Head) (n : Nat) : FieldInput := h.pins.fin.getD n {}
def Head.setFieldIn (h : Head) (n : Nat) (f : FieldInput → FieldInput) : Head :=
  { h with pins := { h.pins with fin := setAt n f h.pins.fin } }
def Head.fieldOut (h : Head) (n : Nat) : FieldOutput := h.pins.fout.getD n {}
def Head.setFieldOut (h : Head) (n : Nat) (f : FieldOutput → FieldOutput) : Head :=
  { h with pins := { h.pins with fout := setAt n f h.pins.fout } }
/-- Output 0-3 is a field output, 4-43 general-purpose 0-39 (R404). -/
def Head.output (h : Head) (o : Nat) : OutputGroup := h.faults.outputs.getD o {}
def Head.setOutput (h : Head) (o : Nat) (f : OutputGroup → OutputGroup) : Head :=
  { h with faults := { h.faults with outputs := setAt o f h.faults.outputs } }
/-- A position of a branch, by 10-bit node address (Table 00-4). -/
def Head.position? (h : Head) (node : Nat) : Option Position := (h.branch (node / 32)).positions[node % 32]?
def Head.setPosition (h : Head) (node : Nat) (f : Position → Position) : Head :=
  h.setBranch (node / 32) fun b => { b with positions := setAt (node % 32) f b.positions }

/-! ### Time -/

/-- Head time in whole ns (R10). -/
def Head.now (h : Head) : Nat := h.time.head / 2 ^ 32

/-- Cycle length of a base rate in ns (R6, Table 05-2). -/
def rateCycleNs : Nat → Nat
  | 0 => 125000
  | 1 => 62500
  | 2 => 31250
  | _ => 15625

/-- The base schedule's cycle length in ns; 125,000 before there is one (log 9). -/
def Head.baseCycleNs (h : Head) : Nat := match h.net.base with
  | some s => rateCycleNs s.rate
  | none => 125000

/-- Cycle length of a kind of schedule (R60, R141). -/
def Head.cycleNsOf (h : Head) : SchedKind → Nat
  | .base => h.baseCycleNs
  | .rescue => 125000
  | .col => 1000000
  | .valley => 10000000

/-- Cycle length of the schedule in force, *C* (R176). DEDUCED (log 9). -/
def Head.cycleNs (h : Head) : Nat := h.cycleNsOf h.net.kind

/-- The schedule in force: the rescue schedule's own table under RESCUE, the base schedule's otherwise (R141). -/
def Head.schedule? (h : Head) : Option Schedule := if h.net.kind = .rescue then h.net.rescue else h.net.base

/-- Divisor of a range under the schedule in force (R28, R60). -/
def Head.divisorOf (h : Head) (r : Nat) : Nat :=
  if h.net.kind = .rescue then (h.range r).rescueDivisor else (h.range r).divisor

/-- Interval between updates of a range, in ns. -/
def Head.rangeNs (h : Head) (r : Nat) : Nat := h.cycleNs * h.divisorOf r

/-- The time-base tick at or next after an instant in 2⁻¹⁶ ns, in 2⁻³² ns, as the rate stands (R175, R186). DESIGN CHOICE (log 17). -/
def Head.tickAt (h : Head) (t : Nat) : Nat :=
  let head := h.time.head
  let step := max h.time.incr 1
  if t * 65536 ≤ head then head - (head - t * 65536) / step * step
  else head + (t * 65536 - head + step - 1) / step * step

/-- Head time moves on to a tick, in 2⁻³² ns, that has come (log 17). -/
def Head.atTick (h : Head) (tick : Nat) : Head := { h with time := { h.time with head := max h.time.head tick } }

/-- Head time moves on to the tick of an instant in ns that has come (R186, log 17). -/
def Head.reach (h : Head) (t : Nat) : Head := h.atTick (h.tickAt (t * 65536))

/-- Rate of the base schedule in Hz (R6). -/
def Head.baseRate (h : Head) : Nat := 1000000000 / h.baseCycleNs

/-! ### Free values (log 3) -/

/-- A fresh value that the spec leaves open. DESIGN CHOICE (log 3). -/
def Head.drawNat (h : Head) : Nat × Head := (Config.freeNat h.drawn, { h with drawn := h.drawn + 1 })
/-- DESIGN CHOICE (log 3). -/
def Head.drawInt (h : Head) : Int × Head := (Config.freeInt h.drawn, { h with drawn := h.drawn + 1 })
/-- DESIGN CHOICE (log 3). -/
def Head.drawBytes (h : Head) (n : Nat) : List Byte × Head :=
  (Config.freeBytes h.drawn n, { h with drawn := h.drawn + 1 })

/-! ### Roles and modes -/

/-- ACTIVE or SOLO: the head that commands the network (R32). -/
def Head.commands (h : Head) : Bool := h.sys.role = .active || h.sys.role = .solo

/-- In BOOT before the role is fixed: no standby head yet, unless the boot waits for it (R43, R46, R199). DEDUCED (log 87). -/
def Head.roleOpen (h : Head) : Bool :=
  h.sys.mode = .boot && h.sys.role = .none && h.sys.bootCode ≠ 0x0F && h.sys.bootCode ≠ 0x10

/-- Is the mode one of these? -/
def Head.inMode (h : Head) (ms : List Mode) : Bool := ms.contains h.sys.mode
/-- Every mode from BOOT on. -/
def Head.fromBoot (h : Head) : Bool := h.sys.mode ≠ .off && h.sys.mode ≠ .reset
/-- Every mode from COMMISSION on. -/
def Head.fromCommission (h : Head) : Bool := h.fromBoot && h.sys.mode ≠ .boot

/-- The channel this head drives: A for head A, the home head (R43, R120). -/
def Head.ownChannel (h : Head) : Nat := if h.sys.home then 0 else 1

/-- The head's claim: epoch and the priority of Table 15-1 (R375). -/
def Head.claim (h : Head) : Nat :=
  h.peer.epoch * 16 + (match h.commands, h.sys.home with
    | true, true => 0xC | true, false => 0x8 | false, true => 0x4 | false, false => 0x0)

/-! ### Outputs, interrupts and events -/

/-- Put something on a wire (the command's outputs, oldest first). DESIGN CHOICE (log 85). -/
def Head.emit (h : Head) (o : Output) : Head := { h with sent := h.sent ++ [o] }

/-- Signal an MSI-X vector: a message when the link is up and the entry is not masked, its pending bit otherwise (R67, R79). -/
def Head.signal (h : Head) (v : Nat) : Head :=
  if h.pcie.linkUp && !(h.pcie.msix.getD v {}).masked then h.emit (.msix v)
  else { h with pcie := { h.pcie with msix := setAt v (fun e => { e with pending := true }) h.pcie.msix } }

/-- An event entry (Table 03-12). -/
def eventBytes (code source seq time cycle object : Nat) (phase : Bool) (data : List Byte) : List Byte :=
  pack [(2, code), (1, flag phase 0), (1, source), (4, seq), (8, time), (6, cycle), (2, object)] ++ padTo 8 data

/-- Is there room for one more event on the route in force (R88)? -/
def EventQueue.room (e : EventQueue) : Bool :=
  if e.route = 0 then e.enabled && (e.tail + 1) % 4096 ≠ e.head else e.staged.length < 4096

/-- Write one entry on the route, whose room has been tested; PCIe signals the vector (R87, R89). -/
def Head.writeEvent (h : Head) (code source time cycle object : Nat) (data : List Byte) : Head :=
  let e := h.evq
  let bytes := eventBytes code source e.seq time cycle object e.phase data
  let e' := { e with seq := (e.seq + 1) % 2 ^ 32 }
  if e.route = 0 then
    let t := (e.tail + 1) % 4096
    let h := { h with evq := { e' with tail := t, phase := if t = 0 then !e.phase else e.phase } }
    (h.emit (.eventEntry e.tail bytes)).signal e.vector
  else { h with evq := { e' with staged := e.staged ++ [bytes] } }

/-- Posting an event, written or dropped, asserts WAKE_N while the function is in D3hot with PME enabled (R69). -/
def Head.wakeHost (h : Head) : Head :=
  if h.pcie.d3hot && h.pcie.pme then ({ h with pcie := { h.pcie with wakeN := true } }).emit .wakeN else h

/-- Once there is room after drops, EVENTS_LOST is written first (R88). -/
def Head.flushLost (h : Head) : Head :=
  if h.evq.lost ≠ 0 && h.evq.room then
    let h' := (h.writeEvent 0x0220 0 h.now h.time.cycle 0xFFFF (pack [(4, h.evq.lost), (4, h.evq.firstLost)])).wakeHost
    { h' with evq := { h'.evq with lost := 0, firstLost := 0 } }
  else h

/-- Post an event whose cause has this time and cycle (R87, R88). -/
def Head.postAt (h : Head) (code source object time cycle : Nat) (data : List Byte) : Head :=
  let h := h.flushLost
  if h.evq.room then (h.writeEvent code source time cycle object data).wakeHost
  else Head.wakeHost { h with evq := { h.evq with
    seq := (h.evq.seq + 1) % 2 ^ 32, dropped := satInc (2 ^ 32 - 1) h.evq.dropped, overflow := true,
    lost := satInc (2 ^ 32 - 1) h.evq.lost,
    firstLost := if h.evq.lost = 0 then h.now % 2 ^ 32 else h.evq.firstLost } }

/-- Post an event of this instant, with its DATA fields as (bytes, value) from byte 24 on (R488). -/
def Head.post (h : Head) (code source object : Nat) (data : List (Nat × Nat)) : Head :=
  h.postAt code source object h.now h.time.cycle (pack data)

/-- Post an event of a host item with the host-tag layout of Table 03-12. -/
def Head.postHost (h : Head) (code object : Nat) (p : Packet) : Head :=
  h.post code 1 object [(4, p.tag), (1, p.queue)]

/-! ### Replies -/

/-- The opcode and header fields a reply echoes (Table 03-9); `authed` as long as nothing shows the packet's MAC wrong. -/
def echoOf (p : Packet) (opcode : Nat) (authed : Bool := bit p.flags 3) : Echo :=
  { opcode, tag := p.tag, target := p.target, flags := p.flags, session := p.session, sequence := p.sequence, authed }

/-- The session key of an open session. -/
def Head.session? (h : Head) (id : Nat) : Option Session := h.sec.sessions.find? fun s => s.id == id

/-- A reply's bytes: header, parameters, and a MAC when the request carried a valid one (Table 03-9, R82, R430).
DEDUCED (log 68). -/
def Head.replyBytes (h : Head) (r : Reply) : List Byte :=
  let e := r.echo
  let message := pack [(2, e.opcode), (2, r.params.length), (4, e.tag), (2, e.target),
    (1, e.flags % 32 + flag r.asyncDone 6), (1, e.session), (4, e.sequence), (2, r.status), (2, 0)] ++ r.params
  match e.authed, r.key.orElse fun _ => (h.session? e.session).map fun s => s.key with
  | true, some key => message ++ (Config.hmac384 key message).take 16
  | _, _ => message

/-- NO_REPLY suppresses OK and ACCEPTED (R84). -/
def Reply.suppressed (r : Reply) : Bool := bit r.echo.flags 2 && (r.status = 0 || r.status = 1)

/-- The IPv4 pseudo-header that a UDP checksum covers. PRESUMED (log 6). -/
def pseudoHeader (src dest length : Nat) : List Byte := beBytes 4 src ++ beBytes 4 dest ++ beBytes 2 17 ++ beBytes 2 length

/-- The checksum of a UDP datagram that leaves: always computed (R70), a computed 0 sent as its other form.
PRESUMED (log 6). -/
def udpChecksum (src srcPort dest destPort : Nat) (payload : List Byte) : Nat :=
  let n := payload.length + 8
  let c := checksum (pseudoHeader src dest n ++ beBytes 2 srcPort ++ beBytes 2 destPort ++ beBytes 2 n ++ [0, 0] ++ payload)
  if c = 0 then 65535 else c

/-- Send a UDP datagram from a port (R70, R71). -/
def Head.sendUdp (h : Head) (port srcPort dest destPort : Nat) (payload : List Byte) : Head :=
  h.emit (.datagram port srcPort dest destPort (udpChecksum (h.eth.getD port {}).addr srcPort dest destPort payload) payload)

/-- Send a reply of an Ethernet queue: a datagram to the request's source, kept for resending (R71, R72). -/
def Head.sendDatagram (h : Head) (q : Nat) (r : Reply) : Head :=
  let eq := h.ethQueue q
  let bytes := h.replyBytes r
  match eq.ways.find? fun w => w.1 == r.echo.tag && w.2.1 == r.echo.sequence with
  | none => h
  | some (_, seq, port, addr, udp) =>
    let kept := ((seq, bytes) :: eq.kept.filter fun k => k.1 ≠ seq).take 16
    (h.setEthQueue q fun e => { e with kept }).sendUdp port (h.sys.udpBase + q) addr udp bytes

/-- Give a reply to its queue: waiting for completion slots on PCIe, sent at once on Ethernet, discarded on a queue that
is not enabled (R75, R79). -/
def Head.reply (h : Head) (q : Nat) (r : Reply) : Head :=
  if !(h.queue q).enabled then h
  else if (h.queue q).ethernet then
    let h := if r.suppressed then h else h.sendDatagram q r
    if r.status = 1 then h
    else h.setEthQueue q fun e => { e with ways := e.ways.filter fun w => !(w.1 == r.echo.tag && w.2.1 == r.echo.sequence) }
  else if r.suppressed then h
  else
    let r := { r with key := (h.session? r.echo.session).map fun s => s.key }
    h.setQueue q fun x => { x with replies := x.replies ++ [r] }

/-- Give the status of an item's first reply; one to a packet without a valid MAC carries none (R82). -/
def Head.answer (h : Head) (p : Packet) (opcode status : Nat) (params : List Byte) (authed : Bool := bit p.flags 3) : Head :=
  h.reply p.queue { echo := echoOf p opcode authed, asyncDone := false, status, params }

/-- Give every started item that waits for this its final status (R85). -/
def Head.finish (h : Head) (a : Await) (status : Nat) (params : List Byte := []) : Head :=
  { h with queues := h.queues.map fun q => { q with async := q.async.map fun i =>
      if i.await = a ∧ i.final = none then { i with final := some (status, params) } else i } }

/-- Does any started item wait for this? -/
def Head.awaited (h : Head) (a : Await) : Bool :=
  h.queues.any fun q => q.async.any fun i => i.await = a && i.final = none

/-- Tag and queue of the item that waits for something. -/
def Head.causing (h : Head) (a : Await) : Option (Nat × Nat) :=
  (h.queues.zipIdx.findSome? fun x => (x.1.async.find? fun i => i.await = a && i.final = none).map fun i => (i.echo.tag, x.2))

/-- Post the event that something ends with, in the host-tag layout when an item waits for it (Table 03-12, R488). -/
def Head.postFor (h : Head) (code object : Nat) (a : Await) : Head := match h.causing a with
  | some (tag, queue) => h.post code 1 object [(4, tag), (1, queue)]
  | none => h.post code 0 object []

/-! ### Fences -/

/-- Has every started item but the fences its final status (R90)? -/
def Head.allFinal (h : Head) : Bool :=
  h.queues.all fun q => q.async.all fun i => i.final ≠ none || i.await = .fence

/-- The oldest fence ends when nothing it marked is left: FENCE_MARK, then its OK reply (R90). -/
def Head.settleFence (h : Head) : Head :=
  match h.fences with
  | [] => h
  | f :: rest =>
    if h.allFinal then
      let h := h.post 0x0201 1 0xFFFF [(4, f.echo.tag), (1, f.queue)]
      let h := { h with fences := rest }
      h.setQueue f.queue fun q => { q with async := q.async.map fun i =>
        if i.await = .fence ∧ i.echo = f.echo ∧ i.final = none then { i with final := some (0, []) } else i }
    else h

end Sys2Proof.Machine
end

