-- ==== Sys2Proof/Machine/Acquire.lean ====
section
/-! DEFINITION. The acquisition unit's own operations: frames, packets, gaps, trigger units, records and measurements
(R344-R358), which faults, cycles and converters all reach. -/
namespace Sys2Proof.Machine

def Head.stream (h : Head) (s : Nat) : Stream := h.acq.streams.getD s {}
def Head.setStreamOf (h : Head) (s : Nat) (f : Stream → Stream) : Head :=
  { h with acq := { h.acq with streams := setAt s f h.acq.streams } }
def Head.unit (h : Head) (u : Nat) : TrigUnit := h.acq.units.getD u {}
def Head.setUnit (h : Head) (u : Nat) (f : TrigUnit → TrigUnit) : Head :=
  { h with acq := { h.acq with units := setAt u f h.acq.units } }
def Head.trigger (h : Head) (t : Nat) : Trigger := h.time.triggers.getD t {}
def Head.setTrigger (h : Head) (t : Nat) (f : Trigger → Trigger) : Head :=
  { h with time := { h.time with triggers := setAt t f h.time.triggers } }

/-- Start of a cycle at or before the current one, in 2⁻⁸ ns (R176). -/
def Head.cycleTime (h : Head) (c : Nat) : Nat := (h.time.cycleStart - (h.time.cycle - c) * h.cycleNs) * 256

/-- Interval of a general trigger's firings in 2⁻⁸ ns; 0 when it does not repeat (R187). -/
def Head.triggerPeriod (h : Head) (t : Nat) : Nat :=
  let g := h.trigger t
  if g.mode = 2 then g.period / 256 else if g.mode = 3 then g.div * h.cycleNs * 256 else 0

/-- The converter whose trigger paces an ADC source (R342): 0-3, or the first of a pair. -/
def sourceAdc (source : Nat) : Nat := if source = 4 then 0 else if source = 5 then 2 else source

/-- Sample period of a stream in 2⁻⁸ ns (Table 13-3). -/
def Head.samplePeriod (h : Head) (c : StreamCfg) : Nat :=
  if c.adc then h.triggerPeriod ((h.acq.adcs.getD (sourceAdc c.source) {}).trigger % 8) / (if c.source ≥ 4 then 2 else 1)
  else c.div * h.cycleNs * 256

/-- The last sample at or before an instant (2⁻⁸ ns): its index and its instant (R351). -/
def Head.sampleAt (h : Head) (s : Stream) (c : StreamCfg) (t : Nat) : Nat × Nat :=
  if c.adc then
    match (h.acq.adcs.getD (sourceAdc c.source) {}).running with
    | some f => if f * 256 ≤ t then (s.next, f * 256) else ((s.recent.head?.map fun r => (r.index, r.time)).getD (0, t))
    | none => (s.recent.head?.map fun r => (r.index, r.time)).getD (0, t)
  else
    let k := h.time.cycle - (h.time.cycle + c.div - c.phase) % c.div
    (k, h.cycleTime k)

/-- A packet without its SEQ: header of Table 13-3 and payload padded to a multiple of 32. -/
def packetBytes (kind stream index time period frames info : Nat) (payload : List Byte) : List Byte :=
  let n := (payload.length + 31) / 32 * 32
  pack [(1, kind), (1, stream), (2, n), (4, 0), (8, index), (8, time), (4, period), (2, frames), (2, info)] ++ padTo n payload

/-- Stage a packet of a running stream (R347). -/
def Stream.stage (s : Stream) (packet : List Byte) : Stream := { s with staged := s.staged ++ [packet] }

/-- Close the open DATA packet (R345, R348). -/
def Stream.close (n : Nat) (s : Stream) : Stream :=
  match s.frames with
  | [] => s
  | f :: _ =>
    let size := f.bytes.length
    { s with
      frames := []
      staged := s.staged ++ [packetBytes 1 n f.index (f.time / 256) f.period s.frames.length size
        (s.frames.flatMap fun x => x.bytes)] }

/-- Bytes waiting in the staging area (GET_STREAM). -/
def Stream.stagedBytes (s : Stream) : Nat :=
  sumNat (s.staged.map fun p => p.length) + sumNat (s.frames.map fun f => f.bytes.length)

/-- A frame that a stream loses is missing from the records of its units (R354, R358). -/
def Head.skipRecords (h : Head) (n : Nat) : Head :=
  { h with acq := { h.acq with units := h.acq.units.map fun x =>
      if (x.cfg.map fun c => c.stream) = some n then { x with records := x.records.map fun r =>
        if r.left > 0 then { r with left := r.left - 1, incomplete := true } else r } else x } }

/-- Count a frame lost; the first of a run opens a gap and posts STREAM_GAP (R347). -/
def Head.loseFrame (h : Head) (n reason index time : Nat) : Head :=
  let h := h.skipRecords n
  let s := h.stream n
  match s.gap with
  | some (r, i, t, k) => h.setStreamOf n fun s => { s with lost := s.lost + 1, gap := some (r, i, t, k + 1) }
  | none =>
    (h.setStreamOf n fun s => { (Stream.close n s) with
      lost := s.lost + 1, gaps := satInc (2 ^ 32 - 1) s.gaps, gap := some (reason, index, time, 1) }).post 0x0B01 0 n []

/-- The unit after its hold-off (R352, R356). -/
def TrigUnit.rearm (u : TrigUnit) : TrigUnit :=
  { u with state := if (u.cfg.map fun c => c.source) = some 1 then .arming else .armed, last := none }

/-- End a unit's hold-off: REPEAT arms again, SINGLE goes to IDLE; in a capture the segment must be stored first. -/
def Head.endHoldoff (h : Head) (u : Nat) : Head :=
  let captured := (h.acq.capture.map fun c => c.unit) = some u
  h.setUnit u fun x =>
    if captured then (if x.records.isEmpty then x.rearm else x)
    else if (x.cfg.map fun c => c.repeatMode) = some true then x.rearm
    else { x with state := .idle }

/-- A trigger that meets a unit outside ARMED is suppressed and counts; under EVENTS the last ignored one ends the
hold-off (R352). -/
def Head.suppressTrigger (h : Head) (u : Nat) : Head :=
  let x := h.unit u
  let h := h.setUnit u fun x => { x with
    suppressed := satInc (2 ^ 32 - 1) x.suppressed, sinceMark := satInc (2 ^ 32 - 1) x.sinceMark, ignore := x.ignore - 1 }
  if x.state = .holdoff ∧ x.ignore = 1 ∧ (x.cfg.map fun c => c.byEvents) = some true then h.endHoldoff u else h

/-- The stream that the capture samples (R355). -/
def Head.capturedStream (h : Head) : Option Nat :=
  h.acq.capture.bind fun k => (h.unit k.unit).cfg.map fun c => c.stream

/-- Sample index from one frame of a stream to the next (R343). -/
def StreamCfg.stride (c : StreamCfg) : Nat := if c.adc then 1 else c.div

/-- `n ÷ d` in 1/256; a value that eight bits cannot hold the spec does not state: a free value (R351). DESIGN CHOICE
(log 108). -/
def Head.byteFraction (h : Head) (n d : Nat) : Nat × Head :=
  if d = 0 || 256 * n / d > 255 then let (k, h) := h.drawNat; (k % 256, h) else (256 * n / d, h)

/-- The TRIGGER packet of a firing, or its mark inside a gap (R347, R349). -/
def Head.markTrigger (h : Head) (u : Nat) (c : UnitCfg) (sc : StreamCfg) (n f t : Nat) (forced : Bool) : Head :=
  let s := h.stream c.stream
  let x := h.unit u
  if s.state ≠ 1 || h.capturedStream = some c.stream then h
  else
    let inGap := s.gap.isSome
    let payload := padTo 32 (pack [(1, u), (1, c.source), (1, flag forced 0 + flag inGap 1), (1, 0), (4, x.count),
      (4, x.sinceMark)])
    let info := f + t % 256 * 256
    let h := if inGap then
        (if s.marks.length < 16 then
          h.setStreamOf c.stream fun s => { s with marks := s.marks ++ [⟨u, payload, n, t / 256, info⟩] }
        else h.setStreamOf c.stream fun s => { s with lostTriggers := satInc (2 ^ 32 - 1) s.lostTriggers })
      else h.setStreamOf c.stream fun s =>
        (Stream.close c.stream s).stage (packetBytes 2 c.stream n (t / 256) (h.samplePeriod sc) 0 info payload)
    h.setUnit u fun x => { x with sinceMark := 0 }

/-- Open the record of a trigger at sample `n`: the frames from n − PRE + 1 on that the stream has taken (R354, R356). -/
def Head.openRecord (h : Head) (u : Nat) (c : UnitCfg) (n f t : Nat) (forced : Bool) : Head :=
  let capture := match h.acq.capture with
    | some k => k.unit = u
    | none => false
  if !(c.measure || capture) then h
  else
    let s := h.stream c.stream
    let seen := s.recent.any fun r => r.index = n
    let want := c.pre - (if seen then 0 else 1)
    let avail := match h.acq.capture with
      | some k => if capture then min k.seen s.recent.length else s.recent.length
      | none => s.recent.length
    let stride := (s.cfg.map fun sc => sc.stride).getD 1
    let frames := (((s.recent.take avail).filter fun r => n < r.index + c.pre * stride).take want).reverse
    let r : Record := {
      index := n, fraction := f, time := t, forced := forced,
      shortPre := avail < want,
      left := c.post + (if seen || c.pre = 0 then 0 else 1), frames := frames, incomplete := frames.length < want }
    h.setUnit u fun x => { x with records := x.records ++ [r] }

/-- A trigger of a unit at sample `n`, fraction `f`, instant `t` in 2⁻⁸ ns: does it fire (R351-R353)? -/
def Head.fireUnit (h : Head) (u n f t : Nat) (forced : Bool) : Head × Bool :=
  let x := h.unit u
  match x.cfg with
  | none => (h, false)
  | some c => match (h.stream c.stream).cfg with
    | none => (h, false)
    | some sc =>
      if x.state ≠ .armed || x.lastSample = some n then (h.suppressTrigger u, false)
      else
        let h := h.setUnit u fun x => { x with
          count := satInc (2 ^ 32 - 1) x.count, lastTime := t, lastSample := some n,
          state := .holdoff,
          ignore := if c.byEvents then c.holdoff else 0 }
        let h := (h.markTrigger u c sc n f t forced).openRecord u c n f t forced
        (if c.holdoff = 0 then h.endHoldoff u else h, true)

/-- A trigger at an instant of head time in 2⁻⁸ ns, other than a LEVEL crossing (R351). -/
def Head.fireAt (h : Head) (u t : Nat) (forced : Bool) : Head × Bool :=
  match (h.unit u).cfg with
  | none => (h, false)
  | some c =>
    let s := h.stream c.stream
    match s.cfg with
    | none => (h, false)
    | some sc =>
      let (n, tn) := h.sampleAt s sc t
      let (f, h) := h.byteFraction (t - tn) (h.samplePeriod sc)
      h.fireUnit u n f t forced

/-- Fire every unit whose setting satisfies a test, lower units first (R353). -/
def Head.fireUnits (h : Head) (p : UnitCfg → Bool) (t : Nat) : Head :=
  (List.range 8).foldl (init := h) fun h u => if ((h.unit u).cfg.any p) then (h.fireAt u t false).1 else h

/-- Has a value crossed `level` between two samples, by slope 0 rising, 1 falling, 2 either (R350)? -/
def crosses (slope : Nat) (a b level : Int) : Bool :=
  ((slope = 0 || slope = 2) && a < level && level ≤ b) || ((slope = 1 || slope = 2) && a > level && level ≥ b)

/-- Does a sample lie at least `hyst` on the near side (R350)? -/
def nearSide (slope : Nat) (v level : Int) (hyst : Nat) : Bool :=
  if slope = 0 then v ≤ level - hyst else if slope = 1 then v ≥ level + hyst
  else v ≤ level - hyst || v ≥ level + hyst

/-- The crossing that a new frame shows a LEVEL unit of its stream: the sample before it, its instant in 2⁻⁸ ns, and the
numerator and denominator of its fraction (R350, R351). -/
def Head.crossing? (h : Head) (n u : Nat) (fr : Frame) : Option (Nat × Nat × Nat × Nat) :=
  let x := h.unit u
  match x.cfg, (h.stream n).cfg, x.last with
  | some c, some sc, some (i, t, a) =>
    if c.stream ≠ n || c.source ≠ 1 || fr.index ≠ i + sc.stride then none
    else (fr.values.getD c.arg none).bind fun b =>
      if crosses c.slope a b c.level then
        let (p, q) := ((c.level - a).natAbs, (b - a).natAbs)
        some (i, t + 256 * p / q * fr.period / 256, p, q)
      else none
  | _, _, _ => none

/-- The LEVEL rule of one unit on a new frame of its stream (R350-R352). -/
def Head.levelUnit (h : Head) (n u : Nat) (fr : Frame) : Head :=
  let x := h.unit u
  match x.cfg with
  | none => h
  | some c =>
    if c.stream ≠ n || c.source ≠ 1 then h
    else
      let value := (fr.values.getD c.arg none)
      let h := match x.state, h.crossing? n u fr, value with
        | .armed, some (i, t, p, q), _ => let (f, h) := h.byteFraction p q; (h.fireUnit u i f t false).1
        | .holdoff, some (i, t, _, _), _ => (h.fireUnit u i 0 t false).1
        | .arming, _, some b =>
          if nearSide c.slope b c.level c.hyst then h.setUnit u fun x => { x with state := .armed } else h
        | _, _, _ => h
      h.setUnit u fun x => { x with last := value.map fun v => (fr.index, fr.time, v) }

/-- The LEVEL units in the order of their crossings' instants, the lower unit first on a tie (R353). -/
def Head.levelOrder (h : Head) (n : Nat) (fr : Frame) : List Nat :=
  let key (u : Nat) : Nat := ((h.crossing? n u fr).map fun x => x.2.1).getD 0
  (List.range 8).foldl (init := []) fun acc u =>
    (acc.takeWhile fun v => key v ≤ key u) ++ u :: acc.dropWhile fun v => key v ≤ key u

/-- Give a new frame to the records of a stream's units (R354). -/
def Head.fillRecords (h : Head) (n : Nat) (fr : Frame) : Head :=
  { h with acq := { h.acq with units := h.acq.units.map fun x =>
      if (x.cfg.map fun c => c.stream) = some n then { x with records := x.records.map fun r =>
        if r.left > 0 ∧ r.index < fr.index + 1 ∧ (r.index < fr.index ∨ (x.cfg.any fun c => c.pre > 0))
        then { r with left := r.left - 1, frames := r.frames ++ [fr] } else r } else x } }

/-- A stream takes one frame (R344): triggers, records, then the staging area, unless a capture uses the stream.  A frame that
control traffic keeps from the staging area in its cycle is lost (R358). DESIGN CHOICE (log 106). -/
def Head.takeFrame (h : Head) (n : Nat) (fr : Frame) : Head :=
  let h := (h.levelOrder n fr).foldl (init := h) fun h u => h.levelUnit n u fr
  let late := Config.crowded h.time.cycle n
  let keep (h : Head) : Head := (h.fillRecords n fr).setStreamOf n fun s => { s with recent := (fr :: s.recent).take 4096 }
  let s := h.stream n
  if h.capturedStream = some n then
    if late then h.skipRecords n
    else
      let h := keep h
      { h with acq := { h.acq with capture := h.acq.capture.map fun c => { c with seen := c.seen + 1 } } }
  else if s.state ≠ 1 || s.paused || s.stopping then keep h
  else if late then h.loseFrame n 1 fr.index (fr.time / 256)
  else if s.gap.isSome || s.stagedBytes + fr.bytes.length > 1048576 then h.loseFrame n 2 fr.index (fr.time / 256)
  else (keep h).setStreamOf n fun s =>
    let fits := match s.frames with
      | [] => true
      | f :: _ => f.period = fr.period && (s.frames.length + 1) * fr.bytes.length ≤ 4064
    let s := if fits then s else Stream.close n s
    { s with frames := s.frames ++ [fr] }

/-- A stream may take frames: it runs, or a capture samples it (R355). -/
def Head.sampling (h : Head) (n : Nat) : Bool :=
  ((h.stream n).state = 1 && !(h.stream n).paused && !(h.stream n).stopping) ||
    h.acq.capture.any fun c => ((h.unit c.unit).cfg.map fun x => x.stream) = some n

/-- Placed rising crossings of a level in a record, in 2⁻⁸ ns (R354). -/
def risingCrossings (level : Int) (hyst : Nat) : Bool → Option (Nat × Int) → List (Nat × Nat × Option Int) → List Nat
  | _, _, [] => []
  | armed, prev, (time, period, value) :: rest =>
    match value with
    | none => risingCrossings level hyst armed none rest
    | some v =>
      match armed, prev with
      | true, some (t, a) =>
        if a < level ∧ level ≤ v then
          (t + (256 * (level - a) / (v - a)).toNat * period / 256)
            :: risingCrossings level hyst (nearSide 0 v level hyst) (some (time, v)) rest
        else risingCrossings level hyst true (some (time, v)) rest
      | _, _ => risingCrossings level hyst (armed || nearSide 0 v level hyst) (some (time, v)) rest

/-- The measurement block of a record (Table 13-5); with no valid sample the spec gives no values (log 3). -/
def Head.measure (h : Head) (c : UnitCfg) (r : Record) : List Byte × Head :=
  let ms := r.frames.map fun f => (f.time, f.period, f.values.getD c.measChannel none)
  let xs := ms.filterMap fun m => m.2.2
  let tail (crossings flags : Nat) := pack [(2, xs.length), (2, crossings), (1, flags), (1, c.measChannel), (2, 0)]
  match xs with
  | [] => let (b, h) := h.drawBytes 20
          (padTo 20 b ++ pack [(4, 0)] ++ tail 0 (flag r.incomplete 0 + 2), h)
  | x :: rest =>
    let count := xs.length
    let mean := roundDiv (xs.foldl (· + ·) 0) count
    let rms := isqrt (xs.foldl (fun a v => a + v.natAbs * v.natAbs) 0 / count)
    let hi := rest.foldl max x
    let lo := rest.foldl min x
    let cs := risingCrossings mean c.measHyst false none ms
    let period := match cs, cs.getLast? with
      | a :: _ :: _, some b => min ((b - a) / (cs.length - 1)) 0xFFFFFFFF
      | _, _ => 0
    (leInt 4 mean ++ leBytes 4 rms ++ leInt 4 hi ++ leInt 4 lo ++ leInt 4 (roundDiv (hi - lo) 2) ++ leBytes 4 period
      ++ tail cs.length (flag r.incomplete 0 + flag (cs.length < 2) 1), h)

/-- A segment of the segment area: header (Table 13-6), frames, and the measurement block (R355, R356). -/
def Head.segmentBytes (h : Head) (u : Nat) (c : UnitCfg) (r : Record) (truncated : Bool) : List Byte × Head :=
  let data := r.frames.flatMap fun f => f.bytes
  let n := (data.length + 31) / 32 * 32
  let (m, h) := if c.measure then h.measure c r else ([], h)
  (pack [(2, h.acq.segments.length), (1, u), (1, flag r.forced 0 + flag truncated 1 + flag r.shortPre 2),
    (4, r.frames.length), (8, r.time / 256), (1, r.time % 256), (1, r.fraction), (6, 0), (8, r.index)]
    ++ padTo n data ++ m, h)

/-- A capture ends (R357): a segment in progress is kept with TRUNCATED, CAPTURE_DONE, the item's final reply. -/
def Head.endCapture (h : Head) : Head :=
  match h.acq.capture with
  | none => h
  | some k =>
    let h := match (h.unit k.unit).cfg, (h.unit k.unit).records with
      | some c, r :: _ =>
        let (b, h) := h.segmentBytes k.unit c r true
        { h with acq := { h.acq with segments := h.acq.segments ++ [b] } }
      | _, _ => h
    let h := h.setUnit k.unit fun x => { x with state := .idle, records := [] }
    let h := { h with acq := { h.acq with capture := none } }
    (h.post 0x0B03 0 0xFFFF [(2, h.acq.segments.length)]).finish .captured 0

end Sys2Proof.Machine
end

