-- ==== Sys2Proof/Machine/Operands.lean ====
section
/-! DEFINITION. What a packet's operands are: parameters, fields, the axis reference (R108), the chunks of a chain (R81),
and the status codes (Table 03-11 and the block tables). -/
namespace Sys2Proof.Machine

/-! ### Status codes -/
namespace Status
abbrev ok := 0x0000
abbrev accepted := 0x0001
abbrev badOpcode := 0x0010
abbrev badLength := 0x0011
abbrev badParam := 0x0012
abbrev badState := 0x0013
abbrev notPermitted := 0x0014
abbrev busy := 0x0015
/-- DEDUCED (log 29). -/
abbrev epochStale := 0x0016
abbrev causePresent := 0x0017
abbrev invalidDate := 0x0018
abbrev queueFlushed := 0x0019
abbrev noCapacity := 0x001A
abbrev timeout := 0x001B
abbrev conflict := 0x001C
abbrev notActive := 0x001D
abbrev notAtRest := 0x0101
abbrev noRescueSchedule := 0x0102
abbrev networkIncomplete := 0x0103
abbrev fenceLate := 0x0201
abbrev sameQueue := 0x0202
abbrev groupOpen := 0x0203
abbrev gapViolation := 0x0301
abbrev segmentInUse := 0x0302
abbrev rangeMismatch := 0x0303
abbrev geometry := 0x0304
abbrev slotHeld := 0x0401
abbrev notCut := 0x0402
abbrev notRearmable := 0x0501
abbrev calendarFull := 0x0502
abbrev triggerPast := 0x0503
abbrev stopping := 0x0601
abbrev noLanding := 0x0602
abbrev stopped := 0x0603
abbrev superseded := 0x0604
abbrev outOfTravel := 0x0605
abbrev sourceInUse := 0x0701
abbrev moduleSignature := 0x0901
abbrev moduleFormat := 0x0902
abbrev moduleRollback := 0x0903
abbrev moduleInUse := 0x0904
abbrev hookMismatch := 0x0905
abbrev holdoffLimit := 0x0906
abbrev stepStopping := 0x0A01
abbrev atLimit := 0x0A02
abbrev inputChatter := 0x0A03
abbrev notHomed := 0x0A04
abbrev homingFailed := 0x0A05
abbrev stepSuperseded := 0x0A06
abbrev stepStopped := 0x0A07
abbrev ringInvalid := 0x0B01
abbrev streamSourceInUse := 0x0B02
abbrev captureRunning := 0x0B03
abbrev calSignal := 0x0C01
abbrev pairActive := 0x0C02
abbrev noPeer := 0x0D01
abbrev peerNotReady := 0x0D02
abbrev moving := 0x0D03
abbrev withdrawn := 0x0D04
abbrev logFull := 0x0D05
abbrev signatureFailed := 0x0F01
abbrev rollback := 0x0F02
abbrev tokenInvalid := 0x0F03
abbrev flashError := 0x0F04
abbrev alarmPast := 0x1001
abbrev notOutput := 0x1101
abbrev funcUnavailable := 0x1102
end Status

/-! ### Parameters -/

/-- The parameters: LENGTH bytes after the header (Table 03-7). -/
def prm (p : Packet) : List Byte := p.body.take p.length

/-- An unsigned field of the parameters. -/
def pu (p : Packet) (o n : Nat) : Nat := field (prm p) o n
/-- A signed field of the parameters. -/
def ps (p : Packet) (o n : Nat) : Int := sfield (prm p) o n
/-- Are these parameter bytes 0, as reserved bytes must be? -/
def pz (p : Packet) (o n : Nat) : Bool := zeros (prm p) o n

/-- The chunks of an item: one per packet of its chain (R81). -/
def chunks (p : Packet) : List (List Byte) := prm p :: p.rest.map fun c => c.body.take c.length

/-- The axis TARGET names: TARGET[11:0], with TARGET[15:12] 0 (R108). -/
def targetAxis? (p : Packet) (h : Head) : Option Axis := if p.target < 4096 then h.axis? p.target else none

/-- The axis reference's own rules: reserved bits 0, and ANY_EPOCH only where it is honoured (R108). -/
def axisRefOk (p : Packet) (observe : Bool) : Bool :=
  pz p 2 2 && (pu p 1 1 = 0 || (observe && pu p 1 1 = 1))

/-- EPOCH differs from the axis's current epoch and ANY_EPOCH is 0 (R109). -/
def epochStale (p : Packet) (a : Axis) : Bool := !bit (pu p 1 1) 0 && pu p 0 1 ≠ a.epoch

/-- TARGET 0xFFFF, as a command that addresses no object requires. -/
def noTarget (p : Packet) : Bool := p.target = 0xFFFF

/-- What TARGET names in the loop and observer commands: a mover, or 0x1000 + axis for a rotary segment axis (R234). -/
inductive Subject where
  | mover (m : Nat)
  | rotary (axis : Nat)
  | channel (c : Nat)
  deriving DecidableEq, Repr

/-- A rotary segment axis (Table 04-2). -/
def Axis.rotary (a : Axis) : Bool := a.kind = .segment && a.track = 0xFF
/-- A linear segment axis (Table 04-2). -/
def Axis.linear (a : Axis) : Bool := a.kind = .segment && a.track ≠ 0xFF

/-- The subject an observer or motion TARGET names, when it exists (R234, R259). -/
def subject? (target : Nat) (h : Head) : Option Subject :=
  if target < 256 then (h.mover? target).map fun m => .mover m.id
  else if 0x1000 ≤ target ∧ target < 0x2000 then
    match h.axis? (target - 0x1000) with
    | some a => if a.rotary then some (.rotary a.id) else none
    | none => none
  else if 0x2000 ≤ target ∧ target < 0x2008 then some (.channel (target - 0x2000))
  else none

/-- The axis that carries a subject's loops. -/
def Subject.axis? (s : Subject) (h : Head) : Option Axis := match s with
  | .mover m => (h.mover? m).bind fun x => h.axis? x.axis
  | .rotary a => h.axis? a
  | .channel _ => none

end Sys2Proof.Machine
end

