-- ==== Sys2Proof/Machine/Profile.lean ====
section
/-! DEFINITION. The jerk-limited profile generator (R218, R221): planning in whole ns and µm/s, evaluation in units with 16
fraction bits.  Where the spec leaves the rounding open the model rounds to nearest (log 11). -/
namespace Sys2Proof.Machine

/-- Position (units, 16 fraction bits), velocity (µm/s), acceleration (µm/s²). -/
structure Kin where
  x : Int
  v : Int
  a : Int
  deriving DecidableEq, Repr

/-- A set-point state after `t` ns under a constant jerk `j` (1 µm is 4 units). -/
def Kin.after (k : Kin) (t : Nat) (j : Int) : Kin :=
  let n : Int := k.v * t * 6000000000000000000 + k.a * t * t * 3000000000 + j * t * t * t
  { x := k.x + roundDiv (262144 * n) 6000000000000000000000000000
    v := k.v + roundDiv (k.a * t * 2000000000 + j * t * t) 2000000000000000000
    a := k.a + roundDiv (j * t) 1000000000 }

/-- The state at the end of a list of phases. -/
def Kin.run (k : Kin) : List (Nat × Int) → Kin
  | [] => k
  | (t, j) :: ps => (k.after t j).run ps

/-- The state `t` ns into a list of phases; none after its end. -/
def Kin.at? (k : Kin) (t : Nat) : List (Nat × Int) → Option Kin
  | [] => none
  | (d, j) :: ps => if t < d then some (k.after t j) else (k.after d j).at? (t - d) ps

/-- Phases that take (v₀, a₀) to (v₁, 0) in least time within ±amax and ±jmax. DEDUCED (log 11). -/
def velocityPhases (v0 a0 v1 : Int) (amax jmax : Nat) : List (Nat × Int) :=
  let jm := max jmax 1
  let up := v0 + a0 * a0.natAbs / (2 * jm) ≤ v1
  let s : Int := if up then 1 else -1
  let a := s * a0
  let dv := s * (v1 - v0)
  let peak := min amax (isqrt ((jm * dv + a * a / 2).toNat))
  let t1 := (((peak : Int) - a).toNat) * 1000000000 / jm
  let t3 := peak * 1000000000 / jm
  let ramps : Int := ((peak : Int) * peak * 2 - a * a) / (2 * jm)
  let t2 := if peak = 0 then 0 else ((dv - ramps).toNat) * 1000000000 / peak
  [(t1, s * jm), (t2, 0), (t3, -(s * jm))]

/-- Total duration of phases in ns. -/
def phasesNs (ps : List (Nat × Int)) : Nat := sumNat (ps.map fun p => p.1)

/-- Displacement of going from (v₀, a₀) through a peak velocity to rest. -/
def throughPeak (v0 a0 vp : Int) (amax jmax : Nat) : List (Nat × Int) × List (Nat × Int) :=
  (velocityPhases v0 a0 vp amax jmax, velocityPhases vp 0 0 amax jmax)

/-- Bisect for the largest peak speed in the direction `s` whose displacement does not pass `dist`. -/
def findPeak : Nat → Nat → Nat → (Nat → Bool) → Nat
  | 0, lo, _, _ => lo
  | k + 1, lo, hi, fits =>
    if hi ≤ lo + 1 then (if fits hi then hi else lo)
    else let mid := (lo + hi) / 2
      if fits mid then findPeak k mid hi fits else findPeak k lo mid fits

/-- Phases from (v₀, a₀), moving toward the target or at rest, over a signed distance. -/
def forwardPhases (v0 a0 dist : Int) (l : Limits) : List (Nat × Int) :=
  let s : Int := if dist < 0 then -1 else 1
  let moved (vp : Nat) : Int :=
    let (p, q) := throughPeak v0 a0 (s * vp) l.amax l.jmax
    s * ((Kin.run ⟨0, v0, a0⟩ (p ++ q)).x)
  let vp := findPeak 40 0 (max l.vmax 1) fun v => moved v ≤ s * dist
  let (p, q) := throughPeak v0 a0 (s * vp) l.amax l.jmax
  let rest := s * dist - moved vp
  let cruise := if vp = 0 then 0 else (rest.toNat * 1000000000) / (262144 * vp)
  p ++ [(cruise, 0)] ++ q

/-- Phases of a stop from (v₀, a₀) with a set's deceleration and jerk (R221). -/
def stopPhases (v0 a0 : Int) (l : Limits) : List (Nat × Int) := velocityPhases v0 a0 0 l.amax l.jmax

/-- Where a stop planned now ends (units, 16 fraction bits). -/
def stopPoint (k : Kin) (l : Limits) : Int := (k.run (stopPhases k.v k.a l)).x

/-- A move from the present set-point state to a target, units (R218). DEDUCED (log 11). -/
def planMove (t0 : Nat) (k : Kin) (target : Int) (l : Limits) : Plan :=
  let goal := target * 65536
  let stop := stopPhases k.v k.a l
  let rest := k.run stop
  let dist := goal - rest.x
  let phases :=
    if k.v = 0 ∧ k.a = 0 then forwardPhases 0 0 (goal - k.x) l
    else if (0 ≤ dist ∧ 0 ≤ k.v) ∨ (dist ≤ 0 ∧ k.v ≤ 0) then forwardPhases k.v k.a (goal - k.x) l
    else stop ++ forwardPhases 0 0 dist l
  { t0, x0 := k.x, v0 := k.v, a0 := k.a, phases, target }

/-- A stop from the present set-point state (R221). -/
def planStop (t0 : Nat) (k : Kin) (l : Limits) : Plan :=
  let phases := stopPhases k.v k.a l
  { t0, x0 := k.x, v0 := k.v, a0 := k.a, phases, target := roundDiv (k.run phases).x 65536 }

/-- The end instant of a plan. -/
def Plan.ends (p : Plan) : Nat := p.t0 + phasesNs p.phases

/-- The profile at a head time: the target exactly from the end instant on (R218). -/
def Plan.eval (p : Plan) (t : Nat) : Kin :=
  match (Kin.mk p.x0 p.v0 p.a0).at? (t - p.t0) p.phases with
  | some k => k
  | none => ⟨p.target * 65536, 0, 0⟩

end Sys2Proof.Machine
end

