-- ==== Sys2Proof/Machine/Moves.lean ====
section
/-! DEFINITION. Moves and stops as shared operations: the profile of a mover axis or rotary axis (R218-R223), the
trapezoid of a stepper axis or group (R330-R333), and what rest means. -/
namespace Sys2Proof.Machine

/-! ### Movers and rotary axes -/

/-- The observer that an axis's loops use: its mover's, or its own (R254). -/
def Head.obsOf (h : Head) (a : Axis) : Observer :=
  match h.moverOfAxis? a.id with
  | some m => m.obs
  | none => a.obs

/-- The axes that carry a mover's force: its bound segments, or the rotary axis itself (R106, R220). -/
def Head.carriers (h : Head) (a : Axis) : List Axis :=
  match h.moverOfAxis? a.id with
  | some m => h.axes.filter fun s => s.kind = .segment && s.moverNow = some m.id
  | none => if a.rotary then [a] else []

/-- The set-point state at a head time (R218). -/
def Motion.at (m : Motion) (t : Nat) : Kin := match m.plan with
  | some p => p.eval t
  | none => ⟨m.xSet, 0, 0⟩

/-- Does the axis carry a profile generator: a mover axis or a rotary segment axis (R217)? -/
def Axis.profiled (a : Axis) : Bool := a.kind = .mover || a.rotary

/-- Brakes applied at every carrier: BRAKE_RELEASED clear in its last status word (R220, Table 06-8). -/
def Head.braked (h : Head) (a : Axis) : Bool := !a.motion.brakeRelease && (h.carriers a).all fun s => !bit s.status 1

/-- The difference of two positions of an axis: a rotary axis's wraps with its 32-bit coordinate (R251). -/
def Axis.difference (a : Axis) (x y : Int) : Int := if a.rotary then toSigned 32 (ofSigned 32 (x - y)) else x - y

/-- A target as a coordinate beside the set-point `x` (16 fraction bits): that of a rotary axis lies within half its wrap of it
(R251). -/
def Axis.goal (a : Axis) (x target : Int) : Int :=
  if a.rotary then roundDiv x 65536 + a.difference target (roundDiv x 65536) else target

/-- The set-point at rest and no move or stop running (R221). -/
def Axis.atRest (a : Axis) : Bool := a.motion.move = .idle && a.motion.plan = none

/-- Sample instant of the cycle in which a demand on an axis takes effect (R218): the first one whose graph is still to run.
DEDUCED (log 92). -/
def Head.effectSample (h : Head) (a : Axis) : Nat := match a.graph with
  | .waiting | .ready => h.time.cycleStart
  | .complete | .abandoned => h.time.cycleStart + h.cycleNs

/-- A move's start (R218, R220): at once with the brakes released, else a wait of at most 500 ms; the earlier move's item
completes with SUPERSEDED. DEDUCED (log 92). -/
def Head.startMove (h : Head) (a : Axis) (target : Int) (set : Nat) : Head :=
  let now := h.now
  let t := h.effectSample a
  let h := if a.motion.move = .moving then h.finish (.moved a.id) Status.superseded else h
  let limits := a.motion.limits.getD set ⟨1, 1, 1⟩
  h.setAxis a.id fun a => { a with motion :=
    if a.motion.brakeRelease && a.motion.brakeWait = none then
      { a.motion with plan := some (planMove t (a.motion.at t) (a.goal (a.motion.at t).x target) limits), move := .moving, set, inPosRun := 0 }
    else
      { a.motion with move := .moving, set, inPosRun := 0, brakeRelease := true, waitTarget := some target
                      brakeWait := some (a.motion.brakeWait.getD (now + 500000000)) } }

/-- A stop's start (R221, R223): a QUICK stop replaces a NORMAL one, a NORMAL one during a QUICK one changes nothing; the
running move's item completes with STOPPED. DEDUCED (log 31, log 92). -/
def Head.startStop (h : Head) (a : Axis) (quick fault : Bool) (after : AfterStop) : Head :=
  let t := h.effectSample a
  let h := h.finish (.moved a.id) Status.stopped
  let m := a.motion
  let running := m.move = .stopping || m.move = .faultStop
  h.setAxis a.id fun a => { a with motion :=
    let after' := if running && m.after ≠ .rest && after = .rest then m.after else after
    let move := if fault || m.move = .faultStop then MoveState.faultStop else MoveState.stopping
    if running && (m.quick || !quick) then { m with after := after', move }
    else
      { m with
        plan := some (planStop t (m.at t) (m.limits.getD (if quick then 3 else m.set) ⟨1, 1, 1⟩))
        move, quick, after := after', restRun := 0, brakeWait := none, waitTarget := none } }

/-- Everything that waits for an axis's motion ends, when it is belayed at once (R222, R223; log 12): a move with STOPPED,
a stop with OK, a disable with BAD_STATE. -/
def Head.dropMotion (h : Head) (a : Nat) : Head :=
  let h := ((h.finish (.moved a) Status.stopped).finish (.stopped a) Status.ok).finish (.disabled a) Status.badState
  h.setAxis a fun a => { a with motion := { a.motion with
    plan := none, move := .idle, after := .rest, vSet := 0, aSet := 0, brakeRelease := false, brakeWait := none
    waitTarget := none, dwellEnd := none, dropAt := none } }

/-! ### Stepper axes -/

/-- Position (16 fraction bits) and velocity (microsteps/s) of a trapezoid after its phases up to `t` ns. -/
def rampAfter (p : Int) (v : Int) : Nat → List (Nat × Int) → Option (Int × Int)
  | _, [] => none
  | t, (d, a) :: rest =>
    let step (n : Nat) : Int × Int :=
      (p + roundDiv ((v * n * 2000000000 + a * n * n) * 65536) 2000000000000000000, v + roundDiv (a * n) 1000000000)
    if t < d then some (step t) else rampAfter (step d).1 (step d).2 (t - d) rest

/-- The trapezoid's own value: position and velocity at a head time, the target exactly from its end on (R330). -/
def Ramp.own (r : Ramp) (t : Nat) : Int × Int := (rampAfter r.p0 r.v0 (t - r.t0) r.phases).getD (r.target * 65536, 0)

/-- A member's value: the leader's path scaled by its own distance (R332). -/
def Ramp.eval (r : Ramp) (t : Nat) : Int × Int :=
  let (p, v) := r.own t
  match r.scale with
  | none => (p, v)
  | some (start, d, dmax) =>
    if dmax = 0 then (start, 0)
    else (start + roundDiv (d * (p - r.p0) * (if dmax < 0 then -1 else 1)) dmax.natAbs,
          roundDiv (d * v * (if dmax < 0 then -1 else 1)) dmax.natAbs)

def Ramp.ends (r : Ramp) : Nat := r.t0 + sumNat (r.phases.map fun p => p.1)

/-- Time in ns to change speed by `dv` at `amax`. -/
def rampNs (dv amax : Nat) : Nat := dv * 1000000000 / max amax 1

/-- Phases over a distance (16 fraction bits, not negative) from a speed toward the target (R330). -/
def forwardRamp (s : Int) (v : Nat) (dist vmax amax : Nat) : List (Nat × Int) :=
  let a := max amax 1
  let peak := isqrt (a * dist / 65536 + v * v / 2)
  if v > vmax then
    let used := (v * v - vmax * vmax) * 65536 / (2 * a) + vmax * vmax * 65536 / (2 * a)
    [(rampNs (v - vmax) a, -(s * a)), ((dist - used) * 1000000000 / (65536 * max vmax 1), 0), (rampNs vmax a, -(s * a))]
  else if peak ≤ vmax then [(rampNs (peak - v) a, s * a), (rampNs peak a, -(s * a))]
  else
    let used := (vmax * vmax - v * v) * 65536 / (2 * a) + vmax * vmax * 65536 / (2 * a)
    [(rampNs (vmax - v) a, s * a), ((dist - used) * 1000000000 / (65536 * max vmax 1), 0), (rampNs vmax a, -(s * a))]

/-- Where a stop from a state ends (16 fraction bits). -/
def stopAt (p v : Int) (amax : Nat) : Int := p + v * v.natAbs * 65536 / (2 * (max amax 1 : Nat))

/-- A trapezoid from a planned state to a target in microsteps (R330). DEDUCED (log 11). -/
def planRamp (t0 : Nat) (p v target : Int) (vmax amax : Nat) : Ramp :=
  let goal := target * 65536
  let dist := goal - p
  let s : Int := if dist < 0 then -1 else 1
  let stop := stopAt p v amax
  let phases :=
    if s * v ≥ 0 ∧ s * (goal - stop) ≥ 0 then forwardRamp s v.natAbs dist.natAbs vmax amax
    else
      let d2 := goal - stop
      (rampNs v.natAbs amax, if v < 0 then ((max amax 1 : Nat) : Int) else -((max amax 1 : Nat) : Int))
        :: forwardRamp (if d2 < 0 then -1 else 1) 0 d2.natAbs vmax amax
  { t0, p0 := p, v0 := v, phases, target, scale := none }

/-- A ramped stop from a planned state. -/
def planRampStop (t0 : Nat) (p v : Int) (amax : Nat) : Ramp :=
  { t0, p0 := p, v0 := v
    phases := [(rampNs v.natAbs amax, if v < 0 then ((max amax 1 : Nat) : Int) else -((max amax 1 : Nat) : Int))]
    target := roundDiv (stopAt p v amax) 65536, scale := none }

/-- Commanded position and velocity at a head time. -/
def Stepper.at (s : Stepper) (t : Nat) : Int × Int := match s.ramp with
  | some r => r.eval t
  | none => (s.pos, 0)

/-- At rest: no move, stop or homing runs (Table 12-6). -/
def Stepper.atRest (s : Stepper) : Bool := s.state = .idle

/-- A local stepper axis (LOCATION bit 15). -/
def Axis.localStep (a : Axis) : Bool := a.kind = .stepper && bit a.location 15
/-- Its local channel (R318). -/
def Axis.stepChannel (a : Axis) : Nat := bits a.location 12 10

/-- Change a stepper axis's stepper part. -/
def Head.setStep (h : Head) (id : Nat) (f : Stepper → Stepper) : Head := h.setAxis id fun a => { a with step := f a.step }

/-- The members of a stepper's moving group, or the stepper alone. -/
def Head.members (h : Head) (a : Axis) : List Axis :=
  h.axes.filter fun x => x.id = a.id || (a.step.group ≠ none && x.step.group = a.step.group)

/-- The least of the members' AMAX, scaled to the leader's distance (R332, R333). -/
def groupAmax (set : Nat) (xs : List Axis) : Nat :=
  (xs.filterMap fun x =>
    let amax := (x.step.limits.getD set (1, 1)).2
    match x.step.ramp.bind fun r => r.scale with
    | some (_, d, dmax) => if d = 0 then none else some (amax * dmax.natAbs / d.natAbs)
    | none => some amax).foldl min 2147483647

/-- Stop one stepper, or its whole group along the group's path (R333), with limit set `set`; the running move's or
homing's item completes with `status`. -/
def Head.stopSteps (h : Head) (a : Axis) (set : Nat) (quick fault : Bool) (status : Nat) : Head :=
  let now := h.now
  let member (x : Axis) : Bool := x.id = a.id || (a.step.group ≠ none && x.step.group = a.step.group)
  let stopping := a.step.state = .stopping
  let h := ((h.finish (.stepped (a.step.group.getD a.id)) status).finish (.homed a.id) status)
  if a.step.state = .idle then h
  else if stopping && (a.step.quick || !quick) then
    h.setStep a.id fun s => { s with faultStop := s.faultStop || fault }
  else
    let amax := groupAmax set (h.members a)
    h.setAxes member fun x => { x with step :=
    let s := x.step
    let ramp := match s.ramp with
      | some r =>
        let (p, v) := r.own now
        let stop := planRampStop now p v amax
        match r.scale with
        | some (_, d, dmax) => { stop with scale := some ((r.eval now).1, d, dmax) }
        | none => stop
      | none => planRampStop now s.pos 0 amax
    { s with ramp := some ramp, state := .stopping, quick, homing := none
             faultStop := s.faultStop || (fault && x.id = a.id) } }

/-- HOMED clears for good (R336, R337). -/
def Stepper.unhome (s : Stepper) : Stepper := { s with flags := s.flags &&& ~~~(1#16), keepHomed := false }

/-- HOMED clears as the axis leaves ENABLED; an axis with ENCODER set may have it again at its next enable (R337). -/
def Stepper.leave (s : Stepper) (enabled : Bool) : Stepper :=
  { s with flags := s.flags &&& ~~~(1#16), keepHomed := if enabled then s.cfg.encoder && s.flags.getLsbD 0 else s.keepHomed }

/-- A stepper belayed or disabled at once: its motion ends where it stands; the others of its group stop on the scaled
ramp and the path is not kept (R333). -/
def Head.dropSteps (h : Head) (a : Axis) : Head :=
  let now := h.now
  let leader := a.step.group.getD a.id
  let h := (h.finish (.stepped leader) Status.stepStopped).finish (.homed a.id) Status.badState
  let h := h.finish (.stepStopped a.id) Status.ok
  let h := match a.step.group with
    | some _ => (h.axes.filter fun (x : Axis) => x.step.group = a.step.group && x.id ≠ a.id).foldl (init := h) fun (h : Head) (x : Axis) =>
        let h := h.stopSteps { x with step := { x.step with group := none } } 1 true false Status.stepStopped
        h.setStep x.id fun s => { s with group := none }
    | none => h
  h.setStep a.id fun s => { s with
    pos := (s.at now).1, vel := 0, ramp := none, state := .idle, group := none, homing := none, faultStop := false }

end Sys2Proof.Machine
end

