-- ==== Sys2Proof/Machine/Modes.lean ====
section
/-! DEFINITION. Reaching a mode or depth (R34, R37), the SYS_STATE register (R65), and what a mode change does to the debug
level (R434), streams and captures (R348, R357), the kick watchdog (R413) and the converters (R372). -/
namespace Sys2Proof.Machine

/-- Mode codes of Table 02-1; OFF and RESET have none (R30). -/
def modeCode : Mode → Nat
  | .off => 0 | .reset => 0 | .boot => 1 | .commission => 2 | .service => 3 | .rescue => 4 | .idle => 5 | .safe => 6

def roleCode : Role → Nat
  | .none => 0 | .active => 1 | .standby => 2 | .solo => 3

/-- SYS_STATE (Table 02-7). -/
def Head.sysState (h : Head) : Nat :=
  modeCode h.sys.mode + h.sys.depth % 8 * 16 + flag h.sys.transition.isSome 7 + roleCode h.sys.role * 256
    + flag h.sys.home 10 + flag h.sys.onBattery 11 + flag h.sys.rescueDone 12 + h.sys.bootsel % 8 * 8192
    + flag h.sys.testN 16 + h.sys.bootCode % 256 * 2 ^ 24

/-- MODE_CHANGED with its cause and the item that caused it (R37). -/
def Head.postMode (h : Head) (cause : Nat) (origin : Option (Nat × Nat)) : Head :=
  h.post 0x0101 (if origin.isSome then 1 else 0) 0xFFFF
    [(4, (origin.map fun o => o.1).getD 0), (1, (origin.map fun o => o.2).getD 0xFF), (1, cause), (2, h.sysState % 65536)]

/-- Highest debug level by lifecycle, mode and depth (Table 17-11). DEDUCED (log 69). -/
def debugMax (lifecycle : Nat) (m : Mode) (depth : Nat) (token : Bool) : Nat :=
  match m with
  | .off => 0
  | .reset => 0
  | .boot => if lifecycle ≤ 1 then 2 else 1
  | .commission => if lifecycle = 1 || token then 2 else 1
  | .safe => if lifecycle = 1 || token then 2 else 1
  | .service => if lifecycle = 1 then 2 else 1
  | .rescue => 1
  | .idle => if depth ≤ 1 then 1 else 0

/-- Set the debug level and post DEBUG_LEVEL at a change; below D2 every halted core resumes (R433, R434). -/
def Head.setDebugLevel (h : Head) (n : Nat) : Head :=
  if h.sec.debugLevel = n then h
  else ({ h with sec := { h.sec with debugLevel := n, halted := if n < 2 then [] else h.sec.halted } }).post 0x0F01 0 0xFFFF []

/-- Lower the level to what the mode and depth in force allow; entry to Col or deeper closes the session (R434). -/
def Head.lowerDebug (h : Head) : Head :=
  let token := h.sec.debugSession.any fun d => d.token
  let h := h.setDebugLevel (min h.sec.debugLevel (debugMax h.sec.lifecycleNow h.sys.mode h.sys.depth token))
  if h.sys.mode = .idle && h.sys.depth ≥ 2 then { h with sec := { h.sec with debugSession := none } } else h

/-- A range enters RUNNING; the first one closes the step window (R97, R179). -/
def Head.runRange (h : Head) (r : Nat) : Head :=
  let h := h.setRange r fun x => { x with state := .running, starting := false, peak := 0 }
  ({ h with time := { h.time with stepOpen := false, stepDue := none } }).finish (.rangeRunning r) 0

/-- What holds at each entry to COMMISSION: the watchdog armed with its sequence at 0 (R413), the converters calibrating
(R372), beacons and frames running (R38). -/
def Head.enterCommission (h : Head) : Head :=
  { h with
    faults := { h.faults with kickArmed := true, kickNext := 0, kickTime := h.now }
    acq := { h.acq with adcs := h.acq.adcs.map fun a => { a with calibrating := true } }
    net := { h.net with running := true } }

/-- PLL_C and PLL_D are off at Valley and Moraine (Table 18-4). -/
def Head.stopPlls (h : Head) : Head :=
  let off (p : Pll) : Pll := { p with lock := false, safe := true, lost := false, failed := 0 }
  { h with power := { h.power with pllC := off h.power.pllC, pllD := off h.power.pllD } }

/-- The tiles that the rescue gated are powered again, empty (R64). -/
def Head.powerTiles (h : Head) : Head :=
  { h with
    sys := { h.sys with tilesGated := false }
    compute := { h.compute with tiles := h.compute.tiles.map fun (x : Tile) => if x.state = .gated then { x with state := .up } else x } }

/-- What a mode other than RESCUE and IDLE brings back: the gated tiles (R64); and where COMMISSION is entered from SAFE, the
network check and the schedule check run again (R36). -/
def Head.renew (h : Head) (was m : Mode) : Head :=
  let h := if m ≠ .rescue && m ≠ .idle then h.powerTiles else h
  if was = .safe && m = .commission then
    { h with
      sys := { h.sys with built := false, checked := false }
      net := { h.net with branches := h.net.branches.map fun (b : Branch) => { b with misplaced := [] } } }
  else h

/-- Commit a ball's staged setting (R466): a ball that changes is parked until an instant. -/
def Pin.commit (parkEnd : Nat) (p : Pin) : Pin := match p.staged with
  | none => p
  | some s =>
    if s = p.set then { p with staged := none }
    else
      let held := if s.parkHold then p.drives else none
      { p with set := s, staged := none, level := s.initLevel, parked := true, parkEnd, held, drives := held, pulseEnd := none }

/-- Does a commit change the ball? -/
def Pin.changes (p : Pin) : Bool := p.staged.any fun s => s ≠ p.set

/-- Commit every staged setting on an I/O clock, PARK_CLKS clocks of 10 ns before the park's end; the number of balls that change
(R466). -/
def Head.commitPins (h : Head) (clock : Nat) : Head × Nat :=
  ({ h with pins := { h.pins with gp := h.pins.gp.map (Pin.commit (clock + 10 * h.pins.parkClks)) } },
    (h.pins.gp.filter Pin.changes).length)

/-- At the end of BOOT what the configuration records staged is committed once, on the next I/O clock (R466, log 3). -/
def Head.commitBoot (h : Head) : Head :=
  if h.pins.gp.all fun p => p.staged.isNone then h
  else
    let (n, h) := h.drawNat
    (h.commitPins (h.now + 1 + n % 10)).1

/-- A mode or depth is reached (R34, R37). -/
def Head.reachMode (h : Head) (m : Mode) (depth cause : Nat) (origin : Option (Nat × Nat)) : Head :=
  let was : Mode := h.sys.mode
  let h := { h with sys := { h.sys with
    mode := m, depth, transition := none, modeTime := h.now
    tolerance := if m == Mode.idle then h.sys.tolerance else 0
    rescueDone := h.sys.rescueDone && !(m == Mode.rescue && was != Mode.rescue) } }
  let h := (h.renew was m).lowerDebug
  let h := if m ≠ Mode.commission && m ≠ Mode.safe then h.endCapture else h
  let h := { h with acq := { h.acq with streams := h.acq.streams.map fun (s : Stream) => { s with paused := s.state == 1 && m == Mode.idle } } }
  let h := if was = Mode.boot then h.commitBoot else h
  let h := if m = Mode.commission then h.enterCommission else h
  let h := if m = Mode.idle && depth ≥ 3 then h.stopPlls else h
  let h : Head := if m = Mode.idle && depth = 4 then { h with compute := { h.compute with parked := true } } else h
  let h := if m = Mode.service && was ≠ Mode.service then
      (List.range 8).foldl (init := h) fun h r =>
        if (h.range r).autoRun && (h.range r).state = RangeState.stopped then h.runRange r else h
    else h
  (h.postMode cause origin).finish .transition 0

end Sys2Proof.Machine
end

