-- ==== Sys2Proof/Machine/Faults.lean ====
section
/-! DEFINITION. The fault collector (R399-R402), its reactions (Table 16-3, R404-R409, R489), the alive signal's stop
(R414), and `settle`, which every command ends with. -/
namespace Sys2Proof.Machine

/-! ### Sources, codes and severities (Tables 16-1 and 16-2) -/

/-- Severities of a kind's codes, by code. -/
def severities : Nat → List Nat
  | 0 => [4, 4, 4, 4, 4, 4, 4, 4, 4, 4, 1, 1, 1, 1, 1, 1, 1, 1, 1, 1, 0]
  | 1 => [1, 1, 0]
  | 2 => [3, 3, 3, 3, 3]
  | 3 => [2, 2, 2, 2, 2, 2, 2, 2, 2, 2, 2, 2, 2, 2, 2, 2, 2, 2, 1, 1, 1, 1, 0, 0, 1, 1, 1]
  | 4 => [1]
  | 5 => [1]
  | 6 => [1, 0]
  | 7 => [1, 1, 1]
  | 8 => [1, 1]
  | 9 => [1, 1, 1, 1, 1, 1]
  | 10 => [1, 1, 0]
  | _ => []

def severity? (source code : Nat) : Option Nat := (severities (source / 4096))[code]?

abbrev srcTile (t : Nat) : Nat := 0x1000 + t
abbrev srcRange (r : Nat) : Nat := 0x2000 + r
abbrev srcAxis (a : Nat) : Nat := 0x3000 + a
abbrev srcNode (n : Nat) : Nat := 0x4000 + n
abbrev srcChannel (branch channel : Nat) : Nat := 0x5000 + 32 * channel + branch
abbrev srcLane (l : Nat) : Nat := 0x6000 + l
abbrev srcInput (n : Nat) : Nat := 0x7000 + n
abbrev srcOutput (n : Nat) : Nat := 0x8000 + n
abbrev srcLocal (n : Nat) : Nat := 0x9000 + n
abbrev srcAnalog (n : Nat) : Nat := 0xA000 + n

/-- Does the source index name an object (R399, R419)? -/
def Head.sourceExists (h : Head) (source : Nat) : Bool :=
  let i := source % 4096
  match source / 4096 with
  | 0 => i = 0
  | 1 => i < 16
  | 2 => i < 8
  | 3 => (h.axis? i).isSome
  | 4 => i < 1024 && (h.position? i).isSome
  | 5 => i < 64
  | 6 => i < 40
  | 7 => i < 32
  | 8 => i < 4
  | 9 => i < 16
  | 10 => i < 36
  | _ => false

/-- The kinds whose latches the active head mirrors (R418). -/
def mirroredKind (source : Nat) : Bool := source / 4096 = 2 || source / 4096 = 3 || source / 4096 = 4 || source / 4096 = 5

/-! ### Latches -/

def Head.latch? (h : Head) (source : Nat) : Option Latch := h.faults.latches.find? fun l => l.source == source
/-- The latch word of a source (R400). -/
def Head.latchWord (h : Head) (source : Nat) : BitVec 32 := ((h.latch? source).map fun l => l.word).getD 0
def Head.latched (h : Head) (source code : Nat) : Bool := (h.latchWord source).getLsbD code

/-- Codes of the device kind at S4, of the range kind at S3, of the axis kind at S2, and those that permit controlled
stopping (Table 16-2, R222). -/
abbrev maskS4 : BitVec 32 := 0x3FF
abbrev maskS3 : BitVec 32 := 0x1F
abbrev maskS2 : BitVec 32 := 0x3FFFF
abbrev maskStop : BitVec 32 := 0x210

def Head.hasS4 (h : Head) : Bool := h.latchWord 0 &&& maskS4 ≠ 0
def Head.hasS3 (h : Head) (r : Nat) : Bool := h.latchWord (srcRange r) &&& maskS3 ≠ 0
def Head.hasS2 (h : Head) (a : Nat) : Bool := h.latchWord (srcAxis a) &&& maskS2 ≠ 0
/-- Only faults that permit controlled stopping are latched at S2 (R222). -/
def Head.onlyStopFaults (h : Head) (a : Nat) : Bool := h.latchWord (srcAxis a) &&& maskS2 &&& ~~~maskStop = 0

/-- Highest severity latched on a source; none when nothing is. -/
def Latch.highest (l : Latch) : Option Nat :=
  ((severities (l.source / 4096)).zipIdx.filterMap fun (s, c) => if l.word.getLsbD c then some s else none).foldl
    (fun m s => some (max (m.getD 0) s)) none

/-- Is any latch of this severity set? -/
def Head.anySeverity (h : Head) (sev : Nat) : Bool :=
  h.faults.latches.any fun l => (severities (l.source / 4096)).zipIdx.any fun (s, c) => s = sev && l.word.getLsbD c

/-- Note a change for the mirror, behind the changes that wait (R381). -/
def Head.noteChange (h : Head) (c : MirrorChange) : Head :=
  { h with peer := { h.peer with changes := h.peer.changes.filter (fun d => d ≠ c) ++ [c] } }

/-- Note a changed latch of a mirrored kind (R381, R418). DEDUCED (log 84). -/
def Head.noteLatch (h : Head) (source : Nat) : Head := if mirroredKind source then h.noteChange (.latch source) else h

/-- A report reaches the collector (R400, R401): the latch, its count and cycle, FAULT_LATCHED for a new latch of S1 or
above, and the trigger units that fault detection fires (Table 13-4). -/
def Head.raiseAt (h : Head) (source code time cycle : Nat) : Head :=
  match severity? source code with
  | none => h
  | some sev =>
    let old : Latch := (h.latch? source).getD { source, word := 0, counts := [], firstCycle := none }
    let fresh := !old.word.getLsbD code
    let counts := match old.counts.find? fun c => c.1 == code with
      | some (_, n, k) => putKey (fun c => c.1) (code, satInc 0xFFFF n, k) old.counts
      | none => putKey (fun c => c.1) (code, 1, cycle) old.counts
    let l : Latch := { source, word := old.word ||| (1#32 <<< code), counts
                       firstCycle := if fresh then some (old.firstCycle.getD cycle) else old.firstCycle }
    let reports := h.faults.reports.filter fun r => r.cycle + 1 ≥ h.time.cycle
    let h := { h with faults := { h.faults with
      latches := putKey (fun l => l.source) l h.faults.latches
      reports := if fresh then { cycle, time, source, code, severity := sev } :: reports else reports } }
    let h := if fresh then h.noteLatch source else h
    let h := if fresh && sev ≥ 1 then
        h.postAt 0x0E01 4 source time cycle (pack [(2, source), (1, code), (1, sev)]) else h
    h.fireUnits (fun c => c.source = 4 && sev ≥ c.arg) (time * 256)

/-- A fault detected now. DEDUCED (log 84). -/
def Head.raise (h : Head) (source code : Nat) : Head := h.raiseAt source code h.now h.time.cycle

/-! ### Causes (R402, Table 16-2) -/

/-- Does a core that serves the range stand halted (R435)? -/
def Head.rangeHalted (h : Head) (r : Nat) : Bool :=
  h.sec.halted.any fun c => match c with
    | .tor t _ => h.axes.any fun a => a.range = r && a.place.tile = t
    | .massif _ => h.axes.any fun a => a.range = r && a.profiled
    | .management => false

/-- Transitions of an input over the window of the stepper axis that names it exceed its limit (R338).
DEDUCED (log 53). -/
def Head.chattering (h : Head) (input : Nat) : Bool :=
  h.axes.any fun a => a.kind = .stepper
    && (a.step.cfg.limitPos = input || a.step.cfg.limitNeg = input || a.step.cfg.homeInput = input)
    && ((h.fieldIn input).edges.filter fun t => t + a.step.cfg.chatterMs * 1000000 > h.now).length > a.step.cfg.chatterEdges

/-- The open-wire flag of an external analogue input (R363). -/
def Head.analogOpen (h : Head) (n : Nat) : Bool :=
  h.acq.latest.any fun l => l.isOpen && (l.code = n || (0x20 ≤ l.code && l.code < 0x30 && (l.code - 0x20) = n / 2))

/-- Is the cause of a code present (Table 16-2)?. DEDUCED (log 64). DESIGN CHOICE (log 83). -/
def Head.causePresent (h : Head) (source code : Nat) : Bool :=
  let i := source % 4096
  let low := !(h.faults.safeInA && h.faults.safeInB)
  match source / 4096, code with
  | 0, 0 => !h.faults.dieLinkOk
  | 0, 5 => low
  | 0, 6 => h.faults.safeInA ≠ h.faults.safeInB
  | 0, 7 => h.faults.readback ≠ 0
  | 0, 8 => h.power.railFault ≠ 0
  | 0, 9 => h.power.ldShutdown || h.power.pfdShutdown
  | 0, 10 => h.power.ldLimit || h.power.pfdLimit
  | 0, 11 => h.power.vinLow
  | 0, 12 => h.power.pllC.lost || h.power.pllM.lost || h.power.pllD.lost
  | 0, 13 => h.time.far
  | 0, 14 => h.compute.shedLevel > 0
  | 0, 15 => !h.peer.saddleUp
  | 0, 16 => h.peer.missed > 0
  | 1, 0 => (h.compute.tiles.getD i {}).state = .lost
  | 1, 1 => (h.compute.tiles.getD i {}).placeShort
  | 2, 3 => low
  | 2, 4 => h.rangeHalted i
  | 3, c => match h.axis? i with
    | none => false
    | some a => match c with
      | 6 => a.kind ≠ .mover && !a.localStep && ((h.position? (a.location % 1024)).any fun p => p.silent ≥ 3)
      | 7 => (h.obsOf a).state = .noFix
      | 8 => a.mismatch
      | 10 => a.localStep && (h.steps.getD a.stepChannel {}).fault
      | 14 => bit a.status 5
      | 15 => bit a.status 6
      | 16 => bit a.status 7
      | 18 => bit a.status 8
      | 19 => bit a.status 10
      | 24 => a.source.excluded
      | _ => false
  | 5, 0 => if i < 32 then (h.branch i).chanA.cut else (h.branch (i - 32)).chanB.cut
  | 6, 0 => (h.lane i).link = 0
  | 7, 0 => (h.fieldIn i).isOpen
  | 7, 1 => (h.fieldIn i).reversed
  | 7, 2 => h.chattering i
  | 8, 0 => (h.fieldOut i).short
  | 8, 1 => (h.fieldOut i).openLoad
  | 9, 5 => (h.channel i).source.excluded
  | 10, 0 => h.analogOpen i
  | _, _ => false

/-! ### Belay (Table 16-3, R404, R489) -/

/-- The device-wide reaction holds: an S4 latch, or SAFE (R489). -/
def Head.deviceBelay (h : Head) : Bool := h.hasS4 || h.sys.mode = .safe

/-- A range stands in BELAY and its belay drives this head's balls: a standby head's mirrored latches drive none (R418). -/
def Head.rangeDrives (h : Head) (r : Nat) : Bool := (h.range r).state = .belay && h.sys.role ≠ .standby

/-- The ranges whose belay drives the balls, as a mask. -/
def Head.belayRanges (h : Head) : Nat := sumNat ((List.range 8).map fun r => flag (h.rangeDrives r) r)

/-- An output's group stands in belay (R404). -/
def Head.outputBelayed (h : Head) (o : Nat) : Bool :=
  h.deviceBelay || ((h.output o).group ≠ 0 && h.rangeDrives ((h.output o).group - 1))

/-- A local stepper axis stands in BELAY. -/
def Head.localBelay (h : Head) : Bool := h.axes.any fun a => a.localStep && a.state = .belay

/-- BELAY_OUT_A or BELAY_OUT_B is asserted: before COMMISSION (R38), at S4 and in SAFE, without the die link (R18), or by a
range or a local axis of its masks (Table 16-3). -/
def Head.belayOut (h : Head) (ranges : Nat) (locals : Bool) : Bool :=
  !h.fromCommission || h.deviceBelay || !h.faults.dieLinkOk
    || (List.range 8).any (fun r => bit ranges r && h.rangeDrives r) || (locals && h.localBelay)

def Head.belayA (h : Head) : Bool := h.belayOut h.faults.aRanges h.faults.aLocal
def Head.belayB (h : Head) : Bool := h.belayOut h.faults.bRanges h.faults.bLocal

/-- FAULT_N is asserted (R38, R415). -/
def Head.faultN (h : Head) : Bool :=
  h.sys.mode = .reset || h.sys.mode = .boot || h.sys.mode = .safe
    || h.faults.latches.any fun l => !(h.sys.role = .standby && mirroredKind l.source)
        && (l.highest.any fun s => s ≥ h.faults.faultNSev)

/-- FAULT_STATUS (Table 16-5). -/
def Head.faultStatus (h : Head) : Nat :=
  flag (h.anySeverity 1) 0 + flag (h.anySeverity 2) 1 + flag (h.anySeverity 3) 2 + flag (h.anySeverity 4) 3
    + flag h.faults.first.isSome 4 + flag h.faults.aliveRun 5 + flag h.faultN 6 + flag h.belayA 7 + flag h.belayB 8
    + flag h.faults.safeInA 9 + flag h.faults.safeInB 10
    + min 0xFFFF (h.faults.latches.filter fun l => l.word ≠ 0).length * 65536

/-- The five words of Table 16-4. -/
def Head.firstFaultWords (h : Head) : List Nat := match h.faults.first with
  | none => [0, 0, 0, 0, 0]
  | some f => [f.report.cycle % 2 ^ 32, f.report.cycle / 2 ^ 32 % 65536 + f.sameMask * 65536,
      f.report.source + f.report.code * 65536 + f.report.severity * 2 ^ 21 + min f.sameCount 255 * 2 ^ 24,
      f.report.time % 2 ^ 32, f.report.time / 2 ^ 32 % 2 ^ 32]

/-- A committed function that drives its ball (R468). -/
def PinSetting.drivesBall (s : PinSetting) : Bool := (s.func = 0 && s.output) || s.func = 1 || s.func = 2

/-- A general-purpose ball at its safe level (R404, R467). -/
def Pin.belay (p : Pin) (high : Bool) : Pin :=
  if p.set.drivesBall then
    { p with parked := false, held := none, level := high, drives := some high, pulseEnd := none }
  else { p with parked := false, held := none, drives := none, pulseEnd := none }

/-- Connect or disconnect a field output: an open load was judged as the switch stood, and is judged anew once it changes
(R471). DEDUCED (log 109). -/
def FieldOutput.switch (o : FieldOutput) (on : Bool) : FieldOutput := { o with on, openLoad := o.openLoad && o.on == on }

/-- Every output whose group stands in belay takes its safe level (R404, R471). -/
def Head.belayOutputs (h : Head) : Head :=
  { h with pins := { h.pins with
    fout := h.pins.fout.mapIdx fun n o =>
      if h.outputBelayed n then { o.switch false with written := false, short := false } else o
    gp := h.pins.gp.mapIdx fun k p => if h.outputBelayed (4 + k) then p.belay (h.output (4 + k)).safeHigh else p } }

/-- A local stepper channel holds its outputs low: its axis is not ENABLED, its range is in belay or shed, or the device is
in belay (R323, R333). -/
def Head.stepHeldLow (h : Head) (a : Axis) : Bool :=
  a.state ≠ .enabled || h.deviceBelay || (h.range a.range).state = .belay
    || ((h.range a.range).cls = 3 && (h.compute.shedLevel ≥ 1 || (h.range a.range).shed))

def Head.belaySteps (h : Head) : Head :=
  { h with steps := h.steps.mapIdx fun n c =>
    match h.axes.find? fun a => a.localStep && a.stepChannel = n with
    | some a => if h.stepHeldLow a then
        { c with vel := 0, next := 0, ticks := 0, delayed := [], duty := (0, 0, 0, 0) } else c
    | none => { c with vel := 0, next := 0, ticks := 0, delayed := [], duty := (0, 0, 0, 0) } }

/-! ### Reactions of objects -/

/-- Everything an axis was doing ends at once (R101, R222, R333). DEDUCED (log 12). -/
def Head.dropAxis (h : Head) (a : Axis) : Head :=
  let h := h.dropMotion a.id
  let h := if a.kind = .stepper then h.dropSteps a else h
  h.setAxis a.id fun a => { a with work := none, packed := none }

/-- Free an entry. -/
def Head.freeEntry (h : Head) (n : Nat) : Head :=
  if h.cal.entries.any fun e => e.entry = n then
    Head.noteChange { h with cal := { h.cal with entries := h.cal.entries.filter fun e => e.entry ≠ n } } (.calState n)
  else h

/-- A mover axis that is not ENABLED arms no hand-over entries (R189). -/
def Head.freeHandover (h : Head) (axis : Nat) : Head := match h.moverOfAxis? axis with
  | some m => (List.range 4).foldl (init := h) fun (h : Head) k => h.freeEntry (4 * m.id + k)
  | none => h

/-- An axis enters BELAY (R101, R337). DEDUCED (log 12). -/
def Head.belayAxis (h : Head) (a : Axis) : Head :=
  let h := (h.dropAxis a).freeHandover a.id
  h.setAxis a.id fun a => { a with state := .belay, step := a.step.leave (a.state = .enabled) }

/-- The reaction of an axis to its own latches (R101, R222): a controlled stop, BELAY, or DISABLED once cleared. -/
def Head.settleAxis (h : Head) (id : Nat) : Head :=
  match h.axis? id with
  | none => h
  | some a =>
    if h.hasS2 id then
      if a.state = .belay then h
      else
        let stepping := a.kind = .stepper && !a.step.atRest
        let moving := a.profiled && !a.atRest
        if h.onlyStopFaults id && a.state = .enabled && (h.range a.range).state = .running && (stepping || moving) then
          if moving then (if a.motion.move = .faultStop then h else h.startStop a true true .belay)
          else if a.step.faultStop then h
          else h.stopSteps a 1 true true Status.stepStopped
        else h.belayAxis a
    else if a.state = .belay then h.setAxis id fun a => { a with state := .disabled }
    else h

/-- A range enters BELAY (R97): what waits for it completes, and its axes are no longer computed. -/
def Head.belayRange (h : Head) (r : Nat) : Head :=
  let h := (h.finish (.rangeRunning r) Status.badState).finish (.rangeStopped r) Status.ok
  let h := h.setRange r fun x => { x with state := .belay, starting := false, stopping := false }
  (h.axes.filter fun a => a.range = r).foldl (init := h) fun (h : Head) (a : Axis) => h.dropAxis a

/-- Every mover and every stepper of the range has stopped (R97). -/
def Head.rangeAtRest (h : Head) (r : Nat) : Bool :=
  h.axes.all fun a => a.range ≠ r || ((!a.profiled || a.atRest) && (a.kind ≠ .stepper || a.step.atRest))

/-- The reaction of a range to its own latches and to S4 (R97, R409), and the end of its RANGE_STOP (R97). -/
def Head.settleRange (h : Head) (r : Nat) : Head :=
  let x := h.range r
  if x.state = .unused then h
  else if h.hasS3 r || h.hasS4 then (if x.state = .belay then h else h.belayRange r)
  else if x.state = .belay then h.setRange r fun x => { x with state := .stopped }
  else if x.stopping && h.rangeAtRest r then
    (h.setRange r fun x => { x with state := .stopped, stopping := false }).finish (.rangeStopped r) Status.ok
  else h

/-- An S4 fault takes the head to SAFE, ending a running transition (R35, R489). -/
def Head.settleMode (h : Head) : Head :=
  if h.hasS4 && h.fromBoot && h.sys.mode ≠ .safe then
    let h := h.finish .transition Status.badState
    ({ h with sys := { h.sys with transition := none, waitingWake := false }
              net := { h.net with switch := h.net.switch.filter fun s => !s.park } }).reachMode
      .safe 0 8 none
  else h

/-- ALIVE stops on any S4 latch and outside the modes from COMMISSION on but SAFE (R39, R414). -/
def Head.settleAlive (h : Head) : Head :=
  if h.hasS4 || h.sys.mode = .safe || !h.fromCommission then
    let run := h.faults.aliveRun
    let h := { h with faults := { h.faults with aliveRun := false, aliveLevel := false, kickArmed := false } }
    if run then h.post 0x0E04 4 0xFFFF [] else h
  else h

/-- What follows any command: the reactions to every latch (Table 16-3), then the oldest fence. -/
def Head.settle (h : Head) : Head :=
  let h := h.settleMode
  let h := (List.range 8).foldl (init := h) fun (h : Head) r => h.settleRange r
  let h := (h.axes.map fun a => a.id).foldl (init := h) fun (h : Head) id => h.settleAxis id
  h.belayOutputs.belaySteps.settleAlive.settleFence

/-- The shape of every event row: outputs cleared, the event's effect, the reactions that follow. -/
def Head.event (h : Head) (f : Head → Head) : Head := (f { h with sent := [] }).settle

end Sys2Proof.Machine
end

