-- ==== Sys2Proof/Machine/Coding.lean ====
section
/-! DEFINITION. How bytes travel on a lane: the 8b/10b code groups of IEEE 802.3 Clause 36 (R146), the delimiters around a
frame (R147), the stripes of the saddle link (R146).  The tables are the standard's, which R146 names. PRESUMED (log 105). -/
namespace Sys2Proof.Machine

/-- A ten-bit code group `abcdei fghj`, bit `a`, which is sent first, the most significant. -/
abbrev CodeGroup := BitVec 10

/-- What a code group stands for: a data byte Dx.y, or a special one Kx.y. -/
inductive Symbol where
  | data (b : Byte)
  | special (b : Byte)
  deriving DecidableEq, Repr

/-- The six-bit blocks of D0.y to D31.y for a negative running disparity. -/
def sixBlocks : List Nat :=
  [0b100111, 0b011101, 0b101101, 0b110001, 0b110101, 0b101001, 0b011001, 0b111000] ++
  [0b111001, 0b100101, 0b010101, 0b110100, 0b001101, 0b101100, 0b011100, 0b010111] ++
  [0b011011, 0b100011, 0b010011, 0b110010, 0b001011, 0b101010, 0b011010, 0b111010] ++
  [0b110011, 0b100110, 0b010110, 0b110110, 0b001110, 0b101110, 0b011110, 0b101011]

/-- The four-bit blocks of Dx.0 to Dx.7 for a negative running disparity. -/
def fourBlocks : List Nat := [0b1011, 0b1001, 0b0101, 0b1100, 0b1101, 0b1010, 0b0110, 0b1110]

/-- The ones among the low bits of a block. -/
def onesOf : Nat → Nat → Nat
  | 0, _ => 0
  | n + 1, v => v % 2 + onesOf n (v / 2)

/-- A block under the running disparity in force, and the disparity after it: a block whose ones outnumber its zeros, and
one of the two balanced blocks that come in pairs, is inverted after a positive disparity. -/
def block (n paired : Nat) (positive : Bool) (v : Nat) : Nat × Bool :=
  let uneven : Bool := 2 * onesOf n v ≠ n
  (if positive && (uneven || v = paired) then 2 ^ n - 1 - v else v, positive != uneven)

/-- The code group of a symbol, and the running disparity after it (R146). PRESUMED (log 105). -/
def encodeSymbol (positive : Bool) : Symbol → CodeGroup × Bool
  | .data b =>
    let x := b.toNat % 32
    let y := b.toNat / 32
    let (six, middle) := block 6 0b111000 positive (sixBlocks.getD x 0)
    let alternate := y = 7 && (if middle then x = 11 || x = 13 || x = 14 else x = 17 || x = 18 || x = 20)
    let (four, after) := block 4 0b1100 middle (if alternate then 0b0111 else fourBlocks.getD y 0)
    (BitVec.ofNat 10 (six * 16 + four), after)
  | .special b =>
    let x := b.toNat % 32
    let y := b.toNat / 32
    let (six, middle) := block 6 0b111000 positive (if x = 28 then 0b001111 else sixBlocks.getD x 0)
    let four := if y = 7 then 0b0111 else if y = 5 then 0b0101 else fourBlocks.getD y 0
    let uneven : Bool := 2 * onesOf 4 four ≠ 4
    (BitVec.ofNat 10 (six * 16 + if middle then 15 - four else four), middle != uneven)

/-- The code groups of symbols in turn, and the running disparity after them. -/
def encodeAll : Bool → List Symbol → List CodeGroup × Bool
  | positive, [] => ([], positive)
  | positive, s :: rest =>
    let (group, after) := encodeSymbol positive s
    let (groups, last) := encodeAll after rest
    (group :: groups, last)

/-- A frame between its delimiters: /S/ and 0xD5 before it, /T/ and /R/ behind it (R147). PRESUMED (log 105). -/
def framed (bytes : List Byte) : List Symbol :=
  [.special 0xFB, .data 0xD5] ++ bytes.map Symbol.data ++ [.special 0xFD, .special 0xF7]

/-- The /I2/ ordered set that a running lane sends between frames (R147). -/
def idleSet : List Symbol := [.special 0xBC, .data 0x50]

/-- Symbol *i* of a saddle frame travels on lane S(*i* mod 8) (R146). -/
def stripe (lane : Nat) (symbols : List Symbol) : List Symbol :=
  (symbols.zipIdx.filter fun x => x.2 % 8 = lane).map fun x => x.1

/-! ### Reading code groups -/

/-- The symbol that a code group stands for under either disparity; none for an invalid one. PRESUMED (log 105). -/
def decodeGroup (g : CodeGroup) : Option Symbol :=
  let symbols := ((List.range 256).map fun n => Symbol.data (BitVec.ofNat 8 n))
    ++ [0xFB, 0xFD, 0xF7, 0xBC].map fun b => Symbol.special (BitVec.ofNat 8 b)
  symbols.find? fun s => (encodeSymbol false s).1 = g || (encodeSymbol true s).1 = g

end Sys2Proof.Machine
end

