-- ==== Sys2Proof/Machine/Frames.lean ====
section
/-! DEFINITION. Geunet frames: the CRC (R150), the header (R148), reading a frame (R151), what the head sends on the saddle
link (R158, R379). -/
namespace Sys2Proof.Machine

/-! ### The check (R150) -/

/-- One byte more of the reflected CRC register. -/
def crcShift : Nat → Nat → Nat
  | 0, c => c
  | k + 1, c => crcShift k (if c % 2 = 1 then (c / 2) ^^^ 0xEDB88320 else c / 2)

/-- CRC-32 of a byte string (R150). -/
def crc32 (bs : List Byte) : Nat := (bs.foldl (fun c b => crcShift 8 (c ^^^ b.toNat)) 0xFFFFFFFF) ^^^ 0xFFFFFFFF

/-- A string with its CRC behind it. -/
def withCrc (bs : List Byte) : List Byte := bs ++ leBytes 4 (crc32 bs)

/-! ### Frame types (Table 06-2) -/
namespace FrameType
abbrev beacon := 0x1
abbrev downStatic := 0x2
abbrev upStatic := 0x3
abbrev dynRequest := 0x4
abbrev dynReply := 0x5
abbrev joinClaim := 0x6
abbrev saddleMirror := 0x7
abbrev saddleFwd := 0x8
abbrev fill := 0xF
end FrameType

/-- The fields of a frame header (Table 06-1). -/
structure FrameHeader where
  type     : Nat
  flags    : Nat
  addr     : Nat
  channel  : Nat
  claim    : Nat
  cycle    : Nat
  length   : Nat
  /-- every reserved bit is 0 -/
  reserved : Bool
  deriving DecidableEq, Repr

/-- FLAGS bits that a type defines; the others are 0 (Table 06-1, R154, R155). -/
def typeFlags : Nat → Nat
  | 2 => 1
  | 3 => 15
  | _ => 0

def frameHeader (bs : List Byte) : FrameHeader :=
  let t := field bs 0 1
  let a := field bs 1 2
  { type := t / 16, flags := t % 16, addr := a % 1024, channel := bits a 10 10, claim := field bs 3 2
    cycle := field bs 5 3, length := field bs 8 2
    reserved := a < 2048 && field bs 10 2 = 0 && t % 16 &&& (15 - typeFlags (t / 16)) = 0 }

/-- The payload of a frame. -/
def framePayload (bs : List Byte) : List Byte := (bs.drop 12).take (field bs 8 2)

/-- A frame of this head (R148-R150). -/
def Head.frame (h : Head) (type flags addr channel : Nat) (payload : List Byte) : List Byte :=
  withCrc (pack [(1, type * 16 + flags), (2, addr + 1024 * channel), (2, h.claim), (3, h.time.cycle), (2, payload.length),
    (2, 0)] ++ payload)

/-- What is wrong with a received frame as a whole (R151): a line error, or nothing. -/
inductive LineError where
  | none | length | crc | truncated
  deriving DecidableEq, Repr

def lineError (bs : List Byte) (truncated : Bool) : LineError :=
  if truncated then .truncated
  else if bs.length < 16 || bs.length ≠ 16 + field bs 8 2 then .length
  else if field bs (bs.length - 4) 4 ≠ crc32 (bs.take (bs.length - 4)) then .crc
  else .none

/-- TYPE defined, reserved bits 0 and CYCLE the receiver's (R151), for a frame without line error. -/
def Head.headerOk (h : Head) (x : FrameHeader) : Bool :=
  ((1 ≤ x.type && x.type ≤ 8) || x.type = 15) && x.reserved && x.cycle = h.time.cycle % 2 ^ 24

/-! ### Frame time, in tenths of a ns (R123) -/

/-- Duration of a frame of `b` bytes, delimiters included. -/
def frameTime (b : Nat) : Nat := (b + 4) * 32

/-- FU and FD of a node that declares `a` axes. -/
def upTime (a : Nat) : Nat := frameTime (16 + 20 * a)
def downTime (a : Nat) : Nat := frameTime (16 + 12 * a)

/-! ### Sending -/

/-- A frame begins to arrive at a lane that is up, `start` tenths of a ns after T_k (R183). -/
def Head.stampRx (h : Head) (lane start : Nat) : Head :=
  if (h.lane lane).link = 2 then h.setLane lane fun l => { l with rxStamp := h.time.cycleStart * 256 + start * 256 / 10 } else h

/-- A frame leaves on a lane: its code groups, the running disparity that the lane keeps through the idle sets, and the
frame's time-stamp (R146, R147, R183). PRESUMED (log 105). -/
def Head.encodeOn (h : Head) (lane : Nat) (symbols : List Symbol) : List CodeGroup × Head :=
  let (groups, positive) := encodeAll (h.lane lane).positive symbols
  (groups, h.setLane lane fun l => { l with positive, txStamp := h.time.head / 2 ^ 24 + Config.laneCorrection lane })

/-- Send a frame on a branch's channel (R147). PRESUMED (log 105). -/
def Head.sendLane (h : Head) (b c : Nat) (bytes : List Byte) : Head :=
  let (code, h) := h.encodeOn b (framed bytes)
  h.emit (.laneFrame b c bytes code)

/-- Send a frame on the saddle link: symbol *i* on lane S(*i* mod 8) (R146). PRESUMED (log 105). -/
def Head.sendSaddle (h : Head) (bytes : List Byte) : Head :=
  let symbols := framed bytes
  let (code, h) := (List.range 8).foldl (init := ([], h)) fun (acc : List (List CodeGroup) × Head) i =>
    let (groups, h) := acc.2.encodeOn (32 + i) (stripe i symbols)
    (acc.1 ++ [groups], h)
  h.emit (.saddle bytes code)

/-- A FILL frame keeps a lane busy while it trains (R158): one as its training starts. PRESUMED (log 105). -/
def Head.sendFill (h : Head) (lane : Nat) : Head :=
  h.sendLane lane h.ownChannel (h.frame FrameType.fill 0 0 h.ownChannel [])

/-- Idle lanes of a set begin to train: a branch lane carries FILL (R38, R158). -/
def Head.trainLanes (h : Head) (p : Nat → Bool) : Head :=
  let idle := (List.range 40).filter fun i => p i && (h.lane i).link = 3
  idle.foldl (init := h) fun (h : Head) i =>
    let h := h.setLane i fun l => { l with link := 1 }
    if i < 32 then h.sendFill i else h

/-! ### The saddle link -/

/-- Send a mirror section to the peer head (R379), while the link is UP (R378). -/
def Head.sendSection (h : Head) (kind count first : Nat) (body : List Byte) : Head :=
  if h.peer.saddleUp then
    h.sendSaddle (h.frame FrameType.saddleMirror 0 0 0 (pack [(1, kind), (1, 0), (2, count), (2, first), (2, 0)] ++ body))
  else h

/-- Forward a frame that completed at a head time, in ns, to the peer head (R158). -/
def Head.forwardAt (h : Head) (ns lane : Nat) (crcFailed truncated : Bool) (inner : List Byte) : Head :=
  if h.peer.saddleUp then
    h.sendSaddle (h.frame FrameType.saddleFwd 0 0 0
      (pack [(1, lane), (1, flag crcFailed 0 + flag truncated 1), (2, 0), (4, ns % 2 ^ 32)] ++ inner))
  else h

/-- Forward a frame of the head's own, as it is to be sent (R126, R158). -/
def Head.forward (h : Head) (lane : Nat) (inner : List Byte) : Head := h.forwardAt h.now lane false false inner

/-- The head time at which a frame whose /S/ came `start` tenths of a ns after T_k was complete, in ns (R158). -/
def Head.completeAt (h : Head) (start : Nat) (bytes : List Byte) : Nat :=
  h.time.cycleStart + (start + frameTime bytes.length) / 10

/-- The inner frame of a SADDLE_FWD payload, with its lane, CRC_FAILED and TRUNCATED (R158). -/
def fwdParts (payload : List Byte) : Nat × Bool × Bool × List Byte :=
  (field payload 0 1, bit (field payload 1 1) 0, bit (field payload 1 1) 1, payload.drop 8)

end Sys2Proof.Machine
end

