-- ==== Sys2Proof/Machine/Commands.lean ====
section
/-! DEFINITION. How the head takes a command item: the status precedence of R83, its effect, its reply, deferred groups
(R91, R92), and the settings passed to the peer head (R382).  Every host-command row is one `Command` run by `runItem`. -/
namespace Sys2Proof.Machine

/-- Command classes (R82). -/
inductive Cls where
  | observe | operate | configure | maintain
  deriving DecidableEq, Repr

/-- What a command does once nothing refuses it. DEDUCED (log 16). -/
structure Effect where
  head  : Head
  /-- reply parameters -/
  reply : List Byte := []
  /-- the event whose coming gives the final status, for an item that returns ACCEPTED -/
  wait  : Option Await := none
  /-- the item owes its one reply until then: no ACCEPTED is returned -/
  owed  : Bool := false
  /-- the final status and parameters, for an item that returns ACCEPTED and has finished within this command -/
  final : Option (Nat × List Byte) := none

/-- A command of the host interface, by the stages of R83. -/
structure Command where
  opcode    : Nat
  cls       : Cls
  /-- stage 4: the command's own length rule, on its parameters -/
  len       : List Byte → Bool
  /-- stage 4: a length that depends on the head's state (a token in FIELD) -/
  lenIn     : Packet → Head → Bool := fun _ _ => true
  /-- R81: does the description permit a chain? -/
  chain     : Bool := false
  /-- stage 6: only an active or solo head takes it -/
  active    : Bool := false
  /-- the items that stage 6 and R382 concern: all, but for commands of a head's own channels (R237, R340) -/
  shared    : Packet → Head → Bool := fun _ _ => true
  /-- R382: passed to the peer head as a SETTING -/
  mirrored  : Bool := false
  /-- R237: not passed, though the opcode is: it concerns a local channel -/
  own       : Packet → Bool := fun _ => false
  /-- stage 3: the opcode is defined (R86) -/
  defined   : Bool := true
  /-- stage 5: taken without a session in this state -/
  open_     : Packet → Head → Bool := fun _ _ => false
  /-- stage 5: anything else that must hold -/
  permitted : Packet → Head → Bool := fun _ _ => true
  /-- stage 7: modes, depths and object states -/
  stateOk   : Packet → Head → Bool
  /-- stage 8: parameters -/
  paramOk   : Packet → Head → Bool
  /-- stages 9 to 14: the first condition that holds refuses with its status -/
  refusals  : Packet → Head → List (Bool × Nat) := fun _ _ => []
  /-- what a refusal still counts -/
  onRefuse  : Nat → Packet → Head → Head := fun _ _ h => h
  effect    : Packet → Head → Effect
  /-- the effect at a boundary named in advance, where it differs (R92) -/
  again     : Option (Packet → Head → Effect) := none
  /-- the final status that stands for a refusal at a group's effect instant (R107) -/
  atEffect  : Nat → Nat := fun status => status
  /-- the axis whose STALE_HOST counts an EPOCH_STALE (R109) -/
  epochAxis : Packet → Nat := fun p => p.target % 4096
  /-- what follows the reply (a reset) -/
  after     : Packet → Head → Head := fun _ h => h

/-- How an item reaches the head: from a queue, again at a group's effect instant, from the peer's SETTING, or from a
command record at BOOT. -/
inductive Via where
  | queue | again | internal
  deriving DecidableEq, Repr

/-- Exactly `n` parameter bytes. -/
def lenIs (n : Nat) : List Byte → Bool := fun b => b.length = n

/-- A packet that carries a MAC. -/
def hasMac (flags : Nat) : Bool := bit flags 3

/-- Stage 1: LENGTH above 4,080, or fewer bytes than LENGTH and the MAC need (R83). -/
def badHeader (flags length : Nat) (body : List Byte) : Bool :=
  length > 4080 || body.length < length + (if hasMac flags then 16 else 0)

/-- Stage 2: the MAC of an authenticated packet verifies and its SEQUENCE rises (R82, R430). -/
def macOk (h : Head) (opcode flags session sequence length tag target : Nat) (body : List Byte) : Bool :=
  !hasMac flags || match h.session? session with
    | none => false
    | some s =>
      let message := pack [(2, opcode), (2, length), (4, tag), (2, target), (1, flags), (1, session), (4, sequence)]
        ++ body.take length
      (body.drop length).take 16 = (Config.hmac384 s.key message).take 16
        && (match s.highest with | none => true | some n => serialAfter 32 sequence n)

/-- Stage 1 over every packet of the item. -/
def headersBad (p : Packet) : Bool :=
  badHeader p.flags p.length p.body || p.rest.any fun c => badHeader c.flags c.length c.body

/-- Stage 2 over every packet of the item: each MAC verifies, sequence numbers rising through the chain. -/
def macsOk (opcode : Nat) (p : Packet) (h : Head) : Bool :=
  macOk h opcode p.flags p.session p.sequence p.length p.tag p.target p.body
    && p.rest.all fun c => macOk h opcode c.flags c.session c.sequence c.length c.tag c.target c.body

/-- The lifecycle's own limit on what a host may send (Table 17-1). -/
def lifecycleAllows (c : Command) (h : Head) : Bool :=
  if h.sec.lifecycleNow = 0 then c.cls = .observe || (0x0220 ≤ c.opcode && c.opcode ≤ 0x0222)
  else if h.sec.lifecycleNow = 3 then c.cls = .observe || c.opcode / 256 = 2
  else true

/-- Every packet of an item carries a MAC of an open session of this class (R82). -/
def sessionHas (p : Packet) (h : Head) (cls : Nat) : Bool :=
  let one (flags session : Nat) : Bool := hasMac flags && ((h.session? session).any fun s => bit s.classes cls)
  one p.flags p.session && p.rest.all fun c => one c.flags c.session

/-- Stage 5: class, session and lifecycle (R82, R430). -/
def classOk (c : Command) (p : Packet) (h : Head) : Bool :=
  c.open_ p h || (lifecycleAllows c h && match c.cls with
    | .observe => true
    | .operate => true
    | .configure => sessionHas p h 0
    | .maintain => sessionHas p h 1)

/-- The item rules of R81 and the reserved FLAGS bits, judged as BAD_PARAM. -/
def itemOk (c : Command) (p : Packet) (h : Head) : Bool :=
  p.flags < 32 && bit p.flags 0
    && !((h.queue p.queue).ethernet && bit p.flags 4)
    && (if p.rest.isEmpty then !bit p.flags 4
        else c.chain && p.rest.length < 16 && bit p.flags 4
          && p.rest.all (fun x => x.flags < 32 && !bit x.flags 0)
          && (p.rest.dropLast.all fun x => bit x.flags 4)
          && !((p.rest.getLast?.map fun x => bit x.flags 4).getD false))

/-- The first refusal that applies. -/
def firstRefusal : List (Bool × Nat) → Option Nat
  | [] => none
  | (true, s) :: _ => some s
  | (false, _) :: rest => firstRefusal rest

/-- Stages 1 to 8 of R83. DEDUCED (log 87). -/
def stages (c : Command) (via : Via) (p : Packet) (h : Head) : List (Bool × Nat) := [
  (via = .queue && headersBad p, Status.badLength),
  (via = .queue && !macsOk c.opcode p h, Status.notPermitted),
  (!c.defined, Status.badOpcode),
  (!((chunks p).all c.len && c.lenIn p h), Status.badLength),
  (via ≠ .internal && !(classOk c p h && c.permitted p h), Status.notPermitted),
  (via ≠ .internal && c.active && c.shared p h && !h.commands, Status.notActive),
  (!c.stateOk p h, Status.badState),
  ((via ≠ .internal && !itemOk c p h) || !c.paramOk p h, Status.badParam)]

/-- The status that refuses an item, the first of R83 that applies; none when nothing does. DEDUCED (log 87). -/
def judge (c : Command) (via : Via) (p : Packet) (h : Head) : Option Nat :=
  (firstRefusal (stages c via p h)).orElse fun _ => firstRefusal (c.refusals p h)

/-- What an item of a group that has ended gets as it is taken: FENCE_LATE or NOT_ACTIVE, at that status's own stage of R83
(R93, R94). -/
def lateJudge (c : Command) (late : Nat) (p : Packet) (h : Head) : Nat :=
  (firstRefusal ((stages c .queue p h).take (if late = Status.notActive then 5 else 8))).getD late

/-- An accepted authenticated packet moves its session's highest SEQUENCE and idle timer (R430, R431). -/
def acceptPacket (p : Packet) (h : Head) : Head :=
  if hasMac p.flags then
    let seq := (p.rest.getLast?.map fun c => c.sequence).getD p.sequence
    { h with sec := { h.sec with sessions := h.sec.sessions.map fun s =>
        if s.id = p.session then { s with highest := some seq, lastUse := h.now } else s } }
  else h

/-- Stage 2 fails: the item is whole and a MAC or a SEQUENCE of it is wrong. -/
def forged (opcode : Nat) (p : Packet) (h : Head) : Bool := !headersBad p && !macsOk opcode p h

/-- The item carries MACs and every one verifies: its replies carry one (R82). -/
def Head.validMac (h : Head) (opcode : Nat) (p : Packet) : Bool :=
  hasMac p.flags && !headersBad p && macsOk opcode p h

/-- What a refusal counts: a failed MAC in AUTH_FAIL (R82); after that, the command's own count, and EPOCH_STALE on the axis
(R109). -/
def countRefusal (c : Command) (status : Nat) (forged : Bool) (p : Packet) (h : Head) : Head :=
  if forged then { h with sec := { h.sec with authFail := satInc (2 ^ 32 - 1) h.sec.authFail } }
  else
    let h := c.onRefuse status p h
    if status = Status.epochStale then
      h.setAxis (c.epochAxis p) fun a => { a with staleHost := satInc 0xFFFF a.staleHost }
    else h

/-- Refuse an item that a queue delivered: an authenticated one still moves its session (R430). -/
def refuseItem (c : Command) (status : Nat) (p : Packet) (h : Head) : Head :=
  let bad := forged c.opcode p h
  let valid := h.validMac c.opcode p
  let h := if bad || headersBad p then h else acceptPacket p h
  (countRefusal c status bad p h).answer p c.opcode status [] valid

/-- The body of a SETTING section: SEQ, EFFECT_CYCLE, and the command packet without its MAC (Table 15-2). -/
def Setting.bytes (s : Setting) : List Byte :=
  let p := s.packet
  pack [(4, s.seq), (6, s.effect), (2, 0), (2, s.opcode), (2, p.length), (4, p.tag), (2, p.target), (1, p.flags), (1, p.session),
    (4, p.sequence)] ++ prm p

/-- Keep a setting in the log, of at most 16 MiB (R382). DEDUCED (log 60). -/
def Peer.keep (x : Peer) (s : Setting) : Peer :=
  let size := s.bytes.length
  let full := x.logFull || x.logBytes + size > 16 * 1024 * 1024
  { x with settingSeq := s.seq, logFull := full
           log := if full then x.log else s :: x.log, logBytes := if full then x.logBytes else x.logBytes + size }

/-- The packets of an item one by one, the later ones of a chain as items of their own. -/
def Packet.parts (p : Packet) : List Packet :=
  { p with rest := [] } :: p.rest.map fun c =>
    { queue := p.queue, tag := c.tag, target := c.target, flags := 1, session := c.session, sequence := c.sequence
      length := c.length, body := c.body }

/-- Send one setting to the peer head and log it (R382). -/
def Head.sendSetting (h : Head) (effect opcode : Nat) (p : Packet) : Head :=
  let s : Setting := { seq := (h.peer.settingSeq + 1) % 2 ^ 32, effect, opcode, packet := p }
  let body := s.bytes
  let h := h.sendSection 7 1 0 body
  { h with peer := { (h.peer.keep s) with settingBytes := h.peer.settingBytes + 8 + body.length } }

/-- The active head passes a setting that it accepts to its peer and logs it, with the cycle in which it takes effect (R382):
a chain, one packet at a time. DEDUCED (log 75). -/
def logSetting (c : Command) (effect : Nat) (p : Packet) (h : Head) : Head :=
  if c.mirrored && !c.own p && c.shared p h && h.commands then
    (Packet.parts p).foldl (fun h x => h.sendSetting effect c.opcode x) h else h

/-- The cycle at whose boundary a deferred group takes effect (R92). -/
def Group.effectCycle (g : Group) (h : Head) : Nat :=
  if g.byTime then h.time.cycle + (g.time - h.time.cycleStart + h.cycleNs - 1) / h.cycleNs else g.cycle

/-- Items of a queue that still await a final status (R80). -/
def Queue.pendingAsync (q : Queue) : Nat := (q.async.filter fun i => !i.owed && !i.discard).length

/-- Run an item that belongs to no deferred group: refuse it, or apply it and reply. DEDUCED (log 16). -/
def applyItem (c : Command) (p : Packet) (h : Head) : Head :=
  match judge c .queue p h with
  | some status => refuseItem c status p h
  | none =>
    let h := acceptPacket p h
    let e := c.effect p h
    match e.wait with
    | none => c.after p ((logSetting c h.time.cycle p e.head).answer p c.opcode Status.ok e.reply)
    | some a =>
      if !e.owed && (h.queue p.queue).pendingAsync ≥ 64 then h.answer p c.opcode Status.busy []
      else
        let item : AsyncItem := { echo := echoOf p c.opcode, await := a, owed := e.owed, final := e.final }
        let h := (logSetting c h.time.cycle p e.head).setQueue p.queue fun q => { q with async := q.async ++ [item] }
        if e.owed then h else h.answer p c.opcode Status.accepted e.reply

/-- Take an item of an open deferred group: check it, keep it, ACCEPTED (R91). DEDUCED (log 75). -/
def deferItem (c : Command) (p : Packet) (h : Head) : Head :=
  let h := h.setQueue p.queue fun q =>
    { q with group := q.group.map fun g => { g with remaining := g.remaining - 1 } }
  match judge c .queue p h with
  | some status => refuseItem c status p h
  | none =>
    let h := acceptPacket p h
    if (h.queue p.queue).pendingAsync ≥ 64 then h.answer p c.opcode Status.busy []
    else
      let item : AsyncItem := { echo := echoOf p c.opcode, await := .group, owed := false, final := none }
      let effect := ((h.queue p.queue).group.map fun g => g.effectCycle h).getD h.time.cycle
      ((logSetting c effect p h).setQueue p.queue fun q => { q with
        async := q.async ++ [item],
        group := q.group.map fun g => { g with items := g.items ++ [(c.opcode, p)] } }).answer p c.opcode Status.accepted []

/-- Does the queue's deferred group still take items? -/
def Queue.grouping (q : Queue) : Bool := match q.group with
  | some g => g.remaining > 0
  | none => false

/-- Take one item from its queue.  In OFF and RESET nothing runs that could take it (R30); a queue whose group is complete
takes nothing until the group has taken effect (R91). -/
def runItem (c : Command) (p : Packet) (h : Head) : Head :=
  if !h.fromBoot then h
  else
    let q := h.queue p.queue
    if q.lateItems > 0 then
      let h := h.setQueue p.queue fun q => { q with lateItems := q.lateItems - 1 }
      refuseItem { c with onRefuse := fun _ _ h => h } (lateJudge c q.lateStatus p h) p h
    else match q.group with
      | none => applyItem c p h
      | some g => if g.remaining > 0 then deferItem c p h else h

/-- Apply a stored item of a group at its effect instant: its final status and reply parameters, and what it waits for
when it runs on (R92).  What follows the reply is the caller's. -/
def applyAgain (c : Command) (p : Packet) (h : Head) : Head × (Option Await) × Nat × List Byte :=
  match judge c .again p h with
  | some status => (countRefusal c status false p h, none, c.atEffect status, [])
  | none =>
    let e := (c.again.getD c.effect) p h
    match e.final with
    | some (status, params) => (e.head, none, c.atEffect status, params)
    | none => (e.head, e.wait, Status.ok, e.reply)

/-- Apply a command that needs no judging of its sender: a command record at BOOT, or a SETTING from the peer head, taken
as if in COMMISSION on an active head for a record (R424), and on this head's own state for a setting (R382).
DEDUCED (log 87). -/
def applyInternal (c : Command) (p : Packet) (h : Head) (again : Bool := false) : Head × Nat :=
  match judge c .internal p h with
  | some status => (h, status)
  | none => (((if again then c.again.getD c.effect else c.effect) p h).head, Status.ok)

/-- The whole of a host-command row. -/
def hostRow (c : Command) (p : Packet) (s : State) : Head := runItem c p { s.head with sent := [] }

/-- What every host-command row answers: the item taken from its queue, then the reactions that follow.  There are eight
queues (R71). DESIGN CHOICE (log 82). -/
def hostExec (c : Command) (p : Packet) (s : State) : Host.Outcome State Fault Refusal :=
  if p.queue < 8 then .next { s with head := (hostRow c p s).settle } else .fault .noSuchObject

/-- What every event row answers: the event's effect on the head, when the objects it names exist.
DESIGN CHOICE (log 82). DESIGN CHOICE (log 83). -/
def eventExec (exists_ : Bool) (f : Head → Head) (s : State) : Host.Outcome State Fault Refusal :=
  if exists_ then .next { s with head := s.head.event f } else .fault .noSuchObject

end Sys2Proof.Machine
end

