-- ==== Sys2Proof/Machine/Coeff.lean ====
section
/-! DEFINITION. Coefficient words (Table 08-6, R227), the values the loops take from an observer (R254), and what enabling
presets (R205). -/
namespace Sys2Proof.Machine

/-- The kinds of value a coefficient word holds (Table 08-6). -/
inductive CoeffFormat where
  | gain | fraction | signed | shifts | follow | vband | above0 | pitch | offset | terrain

/-- Format and reset value of a word of the NORMAL set for a kind of axis; none where the kind does not use it (Table 08-6).
The reset of POLE_PITCH comes from the image; without one it is its least value (log 1). -/
def coeffRow (kind : AxisKind) (rotary : Bool) (i : Nat) : Option (CoeffFormat × Nat) :=
  let loops := kind = .mover || (kind = .segment && rotary)
  let segment := kind = .segment
  let pick (b : Bool) (x : CoeffFormat × Nat) : Option (CoeffFormat × Nat) := if b then some x else none
  match i with
  | 0x00 => pick loops (.gain, 0)
  | 0x01 => pick loops (.gain, 0)
  | 0x02 => pick loops (.gain, 0)
  | 0x03 => pick loops (.fraction, 0x400000)
  | 0x04 => pick loops (.fraction, 0x7FFFFF)
  | 0x05 => pick loops (.gain, 0)
  | 0x06 => pick loops (.gain, 0)
  | 0x07 => pick loops (.gain, 0)
  | 0x08 => pick loops (.fraction, 0x200000)
  | 0x09 => pick loops (.fraction, 0x400000)
  | 0x0A => pick loops (.gain, 0)
  | 0x0B => pick loops (.signed, 0)
  | 0x0C => pick loops (.fraction, 0x7FFFFF)
  | 0x0D => pick loops (.shifts, 0x000318)
  | 0x0E => pick loops (.follow, 40000)
  | 0x0F => pick segment (.vband, 1000)
  | 0x20 => pick segment (.gain, 0)
  | 0x21 => pick segment (.gain, 0)
  | 0x22 => pick segment (.fraction, 0x79999A)
  | 0x23 => pick (segment && !rotary) (.gain, 0x800001)
  | 0x24 => pick segment (.fraction, 0x7FFFFF)
  | 0x25 => pick segment (.signed, 0)
  | 0x26 => pick segment (.above0, 0x600000)
  | 0x27 => pick segment (.pitch, 64)
  | 0x28 => pick segment (.offset, 0)
  | 0x29 => pick segment (.terrain, 0xFFFFFF)
  | _ => none

/-- The words of a fresh set. DEDUCED (log 32). -/
def coeffReset (kind : AxisKind) (rotary : Bool) : List Nat :=
  (List.range 64).map fun i => ((coeffRow kind rotary i).map fun r => r.2).getD 0

/-- Is a value legal for a format?  `pitch` is the POLE_PITCH in force after the words before it. -/
def coeffLegal (pitch : Nat) (v : Nat) : CoeffFormat → Bool
  | .gain => v < 2 ^ 24
  | .fraction => v < 2 ^ 23
  | .signed => v < 2 ^ 24
  | .shifts => v < 1024
  | .follow => 400 ≤ v && v ≤ 16777215
  | .vband => 1 ≤ v && v ≤ 16777215
  | .above0 => 1 ≤ v && v < 2 ^ 23
  | .pitch => 64 ≤ v && v ≤ 16777215
  | .offset => v < pitch
  | .terrain => v < 2 ^ 24

/-- The set in force: RESCUE under the rescue schedule (R60). -/
def Head.coeffs (h : Head) (a : Axis) : List Nat := if h.net.kind = .rescue then a.coeffRescue else a.coeff

/-- A word in force. -/
def Head.coeff (h : Head) (a : Axis) (i : Nat) : Nat := (h.coeffs a).getD i 0
/-- A signed Q1.23 word in force. -/
def Head.coeffQ (h : Head) (a : Axis) (i : Nat) : Int := toSigned 24 (h.coeff a i)

/-- Write one word; bit 6 of the index selects the set. -/
def Axis.setCoeff (a : Axis) (i v : Nat) : Axis :=
  if i < 64 then { a with coeff := a.coeff.set i v } else { a with coeffRescue := a.coeffRescue.set (i - 64) v }

def Head.xShift (h : Head) (a : Axis) : Nat := bits (h.coeff a 0x0D) 3 0
def Head.vShift (h : Head) (a : Axis) : Nat := bits (h.coeff a 0x0D) 7 4

/-- x̂ rounded to units (R254). -/
def Observer.units (o : Observer) : Int := roundDiv o.x 65536
/-- Where a mover is, with 16 fraction bits: x̂ while its observer has a fix, else COORD of its last DEFINE_MOVER or
SET_MOVER_TRACK (R250, R266). DEDUCED (log 93). -/
def Mover.here (m : Mover) : Int := if m.obs.state = .noFix then m.coord * 65536 else m.obs.x
/-- The centre of a mover in units (R250, R266). DEDUCED (log 93). -/
def Mover.centre (m : Mover) : Int := if m.obs.state = .noFix then m.coord else m.obs.units
/-- v̂ ÷ 4 rounded to µm/s (R254). -/
def Observer.speed (o : Observer) : Int := roundDiv o.v (65536 * 4)
/-- â ÷ 4 rounded to µm/s² (R254). -/
def Observer.accel (o : Observer) : Int := roundDiv o.a (256 * 4)

/-- `sat24(v >> vshift)`, the shifted value rounded by R8 (R203). -/
def speedWord (v : Int) (shift : Nat) : Int × Bool := sat24 (roundDiv v (2 ^ shift))

/-- Enabling a mover axis or rotary segment axis presets its set-points and its loop (R205). -/
def Head.presetAxis (h : Head) (a : Axis) : Axis :=
  let o := h.obsOf a
  { a with
    motion := { a.motion with
      xSet := o.units * 65536, vSet := 0, aSet := 0, plan := none, move := .idle, after := .rest, inPosRun := 0
      restRun := 0, brakeWait := none, waitTarget := none, brakeRelease := false, dwellEnd := none, dropAt := none }
    loop := { a.loop with ix := 0, iv := 0, s := (speedWord o.speed (h.vShift a)).1, followRun := 0, holdRun := 0 } }

end Sys2Proof.Machine
end

