-- ==== Sys2Proof/Machine/Binding.lean ====
section
/-! DEFINITION. Capacity (R27, R61), segment lines (R100), bindings and their epochs (R104-R107), the gap rule (R117), and
the hand-over entries that the head arms for itself (R114, R189). -/
namespace Sys2Proof.Machine

/-! ### Capacity -/

/-- Rate of a range under the base schedule, in updates per second (R97). -/
def Head.rangeRate (h : Head) (x : Range) : Nat := h.baseRate / max x.divisor 1

/-- Axes of a range. -/
def axesOf (axes : List Axis) (r : Nat) : Nat := (axes.filter fun a => a.range = r).length

/-- Axis updates per second of ranges and axes at the base rate (R27). -/
def Head.updates (h : Head) (ranges : List Range) (axes : List Axis) : Nat :=
  sumNat (ranges.mapIdx fun r x => axesOf axes r * h.rangeRate x)

/-- Axis updates per second in RESCUE, G3 ranges omitted (R61). -/
def rescueUpdates (ranges : List Range) (axes : List Axis) : Nat :=
  sumNat (ranges.mapIdx fun r x => if x.cls = 3 then 0 else axesOf axes r * (8000 / max x.rescueDivisor 1))

/-- Do ranges and axes fit R27, and R61 when the image holds a rescue schedule (R98)? -/
def Head.fits (h : Head) (ranges : List Range) (axes : List Axis) : Bool :=
  h.updates ranges axes ≤ 32768000 && (h.net.rescue.isNone || rescueUpdates ranges axes ≤ 8192000)

/-! ### Segment lines -/

/-- The linear segment axes of a track. -/
def Head.line (h : Head) (t : Nat) : List Axis := h.axes.filter fun a => a.linear && a.track = t

/-- The segment of a track with an index. -/
def Head.segment? (h : Head) (t i : Nat) : Option Axis := h.axes.find? fun a => a.linear && a.track = t && a.segIndex = i

/-- Upper end of a segment. -/
def Axis.segEnd (a : Axis) : Int := a.segStart + a.segLength

/-- Does a segment fit the line that the other segments of its track make (R100)? -/
def Head.geometryOk (h : Head) (id t i : Nat) (start : Int) (length : Nat) : Bool :=
  (h.line t).all fun a =>
    a.id = id || (a.segIndex < i && a.segEnd ≤ start) || (i < a.segIndex && start + length ≤ a.segStart)

/-- A line is complete: indices from 0 without a gap (R100). -/
def Head.lineComplete (h : Head) (t : Nat) : Bool :=
  let n := (h.line t).length
  n > 0 && (List.range n).all fun i => (h.segment? t i).isSome

/-- The ranges of a track's segments are all this one (R490). -/
def Head.trackRange (h : Head) (t r : Nat) : Bool := (h.line t).all fun a => a.range = r

/-- The range of a mover: that of its axis. -/
def Head.moverRange (h : Head) (m : Mover) : Option Nat := (h.axis? m.axis).map fun a => a.range

/-- Does a mover's axis stand ENABLED? -/
def Head.moverEnabled (h : Head) (m : Mover) : Bool := (h.axis? m.axis).any fun a => a.state = .enabled

/-- A mover is stopped: no move or stop runs on its axis. -/
def Head.moverStopped (h : Head) (m : Mover) : Bool := (h.axis? m.axis).all fun a => a.atRest

/-! ### Bound runs -/

/-- The segments a mover holds by the last decided changes, rising index (R104). -/
def Head.run (h : Head) (m : Mover) : List Axis :=
  (List.range 1024).filterMap fun i => (h.segment? m.track i).filter fun a => a.mover = some m.id

/-- Lowest and highest index of a list of segments. -/
def runEnds (xs : List Axis) : Option (Nat × Nat) := match xs with
  | [] => none
  | x :: rest => some (rest.foldl (fun a y => min a y.segIndex) x.segIndex, rest.foldl (fun a y => max a y.segIndex) x.segIndex)

/-- The segments a mover holds, in any order. -/
def Head.held (h : Head) (m : Nat) : List Axis := h.axes.filter fun a => a.mover = some m

/-- A mover of the same track to which a segment would come closer than GAP_SEGMENTS (R117). -/
def Head.gapBreaker (h : Head) (m : Nat) (t i : Nat) : Option Nat :=
  (h.axes.find? fun a => a.linear && a.track = t && (match a.mover with
    | some o => o ≠ m && ((max a.segIndex i - min a.segIndex i) - 1 < (h.track t).gap)
    | none => false)).bind fun a => a.mover

/-- The bound runs of a track keep this gap (R118). -/
def Head.gapHolds (h : Head) (t gap : Nat) : Bool :=
  let bound := (h.line t).filter fun a => a.mover.isSome
  bound.all fun a => bound.all fun b =>
    a.mover = b.mover || gap ≤ (max a.segIndex b.segIndex - min a.segIndex b.segIndex) - 1

/-- A bind would leave no hole in the run and at most 16 segments (R104). -/
def Head.runTakes (h : Head) (m i : Nat) : Bool :=
  let xs := h.held m
  xs.length < 16 && (match runEnds xs with
    | none => true
    | some (lo, hi) => i + 1 = lo || i = hi + 1)

/-- A release leaves the run contiguous: the segment is at an end of it (R104). -/
def Head.atRunEnd (h : Head) (m i : Nat) : Bool := match runEnds (h.held m) with
  | none => false
  | some (lo, hi) => i = lo || i = hi

/-- In the last four cycles before a granted hand-over no binding change is decided (R395). -/
def Head.bindingFrozen (h : Head) : Bool := h.peer.grant.any fun r => r ≤ h.time.cycle + 4

/-- Two changes of one segment are at least 4 cycles apart (R106), and none is decided just before a hand-over (R395). -/
def Head.tooSoon (h : Head) (a : Axis) (delay : Nat := 2) : Bool :=
  (a.epochCycle ≠ 0 && h.time.cycle + delay < a.epochCycle + 4) || h.bindingFrozen

/-! ### The claimed span (R102, R114) -/

/-- The claimed span at a centre coordinate: from the trailing edge less LAG to the leading edge plus LEAD; half
of an odd LENGTH rounds down. DESIGN CHOICE (log 99). -/
def Mover.span (m : Mover) (x : Int) (falling : Bool) : Int × Int :=
  let half : Int := m.length / 2
  if falling then (x - half - m.lead, x + half + m.lag) else (x - half - m.lag, x + half + m.lead)

/-- The mover's profile runs downward: its leading edge is the lower one, and the upper one while the velocity is 0 (R102). -/
def Head.falling (h : Head) (m : Mover) : Bool := (h.axis? m.axis).any fun a => a.motion.vSet < 0

/-- Does a segment's interval overlap an interval? -/
def Axis.overlaps (a : Axis) (lo hi : Int) : Bool := a.segStart < hi && lo < a.segEnd

/-! ### The calendar's entries -/

/-- Put an entry into the calendar, and note it for the mirror (R381). -/
def Head.putEntry (h : Head) (e : CalEntry) : Head :=
  Head.noteChange { h with cal := { h.cal with entries := putKey (fun x => x.entry) e h.cal.entries } } (.calState e.entry)

/-- State in which an entry is armed at an estimate x̂ with 16 fraction bits (R192). -/
def armState (dir : Nat) (coord : Int) (hyst : Nat) (x : Int) : EntryState :=
  let c := coord * 65536
  let armed := if dir = 1 then x < c else if dir = 2 then x > c else hyst * 65536 ≤ (x - c).natAbs
  if armed then .armed else .waiting

/-- One of the four hand-over entries of a mover, for a segment to act on, armed at a position x (R189, R192). -/
def handoverEntry (m : Mover) (x : Int) (k : Nat) (dir action : Nat) (coord : Int) (axis : Nat) : CalEntry :=
  { entry := 4 * m.id + k, mover := m.id, track := m.track, dir, rearm := false, notify := m.notifyBind, action, coord
    hyst := 0, param := padTo 16 (leBytes 2 axis), state := armState dir coord 0 x, fired := 0, last := 0, missed := false }

/-- Arm a mover's hand-over entries again (R189): after any change of its run, its track, AUTO_HANDOVER or its axis; at the
estimate, or at a takeover at the last x̂ that the other head mirrored (R198). -/
def Head.armHandover (h : Head) (id : Nat) (mirrored : Bool := false) : Head :=
  let h := (List.range 4).foldl (init := h) fun (h : Head) k => h.freeEntry (4 * id + k)
  match h.mover? id with
  | none => h
  | some m =>
    if !m.autoHandover || !h.moverEnabled m then h
    else match runEnds (h.held id) with
      | none => h
      | some (lo, hi) =>
        let half : Int := m.length / 2
        let x := if mirrored then (m.calX.map fun x => x * 65536).getD m.here else m.here
        let put (h : Head) (k dir action : Nat) (seg : Option Axis) (coord : Axis → Int) : Head := match seg with
          | none => h
          | some a => h.putEntry (handoverEntry m x k dir action (coord a) a.id)
        let h := put h 0 1 1 (h.segment? m.track (hi + 1)) fun a => a.segStart - half - m.lead
        let h := put h 1 2 1 (if lo = 0 then none else h.segment? m.track (lo - 1)) fun a => a.segEnd + half + m.lead
        let h := put h 2 1 2 (h.segment? m.track lo) fun a => a.segEnd + half + m.lag + m.hyst
        put h 3 2 2 (h.segment? m.track hi) fun a => a.segStart - half - m.lag - m.hyst

/-! ### Deciding a change (R104-R106) -/

/-- The oldest change of a segment whose cycle has come takes over (R106). -/
def Head.bindInForce (h : Head) (axis : Nat) : Head :=
  match h.binds.find? fun b => b.axis = axis && b.cycle ≤ h.time.cycle with
  | none => h
  | some b =>
    let h := { h with binds := h.binds.filter fun x => x ≠ b }
    h.setAxis axis fun a => { a with moverNow := b.mover, epochNow := b.epoch, source := { a.source with good := 0 } }

/-- Decide a binding change in this cycle: a new epoch, in force two cycles on (in the cycle that opens, for a group's item:
R92), BINDING_CHANGED where asked for, and the hand-over entries armed again. DEDUCED (log 39). -/
def Head.decideBinding (h : Head) (axis : Nat) (bind : Bool) (mover source : Nat) (delay : Nat := 2) : Head :=
  match h.axis? axis with
  | none => h
  | some a =>
    let epoch := (a.epoch + 1) % 256
    let cycle := h.time.cycle + delay
    let after := if bind then some mover else none
    let h := h.setAxis axis fun a => { a with
      epoch, epochCycle := cycle, mover := after, epochNew := true, upEpoch := none, zeroRun := 0, bindTimedOut := false }
    let change : BindChange := { axis, mover := after, named := mover, epoch, cycle, source }
    let h : Head := { h with binds := h.binds ++ [change] }
    let h := if ((h.mover? mover).map fun (m : Mover) => m.notifyBind) = some true then
        h.post 0x0301 source axis [(1, mover), (1, epoch), (1, flag bind 0), (1, 0), (4, cycle % 2 ^ 32)] else h
    (h.bindInForce axis).armHandover mover

/-- Why a bind of a segment to a mover is refused, as the calendar judges it (R104, R117): `some none` for a rule of R104
or R98, `some (some o)` for the gap rule against mover `o`. -/
def Head.bindRefusal (h : Head) (a : Axis) (m : Mover) : Option (Option Nat) :=
  if !a.linear || a.track ≠ m.track || a.mover.isSome || h.moverRange m ≠ some a.range || !h.runTakes m.id a.segIndex then
    some none
  else (h.gapBreaker m.id a.track a.segIndex).map some

/-- Blend coverage 0 for 2 consecutive cycles (R114). -/
def Axis.uncovered (a : Axis) : Bool := a.coverage = 0 && a.zeroRun ≥ 2

/-- CONTOUR_FAILED with its reason (R197). -/
def Head.contourFailed (h : Head) (mover entry reason : Nat) : Head :=
  h.post 0x0511 2 mover [(2, entry), (1, reason)]

/-- A bind from the contour calendar (R106, R117, R197): decided, deferred to the fourth cycle after the last change, or
refused, by the gap rule with MOVER_GAP and BIND_REFUSED. -/
def Head.calendarBind (h : Head) (entry axis mover : Nat) : Head :=
  match h.axis? axis, h.mover? mover with
  | some a, some m => match h.bindRefusal a m with
    | some (some other) =>
      let h := (h.raise (srcAxis m.axis) 4).post 0x0310 2 m.axis [(2, axis), (1, mover), (1, other)]
      h.contourFailed mover entry 2
    | some none => h.contourFailed mover entry 2
    | none =>
      if h.tooSoon a then
        { h with deferred := h.deferred ++ [{ axis, mover, bind := true, cycle := a.epochCycle + 2, entry }] }
      else h.decideBinding axis true mover 2
  | _, _ => h.contourFailed mover entry 1

/-- A release from the contour calendar (R106, R114, R197): decided, or deferred until the coverage condition holds and
the fourth cycle has come.  A release that the host armed needs coverage 0 as UNBIND_SEGMENT does. -/
def Head.calendarRelease (h : Head) (entry axis mover : Nat) : Head :=
  match h.axis? axis with
  | none => h.contourFailed mover entry 1
  | some a =>
    if a.mover ≠ some mover || !h.atRunEnd mover a.segIndex then h.contourFailed mover entry 2
    else if entry ≥ 1024 && a.coverage > 0 then h.contourFailed mover entry 2
    else if h.tooSoon a || (entry < 1024 && !a.uncovered) then
      { h with deferred := h.deferred ++ [{ axis, mover, bind := false, cycle := a.epochCycle + 2, entry }] }
    else h.decideBinding axis false mover 2

/-- The first run of a mover that has none: every segment of its claimed span, from the next cycle (R114, R119). -/
def Head.bindFirstRun (h : Head) (m : Mover) : Head :=
  if !m.autoHandover || !h.moverEnabled m || !(h.held m.id).isEmpty || h.deferred.any (fun d => d.mover = m.id) then h
  else
    let (lo, hi) := m.span m.centre (h.falling m)
    ((List.range 1024).filterMap fun i => h.segment? m.track i).foldl (init := h) fun (h : Head) (a : Axis) =>
      if a.overlaps lo hi then h.calendarBind (4 * m.id) a.id m.id else h

/-- The deferred changes of one kind whose cycle has come, oldest first (R106): each is judged again. -/
def Head.dueDeferred (h : Head) (bind : Bool) : Head :=
  (h.deferred.filter fun d => d.bind = bind && d.cycle ≤ h.time.cycle).foldl (init := h) fun (h : Head) d =>
    let h := { h with deferred := h.deferred.filter fun x => x ≠ d }
    if bind then h.calendarBind d.entry d.axis d.mover else h.calendarRelease d.entry d.axis d.mover

/-- Everything a mover holds is released at once (its configuration changes). -/
def Head.releaseAll (h : Head) (m : Nat) (source : Nat) : Head :=
  (h.held m).foldl (init := h) fun (h : Head) (a : Axis) => h.decideBinding a.id false m source

/-! ### The rows -/

/-- The first deferred binding change of an axis whose cycle has come, and the others (R106). -/
def takeFirstDeferred (axis : Nat) (h : Head) : Option (DeferredBind × List DeferredBind) :=
  (h.deferred.find? fun d => d.axis = axis && d.cycle ≤ h.time.cycle).map fun d => (d, h.deferred.filter fun x => x ≠ d)

/-- DEFERRED_BINDING_CHANGE: a calendar change too soon after another is decided in the fourth cycle (R106). -/
def execDeferredBindingChange (axis : Nat) (s : State) : Host.Outcome State Fault Refusal :=
  eventExec (axis < 4096) (fun h =>
    match takeFirstDeferred axis h with
    | some (d, rest) =>
      let h := { h with deferred := rest }
      if d.bind then h.calendarBind d.entry axis d.mover else h.calendarRelease d.entry axis d.mover
    | none => h) s

/-- DEFERRED_RELEASE: a fired release entry is carried out at the first cycle in which the coverage condition holds
(R114, R189). -/
def execDeferredRelease (axis : Nat) (s : State) : Host.Outcome State Fault Refusal :=
  eventExec (axis < 4096) (fun h =>
    match h.deferred.find? fun d => d.axis = axis && !d.bind, h.axis? axis with
    | some d, some a =>
      if a.uncovered && !h.tooSoon a && a.mover = some d.mover && h.atRunEnd d.mover a.segIndex then
        ({ h with deferred := h.deferred.filter fun x => x ≠ d }).decideBinding axis false d.mover 2
      else h
    | _, _ => h) s

/-- BINDING_IN_FORCE: a change decided two cycles ago takes over (R106). -/
def execBindingInForce (axis : Nat) (s : State) : Host.Outcome State Fault Refusal :=
  eventExec (axis < 4096) (fun h => h.bindInForce axis) s

/-- BIND_TIMEOUT: no uplink record with the new epoch 8 cycles after it came into force; raised once for an epoch (R111). -/
def execBindTimeout (axis : Nat) (s : State) : Host.Outcome State Fault Refusal :=
  eventExec (axis < 4096) (fun h =>
    match h.axis? axis with
    | none => h
    | some a =>
      if a.epochNew && a.epochCycle + 8 ≤ h.time.cycle && a.upEpoch ≠ some a.epoch && !a.bindTimedOut then
        ((h.setAxis axis fun x => { x with bindTimedOut := true }).raise (srcAxis axis) 5).post 0x0311 0 axis
          [(1, a.epoch), (1, a.upEpoch.getD 0), (1, flag a.upEpoch.isSome 0)]
      else h) s

end Sys2Proof.Machine
end

