-- ==== Sys2Proof/Machine/Observer.lean ====
section
/-! DEFINITION. The tracking observers (R254-R258), the fusion of a mover's readings (R249, R250, R252), exclusion (R253),
and the rows that act on them. -/
namespace Sys2Proof.Machine

/-- Set bits of an axis's STICKY word (R224). -/
def Axis.stick (a : Axis) (m : BitVec 16) : Axis := { a with loop := { a.loop with sticky := a.loop.sticky ||| m } }

/-! ### One observer -/

/-- Hold an integer to `n` bits: modulo for a wrapping position, clamped otherwise. -/
def fitBits (wrap : Bool) (n : Nat) (v : Int) : Int :=
  if wrap then toSigned n (ofSigned n v) else (clampTo (-(2 ^ (n - 1))) (2 ^ (n - 1) - 1) v).1

/-- x_p and v_p after an interval of `n` ns (R254), in the observer's own scales. -/
def Observer.predict (o : Observer) (n : Nat) : Int × Int :=
  (o.x + roundDiv (o.v * n * 2000000000 + o.a * 256 * n * n) 2000000000000000000,
   o.v + roundDiv (o.a * 256 * n) 1000000000)

/-- The observer bandwidth in force, 0.1 Hz (R255). -/
def Head.bandwidth (h : Head) (o : Observer) : Nat := if h.net.kind = .rescue then o.bwRescue else o.bw

/-- 2π × BW × C over 2^96 × 10^10: ωC as a numerator (R255). DEDUCED (log 11). -/
def omegaC (bw n : Nat) : Nat := 2 * pi96 * bw * n

/-- e = z − x_p in 2⁻¹⁶ of a unit, modulo 2³² units for a wrapping position (R251, R254). -/
def Observer.error (wrap : Bool) (xp z : Int) : Int :=
  let e := z * 256 - xp
  if wrap then toSigned 48 (ofSigned 48 e) else e

/-- The update of R254 with a measurement z (8 fraction bits), the gains of R255 applied exactly and rounded once (log 11). -/
def Observer.correct (o : Observer) (wrap : Bool) (n bw : Nat) (z : Int) : Observer :=
  let (xp, vp) := o.predict n
  let e := Observer.error wrap xp z
  let w : Int := omegaC bw n
  { o with
    x := fitBits wrap 48 (xp + roundDiv (3 * w * e) (2 ^ 96 * 10 ^ 10))
    v := fitBits false 48 (vp + roundDiv (3 * w * w * e * 1000000000) (2 ^ 192 * 10 ^ 20 * max n 1))
    a := fitBits false 40 (o.a + roundDiv (w * w * w * e * 1000000000000000000) (2 ^ 288 * 10 ^ 30 * 256 * max n 1 * max n 1))
    residual := roundDiv e 65536, predRun := 0 }

/-- The update of R254 on prediction only. -/
def Observer.coast (o : Observer) (wrap : Bool) (n : Nat) : Observer :=
  let (xp, vp) := o.predict n
  { o with x := fitBits wrap 48 xp, v := fitBits false 48 vp, predRun := satInc 256 o.predRun }

/-- Updates that SETTLING lasts: ⌈4 ÷ (BW × C)⌉ (R256). -/
def settleUpdates (bw n : Nat) : Nat := (40000000000 + bw * n - 1) / max 1 (bw * n)

/-- A fix at z (R256). -/
def Observer.fix (o : Observer) (n bw : Nat) (z : Int) : Observer :=
  { o with x := z * 256, v := 0, a := 0, state := .settling, settle := settleUpdates bw n, predRun := 0, lone := [], lost := false }

/-- Do the readings lie within AGREE of one another (R256), modulo 2³² units for wrapping positions (R251)? -/
def agreeing (wrap : Bool) (agree : Nat) (zs : List Int) : Bool :=
  zs.all fun a => zs.all fun b => (if wrap then toSigned 40 (ofSigned 40 (a - b)) else a - b).natAbs ≤ agree * 256

/-- A lone source's reading while there is no fix: the fourth in a row that agrees gives the fix (R256). -/
def Observer.tryFix (o : Observer) (wrap : Bool) (n bw source : Nat) (z : Int) : Observer :=
  let lone := ((source, z) :: o.lone.takeWhile fun l => l.1 = source).take 4
  if lone.length = 4 && agreeing wrap o.agree (lone.map fun l => l.2) then o.fix n bw z else { o with lone }

/-- One update of an observer with the measurement of this interval, if any; `source` names a lone source (R254-R257). -/
def Observer.update (o : Observer) (wrap : Bool) (n bw source : Nat) (z : Option Int) : Observer :=
  match o.state, z with
  | .noFix, some z => o.tryFix wrap n bw source z
  | .noFix, none => { o with lone := [] }
  | .settling, some z => let c := o.correct wrap n bw z; { c with settle := o.settle - 1 }
  | .settling, none => let c := o.coast wrap n; { c with settle := o.settle - 1 }
  | _, some z => let c := o.correct wrap n bw z; { c with state := .tracking }
  | _, none => let c := o.coast wrap n; { c with state := .predicting }

/-- The setting of SET_OBSERVER that waits takes effect: its fields together, at the next update; x̂, v̂ and â stay. -/
def Observer.adopt (o : Observer) : Observer := match o.next with
  | none => o
  | some s => { o with
      bw := s.bw, bwRescue := s.bwRescue, gate := s.gate, agree := s.agree, predLimit := s.predLimit
      scaleOffset := s.scaleOffset, clipped := false, next := none }

/-- The observer state record (Table 09-4). -/
def Observer.bytes (o : Observer) : List Byte :=
  leInt 6 o.x ++ leInt 6 o.v ++ leInt 5 o.a ++ pack [(1, match o.state with
    | .noFix => 0 | .settling => 1 | .tracking => 2 | .predicting => 3), (1, min 255 o.predRun), (1, 0)]

/-! ### Sources of a mover -/

/-- Is the range of an axis at its turn: the cycle is one of the axis's phase group (R28)? -/
def Head.inTurn (h : Head) (a : Axis) : Bool :=
  let d := max (h.divisorOf a.range) 1
  h.time.cycle % d = a.place.phase % d

/-- The exclusion record of a source: a segment axis, or 0x2000 + local channel (R253). -/
def Head.sourceRun (h : Head) (source : Nat) : SourceRun :=
  if source < 0x2000 then ((h.axis? source).map fun a => a.source).getD {} else (h.channel (source - 0x2000)).source
def Head.setSource (h : Head) (source : Nat) (f : SourceRun → SourceRun) : Head :=
  if source < 0x2000 then h.setAxis source fun a => { a with source := f a.source }
  else h.setChannel (source - 0x2000) fun c => { c with source := f c.source }

/-- Place of a source in the order of R252: segment index, the local channel last. -/
def Head.sourceOrder (h : Head) (source : Nat) : Nat :=
  if source < 0x2000 then ((h.axis? source).map fun a => a.segIndex).getD 0 else 0x2000

/-- The coordinate of a linear-window reading, with 8 fraction bits (R248). -/
def windowCoord (a : Axis) (scaleOffset : Int) (count : Nat) : Int :=
  let s : Int := if a.sensor.dir then -1 else 1
  a.wOrigin * 256 + s * roundDiv (count * a.sensor.countNm * 256 : Nat) 250 - scaleOffset * 256

/-- A mover's predicted position in this cycle (R254), with 16 fraction bits; its COORD without a fix (R250). -/
def Head.acquisitionPoint (h : Head) (m : Mover) : Int :=
  if m.obs.state = .noFix then m.coord * 65536
  else (m.obs.predict (h.rangeNs ((h.moverRange m).getD 0))).1

/-- May a reading of an unbound segment serve a mover that holds none (R250)? -/
def Head.acquires (h : Head) (m : Mover) (a : Axis) (z : Int) : Bool :=
  let span (m : Mover) := m.span (roundDiv (h.acquisitionPoint m) 65536) (h.falling m)
  let (lo, hi) := span m
  m.track = a.track && (h.held m.id).isEmpty && a.overlaps lo hi && lo * 256 ≤ z && z ≤ hi * 256
    && h.movers.all fun x => x.id = m.id || x.track ≠ a.track || let (l, u) := span x; !a.overlaps l u

/-- Does a mover's predicted scale reference lie in a segment's window (R249)? -/
def Head.expectedAt (h : Head) (a : Axis) : Bool :=
  h.movers.any fun m => m.track = a.track && m.obs.state ≠ .noFix &&
    let x := h.acquisitionPoint m + m.obs.scaleOffset * 65536
    let one := windowCoord a 0 0 * 256
    let two := windowCoord a 0 a.sensor.window * 256
    min one two ≤ x && x ≤ max one two

/-- Put a reading into a mover's inbox, unless its cut-off has passed (R201, R252). -/
def Head.deliver (h : Head) (m source : Nat) (z : Int) : Head :=
  h.setMover m fun x => if x.cut then x else { x with inbox := x.inbox ++ [(source, z)] }

/-! ### Fusion (R252) -/

/-- The result of a fusion. -/
structure Fused where
  /-- fused measurement, 8 fraction bits -/
  z        : Option Int
  accepted : List Nat
  disagree : Bool
  /-- at least 2 sources agree -/
  many     : Bool

/-- The reading nearest x_p; the first of two as near. -/
def nearest (xp : Int) : List (Nat × Int) → Option (Nat × Int)
  | [] => none
  | r :: rest => some (rest.foldl (fun b x => if (x.2 * 256 - xp).natAbs < (b.2 * 256 - xp).natAbs then x else b) r)

/-- Insert into a list of rising values. -/
def insertSorted (x : Int) : List Int → List Int
  | [] => [x]
  | y :: ys => if x ≤ y then x :: y :: ys else y :: insertSorted x ys

/-- Twice the median of a list (R252). -/
def median2 (zs : List Int) : Int :=
  let s := zs.foldl (fun acc z => insertSorted z acc) []
  let n := s.length
  if n % 2 = 1 then 2 * s.getD (n / 2) 0 else s.getD (n / 2 - 1) 0 + s.getD (n / 2) 0

/-- Fuse candidates that are valid and not EXCLUDED, around a prediction x_p (R252). DEDUCED (log 45). -/
def Observer.fuse (o : Observer) (xp : Int) (cands : List (Nat × Int)) : Fused :=
  let gated := o.state = .tracking || o.state = .predicting
  let cand := if gated then cands.filter fun c => (c.2 * 256 - xp).natAbs ≤ o.gate * 65536 else cands
  if cand.isEmpty then { z := none, accepted := [], disagree := false, many := false }
  else
    let m := median2 (cand.map fun c => c.2)
    let acc := cand.filter fun c => (2 * c.2 - m).natAbs ≤ 2 * o.agree * 256
    let used := if acc.isEmpty then (nearest xp cand).toList else acc
    { z := some (roundDiv ((used.map fun c => c.2).foldl (· + ·) 0) used.length), accepted := used.map fun c => c.1
      disagree := acc.isEmpty, many := acc.length ≥ 2 }

/-- The bits of GET_OBSERVER for the sources of a mover that satisfy a test. -/
def Head.sourceBits (h : Head) (m : Mover) (p : Nat → Bool) : Nat :=
  sumNat ((h.held m.id).map fun a =>
      match runEnds (h.held m.id) with
      | some (lo, _) => flag (p a.id) (a.segIndex - lo)
      | none => 0)
    + flag (h.channels.zipIdx.any fun (c, i) => c.cfg.use = 2 && c.cfg.owner = m.id && p (0x2000 + i)) 16

/-- Count acceptance, rejection and good residuals of the sources that gave a reading (R253): the cycles within GATE are
consecutive, so an EXCLUDED source of the mover that gives none begins again.  A reading outside the gate is rejected as one
outside AGREE is (the worked example of chapter 09). -/
def Head.countSources (h : Head) (m : Mover) (xp : Int) (readings : List (Nat × Int)) (accepted : List Nat) : Head :=
  let o := m.obs
  let heard (source : Nat) : Bool := readings.any fun r => r.1 = source
  let quiet (s : SourceRun) : SourceRun := if s.excluded then { s with good := 0 } else s
  let h : Head := { h with
    axes := h.axes.map fun a => if a.linear && a.mover = some m.id && !heard a.id then { a with source := quiet a.source } else a
    channels := h.channels.mapIdx fun i c =>
      if c.cfg.use = 2 && c.cfg.owner = m.id && !heard (0x2000 + i) then { c with source := quiet c.source } else c }
  readings.foldl (init := h) fun (h : Head) r =>
    h.setSource r.1 fun s =>
      if s.excluded then
        { s with good := if o.state ≠ .noFix && (r.2 * 256 - xp).natAbs ≤ o.gate * 65536 then satInc 64 s.good else 0 }
      else { s with rejected := if accepted.contains r.1 then 0 else satInc 16 s.rejected }

/-- The mover's observer takes the readings of this cycle (R201, R252-R257). -/
def Head.observeMover (h : Head) (id : Nat) : Head :=
  let h := h.setMover id fun m => { m with obs := m.obs.adopt }
  match h.mover? id with
  | none => h
  | some m =>
    let n := h.rangeNs ((h.moverRange m).getD 0)
    let bw := h.bandwidth m.obs
    let readings := m.inbox.foldl (fun acc r => putKey (fun x => h.sourceOrder x.1) r acc) []
    let xp := (m.obs.predict n).1
    let f := m.obs.fuse xp (readings.filter fun r => !(h.sourceRun r.1).excluded)
    let o :=
      if m.obs.state = .noFix then match f.z, f.accepted with
        | some z, [s] => if f.disagree then { m.obs with lone := [] } else m.obs.update false n bw s (some z)
        | some z, _ => if f.many then m.obs.fix n bw z else { m.obs with lone := [] }
        | none, _ => m.obs.update false n bw 0 none
      else m.obs.update false n bw 0 f.z
    let h := h.countSources m xp readings f.accepted
    let predicted := f.z.isNone
    let h := h.setMover id fun x => { x with
      cut := true, inbox := []
      obs := { o with disagree := f.disagree, sources := h.sourceBits m f.accepted.contains, used := o.units } }
    h.setAxis m.axis fun a => (if predicted then a.stick 0x1000 else a)

/-- A rotary axis's observer takes its own reading of this cycle, or predicts (R251, R254). -/
def Head.observeRotary (h : Head) (id : Nat) (z : Option Int) : Head :=
  h.setAxis id fun a =>
    let n := h.rangeNs a.range
    let o := a.obs.adopt
    let o := o.update true n (h.bandwidth o) id z
    let a := { a with obs := { o with used := o.units, sources := flag z.isSome 0 } }
    if z.isNone then a.stick 0x1000 else a

/-- A channel's observer takes its latched value, or predicts (R237, R243, R254). -/
def Head.observeChannel (h : Head) (c : Nat) (z : Option Int) : Head :=
  h.setChannel c fun f =>
    let o := f.obs.adopt
    let o := o.update true h.cycleNs o.bw c z
    { f with obs := { o with used := o.units, sources := flag z.isSome 16 } }

/-! ### Observers by number -/

/-- Observers by number: movers, then 0x1000 + rotary axis, then 0x2000 + channel (R259). -/
def Head.observer? (h : Head) (target : Nat) : Option Observer :=
  match subject? target h with
  | some (.mover m) => (h.mover? m).map fun x => x.obs
  | some (.rotary a) => (h.axis? a).map fun x => x.obs
  | some (.channel c) => some (h.channel c).obs
  | none => none

def Head.setObserver (h : Head) (target : Nat) (f : Observer → Observer) : Head :=
  match subject? target h with
  | some (.mover m) => h.setMover m fun x => { x with obs := f x.obs }
  | some (.rotary a) => h.setAxis a fun x => { x with obs := f x.obs }
  | some (.channel c) => h.setChannel c fun x => { x with obs := f x.obs }
  | none => h

/-- The axis whose fault a loss of this observer is; none for a channel. -/
def Head.observerAxis? (h : Head) (target : Nat) : Option Nat :=
  ((subject? target h).bind fun s => s.axis? h).map fun a => a.id

/-! ### The rows -/

/-- An observer number that some part may have. -/
def observerNumber (n : Nat) : Bool := n < 256 || (0x1000 ≤ n && n < 0x2008)
/-- A source number: a segment axis or 0x2000 + channel. -/
def sourceNumber (n : Nat) : Bool := n < 4096 || (0x2000 ≤ n && n < 0x2008)

/-- SETTLING_DONE: the last update of SETTLING has passed (R256). -/
def execSettlingDone (observer : Nat) (s : State) : Host.Outcome State Fault Refusal :=
  eventExec (observerNumber observer) (fun h =>
    h.setObserver observer fun o => if o.state = .settling && o.settle = 0 then { o with state := .tracking } else o) s

/-- POSITION_LOST: PRED_RUN exceeds PRED_LIMIT (R257). -/
def execPositionLost (observer : Nat) (s : State) : Host.Outcome State Fault Refusal :=
  eventExec (observerNumber observer) (fun h =>
    match h.observer? observer with
    | none => h
    | some o =>
      if o.predRun > o.predLimit && o.state ≠ .noFix then
        let h := h.setObserver observer fun o => { o with state := .noFix, lone := [], lost := true }
        let h := h.post 0x0707 0 observer []
        match h.observerAxis? observer with
        | some a => h.raise (srcAxis a) 7
        | none => h
      else h) s

/-- SENSOR_SUSPECT: 16 rejected cycles in a row exclude a source (R253). DEDUCED (log 94). -/
def execSensorSuspect (source : Nat) (s : State) : Host.Outcome State Fault Refusal :=
  eventExec (sourceNumber source) (fun h =>
    let r := h.sourceRun source
    if !r.excluded && r.rejected ≥ 16 then
      let h := h.setSource source fun s => { s with excluded := true, good := 0 }
      let h := h.post 0x0705 0 (source % 0x2000) []
      if source < 0x2000 then h.raise (srcAxis source) 24 else h.raise (srcLocal (source - 0x2000)) 5
    else h) s

/-- SENSOR_READMITTED: 64 cycles in a row within GATE (R253). DEDUCED (log 94). -/
def execSensorReadmitted (source : Nat) (s : State) : Host.Outcome State Fault Refusal :=
  eventExec (sourceNumber source) (fun h =>
    let r := h.sourceRun source
    if r.excluded && r.good ≥ 64 then
      (h.setSource source fun _ => {}).post 0x0706 0 (source % 0x2000) []
    else h) s

end Sys2Proof.Machine
end

