-- ==== Sys2Proof/Machine/Ranges.lean ====
section
/-! DEFINITION. The commands of block 0x03 (R97-R119, R490), but for enabling and disabling. -/
namespace Sys2Proof.Machine

/-- A command of block 0x03 that changes something: refused on a standby head (R119). -/
def blockCommand (opcode : Nat) (cls : Cls) (n : Nat) (modes : List Mode) (mirrored : Bool)
    (param : Packet → Head → Bool) (refusals : Packet → Head → List (Bool × Nat)) (effect : Packet → Head → Effect) :
    Command :=
  { opcode, cls, len := lenIs n, active := true, mirrored, stateOk := fun _ h => h.inMode modes, paramOk := param
    refusals, effect }

/-- An OBSERVE command that reads something, in the modes and at the depths a test gives. -/
def observeCommand (opcode n : Nat) (state : Head → Bool) (param : Packet → Head → Bool)
    (refusals : Packet → Head → List (Bool × Nat)) (reply : Packet → Head → List Byte) : Command :=
  { opcode, cls := .observe, len := lenIs n, stateOk := fun _ h => state h, paramOk := param, refusals
    effect := fun p h => { head := h, reply := reply p h } }

def rangeStateCode : RangeState → Nat
  | .unused => 0 | .stopped => 1 | .running => 2 | .belay => 3
def axisKindCode : AxisKind → Nat
  | .segment => 1 | .mover => 2 | .stepper => 3
def axisStateCode : AxisState → Nat
  | .disabled => 0 | .enabled => 1 | .belay => 2

/-- A range is shed by the placer, or as G3 from the entry to RESCUE on (R58, R283, R284, R287). -/
def Head.shedNow (h : Head) (r : Nat) : Bool :=
  (h.range r).shed || ((h.range r).cls = 3 && (h.compute.shedLevel ≥ 1 || h.sys.mode = .rescue
    || (h.sys.transition.any fun t => t.target = .rescue)))

/-- A legal divisor (Table 04-1). -/
def divisorOk (d : Nat) : Bool := d = 1 || d = 2 || d = 4 || d = 8

/-- GET_RANGE. -/
def getRangeCmd : Command :=
  observeCommand 0x0300 0 Head.fromCommission (fun p _ => p.target < 8) (fun _ _ => []) fun p h =>
    let x := h.range p.target
    pack [(1, x.divisor), (1, x.rescueDivisor), (1, x.cls),
      (1, rangeStateCode x.state + flag (h.shedNow p.target) 2 + flag x.autoRun 3), (2, axesOf h.axes p.target), (2, 0),
      (4, axesOf h.axes p.target * 1000000000 / max 1 (h.rangeNs p.target))]
def execGetRange (p : Packet) (s : State) : Host.Outcome State Fault Refusal := hostExec getRangeCmd p s

/-- Hold an observer's bandwidths at their limits (R255): the update rate ÷ 32, in units of 0.1 Hz. -/
def Observer.clip (o : Observer) (rate rescueRate : Nat) : Observer :=
  let top := rate * 10 / 32
  let rescueTop := rescueRate * 10 / 32
  { o with
    bw := min o.bw top, bwRescue := min o.bwRescue rescueTop, clipped := o.clipped || o.bw > top || o.bwRescue > rescueTop
    next := o.next.map fun s => { s with bw := min s.bw top, bwRescue := min s.bwRescue rescueTop } }

/-- The limits of R255 on every observer of a range's axes and movers. -/
def Head.clipObservers (h : Head) (r : Nat) : Head :=
  let rate := h.rangeRate (h.range r)
  let rescue := 8000 / max (h.range r).rescueDivisor 1
  { h with
    axes := h.axes.map fun a => if a.range = r && a.rotary then { a with obs := a.obs.clip rate rescue } else a
    movers := h.movers.map fun m => if h.moverRange m = some r then { m with obs := m.obs.clip rate rescue } else m }

/-- SET_RANGE (R98, R286). -/
def setRangeCmd : Command :=
  { blockCommand 0x0301 .configure 4 [.commission] true
      (fun p h => p.target < 8 && divisorOk (pu p 0 1) && divisorOk (pu p 1 1) && pu p 2 1 ≤ 3 && pu p 3 1 ≤ 1
        && (pu p 2 1 < 2 || h.axes.all fun a => a.range ≠ p.target || a.kind ≠ .mover))
      (fun p h =>
        let ranges := setAt p.target (fun (x : Range) => { x with divisor := pu p 0 1, rescueDivisor := pu p 1 1 }) h.ranges
        let ranges := setAt p.target (fun (x : Range) => { x with cls := pu p 2 1 }) ranges
        [(!h.fits ranges h.axes, Status.noCapacity)])
      (fun p h =>
        let h := h.setRange p.target fun x =>
          { x with divisor := pu p 0 1, rescueDivisor := pu p 1 1, cls := pu p 2 1, autoRun := bit (pu p 3 1) 0 }
        let h := { h with compute := { h.compute with changed := true } }
        { head := h.clipObservers p.target }) with
    stateOk := fun p h =>
      let x := h.range p.target
      h.inMode [.commission] && (x.state = .stopped || x.state = .unused
        || (x.divisor = pu p 0 1 && x.rescueDivisor = pu p 1 1 && x.cls = pu p 2 1)) }
def execSetRange (p : Packet) (s : State) : Host.Outcome State Fault Refusal := hostExec setRangeCmd p s

/-- RANGE_START (R97): OK once the range is RUNNING, at its next cycle boundary. -/
def rangeStartCmd : Command :=
  { blockCommand 0x0302 .operate 0 [.commission, .service, .rescue] true (fun p _ => p.target < 8) (fun _ _ => [])
      (fun p h =>
        if (h.range p.target).state = .running then { head := h }
        else { head := h.setRange p.target fun x => { x with starting := true }
               wait := some (.rangeRunning p.target), owed := true }) with
    stateOk := fun p h => h.inMode [.commission, .service, .rescue]
      && (p.target ≥ 8 || (h.range p.target).state = .stopped || (h.range p.target).state = .running) }
def execRangeStart (p : Packet) (s : State) : Host.Outcome State Fault Refusal := hostExec rangeStartCmd p s

/-- Every mover and stepper of a range begins to stop, as STOP_MOVER and STOP_STEPPER NORMAL do (R97, R223, R333). -/
def Head.stopRange (h : Head) (r : Nat) : Head :=
  (h.axes.filter fun a => a.range = r).foldl (init := h) fun (h : Head) (a : Axis) =>
    if a.profiled && !a.atRest then h.startStop a false false .rest
    else if a.kind = .stepper && !a.step.atRest then
      match h.axis? a.id with
      | some a => h.stopSteps a 0 false false Status.stepStopped
      | none => h
    else h

/-- RANGE_STOP (R97): OK at once from STOPPED, else ACCEPTED until every mover and stepper has stopped. -/
def rangeStopCmd : Command :=
  { blockCommand 0x0303 .operate 0 [.commission, .service, .rescue] true (fun p _ => p.target < 8) (fun _ _ => [])
      (fun p h =>
        if (h.range p.target).state = .stopped then { head := h }
        else { head := (h.setRange p.target fun x => { x with stopping := true }).stopRange p.target
               wait := some (.rangeStopped p.target) }) with
    stateOk := fun p h => h.inMode [.commission, .service, .rescue]
      && (p.target ≥ 8 || (h.range p.target).state = .stopped || (h.range p.target).state = .running) }
def execRangeStop (p : Packet) (s : State) : Host.Outcome State Fault Refusal := hostExec rangeStopCmd p s

/-- GET_AXIS (R105, R109, R112, R113). -/
def getAxisCmd : Command :=
  observeCommand 0x0310 4 Head.fromCommission (fun p h => (targetAxis? p h).isSome && axisRefOk p true)
    (fun p h => [((targetAxis? p h).any fun a => epochStale p a, Status.epochStale)]) fun p h =>
      match targetAxis? p h with
      | none => []
      | some a => pack [(1, axisKindCode a.kind), (1, a.range), (1, a.epoch), (1, axisStateCode a.state),
          (2, a.mover.getD 0xFFFF), (2, a.location), (6, a.epochCycle), (2, a.staleHost), (2, a.staleUp),
          (2, a.nodeMismatch), (4, 0)]
def execGetAxis (p : Packet) (s : State) : Host.Outcome State Fault Refusal := hostExec getAxisCmd p s

/-- The kind a KIND code stands for (Table 04-2). -/
def axisKindOf : Nat → AxisKind
  | 1 => .segment | 2 => .mover | _ => .stepper

/-- The axis that DEFINE_AXIS describes. -/
def newAxis (p : Packet) : Axis :=
  let kind := axisKindOf (pu p 4 1)
  let rotary := pu p 8 1 = 0xFF
  { id := p.target, kind, range := pu p 5 1, location := pu p 6 2, track := pu p 8 1, segIndex := pu p 10 2
    segStart := ps p 12 4, segLength := pu p 16 4, coeff := coeffReset kind rotary, coeffRescue := coeffReset kind rotary }

/-- Do two locations name the same place (R99)? -/
def sameLocation (a b : Nat) : Bool :=
  if bit a 15 then bit b 15 && bits a 12 10 = bits b 12 10 else !bit b 15 && a % 8192 = b % 8192

/-- DEFINE_AXIS (R27, R97, R99, R100, R286, R490). DEDUCED (log 32). -/
def defineAxisCmd : Command :=
  blockCommand 0x0311 .configure 20 [.commission] true
    (fun p h =>
      let kind := pu p 4 1
      let loc := pu p 6 2
      let track := pu p 8 1
      axisRefOk p false && pu p 0 1 = 0 && 1 ≤ kind && kind ≤ 3 && pu p 5 1 ≤ 7 && pz p 9 1
        && bits loc 14 13 = 0 && (!bit loc 15 || kind = 3) && (kind ≠ 2 || loc = 0)
        && (track = 0xFF || (kind = 1 && track < 64)) && pu p 10 2 < 1024 && (track ≠ 0xFF || pu p 10 2 = 0)
        && (track = 0xFF || 4000 ≤ pu p 16 4) && (kind ≠ 2 || (h.range (pu p 5 1)).cls < 2))
    (fun p h =>
      let a := newAxis p
      [(a.linear && h.movers.any (fun m => m.track = a.track && h.moverRange m ≠ some a.range), Status.rangeMismatch),
       (a.linear && !h.geometryOk a.id a.track a.segIndex a.segStart a.segLength, Status.geometry),
       ((h.axis? p.target).isSome || (a.kind ≠ .mover && h.axes.any fun x => x.kind ≠ .mover && sameLocation x.location a.location),
        Status.conflict),
       (p.target ≥ 4096 || !h.fits h.ranges (a :: h.axes), Status.noCapacity)])
    fun p h =>
      let a := newAxis p
      let h := { h with axes := putKey (fun x => x.id) a h.axes, compute := { h.compute with changed := true } }
      { head := h.setRange a.range fun x => if x.state = .unused then { x with state := .stopped } else x }
def execDefineAxis (p : Packet) (s : State) : Host.Outcome State Fault Refusal := hostExec defineAxisCmd p s

/-- Remove an axis: what it was doing ends, its latches go, and a range left empty is UNUSED (R97). DEDUCED (log 42). -/
def Head.removeAxis (h : Head) (a : Axis) : Head :=
  let h := h.dropAxis a
  let h := { h with
    axes := h.axes.filter fun x => x.id ≠ a.id
    binds := h.binds.filter fun b => b.axis ≠ a.id
    deferred := h.deferred.filter fun d => d.axis ≠ a.id
    faults := { h.faults with latches := h.faults.latches.filter fun l => l.source ≠ srcAxis a.id }
    compute := { h.compute with changed := true } }
  if axesOf h.axes a.range = 0 then
    (h.setRange a.range fun x => { x with state := .unused, starting := false, stopping := false }).finish (.rangeRunning a.range)
      Status.badState
  else h

/-- DELETE_AXIS. -/
def deleteAxisCmd : Command :=
  blockCommand 0x0312 .configure 4 [.commission] true (fun p h => (targetAxis? p h).isSome && axisRefOk p false)
    (fun p h => match targetAxis? p h with
      | none => []
      | some a => [(a.mover.isSome || a.moverNow.isSome || h.movers.any (fun m => m.axis = a.id), Status.segmentInUse),
          (epochStale p a, Status.epochStale)])
    fun p h => match targetAxis? p h with
      | none => { head := h }
      | some a => { head := h.removeAxis a }
def execDeleteAxis (p : Packet) (s : State) : Host.Outcome State Fault Refusal := hostExec deleteAxisCmd p s

/-- GET_MOVER; FIRST_SEG is the lowest segment index. DESIGN CHOICE (log 101). -/
def getMoverCmd : Command :=
  observeCommand 0x0320 0 Head.fromCommission (fun p h => (h.mover? p.target).isSome) (fun _ _ => []) fun p h =>
    match h.mover? p.target with
    | none => []
    | some m =>
      let ends := runEnds (h.held m.id)
      pack [(2, m.axis), (1, m.track), (1, flag m.autoHandover 0 + flag m.notifyBind 1), (4, m.length), (4, m.lead),
        (4, m.lag), (4, m.hyst)] ++ leInt 4 m.coord
        ++ pack [(2, (ends.map fun e => e.1).getD 0xFFFF), (1, (h.held m.id).length), (5, 0)]
def execGetMover (p : Packet) (s : State) : Host.Outcome State Fault Refusal := hostExec getMoverCmd p s

/-- DEFINE_MOVER (R99, R102, R490).  A mover that holds a segment, or whose axis is ENABLED, is not redefined.
DEDUCED (log 39). -/
def defineMoverCmd : Command :=
  blockCommand 0x0321 .configure 24 [.commission] true
    (fun p h =>
      p.target < 256 && ((h.axis? (pu p 0 2)).any fun a => a.kind = .mover) && pu p 2 1 < 64 && pu p 3 1 < 4
        && 40000 ≤ pu p 4 4 && pu p 4 4 ≤ 200000000 && pu p 8 4 ≤ 40000000 && pu p 12 4 ≤ 40000000
        && 400 ≤ pu p 16 4 && pu p 16 4 ≤ 4000000)
    (fun p h =>
      [((h.axis? (pu p 0 2)).any (fun a => !h.trackRange (pu p 2 1) a.range), Status.rangeMismatch),
       (h.movers.any (fun m => m.id ≠ p.target && m.axis = pu p 0 2)
        || (h.mover? p.target).any (fun m => h.moverEnabled m || !(h.held m.id).isEmpty), Status.conflict)])
    fun p h =>
      let m : Mover := {
        id := p.target, axis := pu p 0 2, track := pu p 2 1, autoHandover := bit (pu p 3 1) 0
        notifyBind := bit (pu p 3 1) 1, length := pu p 4 4, lead := pu p 8 4, lag := pu p 12 4, hyst := pu p 16 4
        coord := ps p 20 4 }
      { head := ({ h with movers := putKey (fun x => x.id) m h.movers }).armHandover m.id }
def execDefineMover (p : Packet) (s : State) : Host.Outcome State Fault Refusal := hostExec defineMoverCmd p s

/-- The mover that BIND_SEGMENT and UNBIND_SEGMENT name. -/
def namedMover? (p : Packet) (h : Head) : Option Mover := h.mover? (pu p 4 1)

/-- At a group's effect instant a binding that no longer fits completes with CONFLICT (R107). -/
def bindAtEffect (status : Nat) : Nat :=
  if status = Status.badParam || status / 256 = 3 then Status.conflict else status

/-- BIND_SEGMENT and UNBIND_SEGMENT: the mover stopped and AUTO_HANDOVER clear (R104-R107, R115, R117). -/
def bindCommand (opcode : Nat) (bind : Bool) (param : Axis → Mover → Head → Bool)
    (refusals : Axis → Mover → Head → List (Bool × Nat)) : Command :=
  let decide (delay : Nat) (p : Packet) (h : Head) : Effect :=
    let h := h.decideBinding p.target bind (pu p 4 1) 1 delay
    { head := h, reply := pack [(1, ((h.axis? p.target).map fun a => a.epoch).getD 0), (3, 0)] }
  { blockCommand opcode .operate 8 [.commission, .service] true
      (fun p h => axisRefOk p false && pz p 5 3 && match targetAxis? p h, namedMover? p h with
        | some a, some m => a.kind = .segment && param a m h
        | _, _ => false)
      (fun p h => match targetAxis? p h, namedMover? p h with
        | some a, some m => refusals a m h ++ [(epochStale p a, Status.epochStale), (h.tooSoon a, Status.busy)]
        | _, _ => [])
      (decide 2) with
    again := some fun p h =>
      if (targetAxis? p h).any fun a => h.tooSoon a 0 then { head := h, final := some (Status.busy, []) } else decide 0 p h
    stateOk := fun p h => h.inMode [.commission, .service]
      && ((namedMover? p h).all fun m => !m.autoHandover && h.moverStopped m)
      && ((targetAxis? p h).bind fun a => a.mover.bind h.mover?).all fun m => !m.autoHandover
    atEffect := bindAtEffect }

/-- BIND_SEGMENT. -/
def bindSegmentCmd : Command :=
  bindCommand 0x0322 true
    (fun a m h => a.linear && a.track = m.track && (a.mover = some m.id || h.runTakes m.id a.segIndex))
    fun a m h => [(h.moverRange m ≠ some a.range, Status.rangeMismatch), (a.mover.isSome, Status.segmentInUse),
      ((h.gapBreaker m.id a.track a.segIndex).isSome, Status.gapViolation)]
def execBindSegment (p : Packet) (s : State) : Host.Outcome State Fault Refusal := hostExec bindSegmentCmd p s

/-- UNBIND_SEGMENT. -/
def unbindSegmentCmd : Command :=
  bindCommand 0x0323 false (fun a m h => a.mover = some m.id && h.atRunEnd m.id a.segIndex)
    fun a _ _ => [(a.coverage > 0, Status.segmentInUse)]
def execUnbindSegment (p : Packet) (s : State) : Host.Outcome State Fault Refusal := hostExec unbindSegmentCmd p s

/-- A track change sets every entry of the mover to its starting state again (R192). -/
def Head.rearmEntries (h : Head) (m : Mover) : Head :=
  (h.cal.entries.filter fun e => e.mover = m.id && e.entry ≥ 1024).foldl (init := h) fun (h : Head) (e : CalEntry) =>
    h.putEntry { e with state := armState e.dir e.coord e.hyst m.here, missed := false }

/-- SET_MOVER_TRACK (R103, R490). -/
def setMoverTrackCmd : Command :=
  { blockCommand 0x0324 .operate 8 [.commission, .service] true
      (fun p h => (h.mover? p.target).isSome && pu p 0 1 < 64 && pz p 1 3)
      (fun p h => [((h.mover? p.target).any (fun m => (h.moverRange m).any fun r => !h.trackRange (pu p 0 1) r), Status.rangeMismatch)])
      (fun p h =>
        let h := h.setMover p.target fun m => { m with track := pu p 0 1, coord := ps p 4 4, calX := none }
        match h.mover? p.target with
        | some m => { head := (h.rearmEntries m).armHandover m.id }
        | none => { head := h }) with
    stateOk := fun p h => h.inMode [.commission, .service] && (h.mover? p.target).all fun m =>
      h.moverStopped m && ((h.axis? m.axis).all fun a => a.state = .disabled) && (h.held m.id).isEmpty
        && h.axes.all fun a => a.moverNow ≠ some m.id }
def execSetMoverTrack (p : Packet) (s : State) : Host.Outcome State Fault Refusal := hostExec setMoverTrackCmd p s

/-- SET_GAP (R117, R118). -/
def setGapCmd : Command :=
  blockCommand 0x0325 .configure 4 [.commission] true
    (fun p _ => p.target < 64 && 1 ≤ pu p 0 1 && pu p 0 1 ≤ 16 && pz p 1 3)
    (fun p h => [(!h.gapHolds p.target (pu p 0 1), Status.gapViolation)])
    fun p h => { head := { h with tracks := setAt p.target (fun (t : Track) => { t with gap := pu p 0 1 }) h.tracks } }
def execSetGap (p : Packet) (s : State) : Host.Outcome State Fault Refusal := hostExec setGapCmd p s

end Sys2Proof.Machine
end

