-- ==== Sys2Proof/Machine/Feedback.lean ====
section
/-! DEFINITION. The local feedback channels (R235-R246) and the commands of block 0x07 (R247, R255, R259). -/
namespace Sys2Proof.Machine

/-! ### Flags (Table 09-2) -/

abbrev chDirection : BitVec 16 := 0x001
abbrev chDirChanged : BitVec 16 := 0x002
abbrev chIndexSeen : BitVec 16 := 0x004
abbrev chIndexDrift : BitVec 16 := 0x008
abbrev chQuadError : BitVec 16 := 0x010
abbrev chFrameAbort : BitVec 16 := 0x020
abbrev chFrameError : BitVec 16 := 0x040
abbrev chFrameMissing : BitVec 16 := 0x080
abbrev chResync : BitVec 16 := 0x100
abbrev chHallInvalid : BitVec 16 := 0x200
abbrev chHallSkip : BitVec 16 := 0x400
abbrev chDivOverrun : BitVec 16 := 0x800
/-- The bits that a write of 1 clears. -/
abbrev chW1c : BitVec 16 := 0xEFE

def Feedback.setFlags (f : Feedback) (m : BitVec 16) : Feedback := { f with flags := f.flags ||| m }
def Feedback.clearFlags (f : Feedback) (m : BitVec 16) : Feedback := { f with flags := f.flags &&& ~~~m }
def Feedback.has (f : Feedback) (m : BitVec 16) : Bool := f.flags &&& m ≠ 0

/-- The observer of the channel has lost position (R257). -/
def Feedback.lost (f : Feedback) : Bool := f.obs.lost

/-! ### Divider (R245) -/

/-- Emit the waiting toggles whose time has come: the first at `divAt`, and each later one a gap after the one before. -/
def Feedback.drain (f : Feedback) (now : Nat) : Feedback :=
  if f.divWait = 0 || now < f.divAt then f
  else
    let n := min f.divWait ((now - f.divAt) / max f.divGap 1 + 1)
    { f with divWait := f.divWait - n, divLevel := if n % 2 = 1 then !f.divLevel else f.divLevel
             divAt := f.divAt + n * f.divGap }

/-- Add `edges` counted edges to the divider: the toggles they make wait, 255 at most; those of an SSI frame wait for the next
cycle. -/
def Feedback.divide (f : Feedback) (now edges : Nat) : Feedback × Bool :=
  if f.cfg.divM = 0 then ({ f with divWait := 0, divNext := 0, divLevel := false }, false)
  else
    let f := f.drain now
    let total := f.divAcc + edges * f.cfg.divM
    let toggles := total / max f.cfg.divN 1
    let late : Bool := f.divWait + f.divNext + toggles > 255
    let taken := min toggles (255 - f.divWait - f.divNext)
    let f := { f with divAcc := total % max f.cfg.divN 1 }
    let f := if late then f.setFlags chDivOverrun else f
    (if f.cfg.mode = 2 then { f with divNext := f.divNext + taken }
      else { f with divWait := f.divWait + taken, divAt := if f.divWait = 0 then max f.divAt now else f.divAt }.drain now, late)

/-- In SSI mode the toggles of a cycle are spaced evenly over the next one. -/
def Feedback.spread (f : Feedback) (now cycle : Nat) : Feedback :=
  if f.divNext = 0 then f
  else
    let wait := f.divWait + f.divNext
    { f with divWait := wait, divNext := 0, divAt := max f.divAt now, divGap := max 20 (cycle / wait) }

/-- Feed the divider of a channel; an overrun is reported (Table 16-2). -/
def Head.feedDivider (h : Head) (c edges : Nat) : Head :=
  let (f, late) := (h.channel c).divide h.now edges
  let h := h.setChannel c fun _ => f
  if late then h.raise (srcLocal c) 4 else h

/-! ### Direction (R240) -/

/-- A count of `n` in a direction (true negative) at this instant: the run toward a change of DIRECTION.
DEDUCED (log 46). -/
def Feedback.turn (f : Feedback) (now : Nat) (negative : Bool) (n : Nat) : Feedback :=
  if f.has chDirection = negative then { f with dirRun := (0, 0) }
  else { f with dirRun := if f.dirRun.1 = 0 then (n, now) else (f.dirRun.1 + n, f.dirRun.2) }

/-- Count ±n edges: the count wraps, the direction run follows, the divider is fed. -/
def Head.countEdges (h : Head) (c : Nat) (negative : Bool) (n : Nat) : Head :=
  let h := h.setChannel c fun f =>
    { (f.turn h.now negative n) with count := if negative then (f.count + 2 ^ 32 - n) % 2 ^ 32 else (f.count + n) % 2 ^ 32 }
  h.feedDivider c n

/-! ### Readings -/

/-- The coordinate of a count of a USE 2 channel, 8 fraction bits. DEDUCED (log 45). -/
def channelCoord (f : Feedback) (scaleOffset : Int) : Int :=
  let count : Int := if f.cfg.mode = 2 then f.count else toSigned 32 f.count
  f.cfg.trackOrigin * 256 + roundDiv (count * f.cfg.countNm * 256) 250 - scaleOffset * 256

/-- A usable reading reaches the channel's observer and, under USE 2, its mover (R237, R243). -/
def Head.channelReading (h : Head) (c : Nat) : Head :=
  let f := h.channel c
  let h := h.observeChannel c (some ((f.count : Int) * 256))
  if f.cfg.use = 2 && !f.has chResync && !f.lost then
    match h.mover? f.cfg.owner with
    | some m => h.deliver m.id (0x2000 + c) (channelCoord f m.obs.scaleOffset)
    | none => h
  else h

/-- A setting in force from this boundary: the count is kept when MODE is unchanged, the divider and the exclusion start
afresh (R245, R253). -/
def Feedback.adopt (f : Feedback) : Feedback :=
  match f.next with
  | none => f
  | some cfg =>
    let changed := cfg.mode ≠ f.cfg.mode
    let g := { f with cfg, next := none, source := {} }
    let g := if changed then { g with
        count := 0, sector := none, ssiBusy := false, fresh := false, silence := 0, run := [], outage := 0
        flags := g.flags &&& ~~~chResync, obs := { g.obs with state := .noFix, lone := [], lost := false } } else g
    if changed || cfg.divN ≠ f.cfg.divN || cfg.divM ≠ f.cfg.divM then
      { g with divAcc := 0, divWait := 0, divNext := 0, divGap := 20, divLevel := if cfg.divM = 0 then false else g.divLevel }
    else g

/-- What the cycle trigger does to one channel (R22, R237, R241): a new setting, the latch of its count or a new SSI frame,
a predicted update when the cycle before brought no usable frame (R242), which also ends a run of RESYNC (R243). -/
def Head.latchChannel (h : Head) (c : Nat) : Head :=
  let h := if (h.channel c).cfg.mode = 2 && !(h.channel c).fresh then h.observeChannel c none else h
  let h := h.setChannel c fun f =>
    let f := Feedback.adopt ((f.drain h.now).spread h.now h.cycleNs)
    { f with latched := f.count, dirPosted := false, fresh := false
             ssiBusy := f.cfg.mode = 2, silence := if f.cfg.mode = 2 then f.silence + 1 else 0
             run := if f.silence = 0 then f.run else [] }
  let f := h.channel c
  if f.cfg.mode = 1 || f.cfg.mode = 3 then h.channelReading c else h

/-! ### Edge rows: `stable` is how many samples of 400 MHz in a row showed the new level (R236) -/

/-- A level counts after FILTER consecutive samples (R236). -/
def ChannelCfg.counts (c : ChannelCfg) (stable : Nat) : Bool := c.filter ≤ stable

/-- QUADRATURE_EDGE: a valid edge of A or B; `positive` when A leads B (R238). -/
def execQuadratureEdge (channel : Nat) (positive : Sampled Bool) (s : State) : Host.Outcome State Fault Refusal :=
  eventExec (channel < 8) (fun h =>
    let f := h.channel channel
    if f.cfg.mode = 1 && f.cfg.counts positive.stable then h.countEdges channel (positive.value = bit f.cfg.flags 1) 1 else h) s

/-- QUAD_ERROR: A and B change together (R238). -/
def execQuadError (channel : Sampled Nat) (s : State) : Host.Outcome State Fault Refusal :=
  eventExec (channel.value < 8) (fun h =>
    let stable := channel.stable
    let channel := channel.value
    let f := h.channel channel
    if f.cfg.mode ≠ 1 || !f.cfg.counts stable then h
    else
      let h := h.setChannel channel fun f =>
        { (f.setFlags chQuadError) with quadErrors := satInc 0xFFFF f.quadErrors, quadCycle := some h.time.cycle }
      if f.quadCycle.all fun c => c + 64 < h.time.cycle then (h.post 0x0709 0 channel []).raise (srcLocal channel) 2
      else h) s

/-- Does an index difference miss every multiple of CPR by more than INDEX_TOL (R239)? -/
def indexDrifts (cfg : ChannelCfg) (delta : Int) : Bool :=
  let r := (delta % (cfg.cpr : Int)).toNat
  cfg.cpr ≠ 0 && r > cfg.indexTol && cfg.cpr - r > cfg.indexTol

/-- INDEX_EDGE: a rising edge of Z at a head time in ns, with A and B both high or not (R239). -/
def execIndexEdge (channel time : Nat) (gated : Sampled Bool) (s : State) : Host.Outcome State Fault Refusal :=
  eventExec (channel < 8) (fun h =>
    let f := h.channel channel
    if f.cfg.mode ≠ 1 || !f.cfg.counts gated.stable || (bit f.cfg.flags 0 && !gated.value) then h
    else
      let dir := f.has chDirection
      let delta := toSigned 32 (f.count + 2 ^ 32 - f.indexCount)
      let h := h.setChannel channel fun f =>
        { (f.setFlags chIndexSeen) with indexCount := f.count, indexDelta := delta, indexTime := time, indexDir := some dir }
      if f.indexDir = some dir && indexDrifts f.cfg delta then
        ((h.setChannel channel fun f => f.setFlags chIndexDrift).post 0x0702 0 channel []).raise (srcLocal channel) 1
      else h) s

/-- DIRECTION: DIR_HYST counts in the new direction since the last edge of the old one (R240). -/
def execDirection (channel : Nat) (s : State) : Host.Outcome State Fault Refusal :=
  eventExec (channel < 8) (fun h =>
    let f := h.channel channel
    if f.dirRun.1 ≥ f.cfg.dirHyst && f.dirRun.1 > 0 then
      let h := h.setChannel channel fun f =>
        { f with flags := (f.flags ^^^ chDirection) ||| chDirChanged, dirRun := (0, 0), dirPosted := true }
      if f.dirPosted then h else h.postAt 0x0703 0 channel f.dirRun.2 h.time.cycle []
    else h) s

/-- The sector of a Hall code H3:H2:H1 (R244). -/
def hallSector : Nat → Option Nat
  | 1 => some 0 | 3 => some 1 | 2 => some 2 | 6 => some 3 | 4 => some 4 | 5 => some 5 | _ => none

/-- HALL_INVALID, at most once in 64 cycles (R244). -/
def Head.hallInvalid (h : Head) (c : Nat) : Head :=
  let f := h.channel c
  let h := h.setChannel c fun f => f.setFlags chHallInvalid
  if f.hallCycle.all fun k => k + 64 ≤ h.time.cycle then
    ((h.setChannel c fun f => { f with hallCycle := some h.time.cycle }).post 0x070A 0 c []).raise (srcLocal c) 3
  else h

/-- HALL_TRANSITION: the Hall code becomes `code` (R244). -/
def execHallTransition (channel : Nat) (code : Sampled Nat) (s : State) : Host.Outcome State Fault Refusal :=
  eventExec (channel < 8) (fun h =>
    let f := h.channel channel
    if f.cfg.mode ≠ 3 || !f.cfg.counts code.stable then h
    else match hallSector code.value with
      | none => (h.setChannel channel fun f => { f with sector := none }).hallInvalid channel
      | some new =>
        let h := h.setChannel channel fun f => { f with sector := some new }
        match f.sector with
        | none => h
        | some old => match (new + 6 - old) % 6 with
          | 0 => h
          | 1 => h.countEdges channel false 1
          | 2 => (h.setChannel channel fun f => f.setFlags chHallSkip).countEdges channel false 2
          | 3 => h.hallInvalid channel
          | 4 => (h.setChannel channel fun f => f.setFlags chHallSkip).countEdges channel true 2
          | _ => h.countEdges channel true 1) s

/-! ### SSI (R241-R243) -/

/-- Gray to binary. -/
def grayDecode : Nat → Nat → Nat
  | 0, _ => 0
  | k + 1, g => let top := grayDecode k (g / 2); top * 2 + (top + g) % 2

/-- The position of a frame (R241). -/
def ssiPosition (c : ChannelCfg) (frame : Nat) : Nat :=
  let raw := frame / 2 ^ (c.ssiBits - c.leadBits - c.posBits) % 2 ^ c.posBits
  if bit c.flags 2 then grayDecode c.posBits raw else raw

/-- Ones of a frame. -/
def ones (n frame : Nat) : Nat := sumNat ((List.range n).map fun i => flag (bit frame i) 0)

/-- Parity correct and ERR_BIT clear (R242). DEDUCED (log 46). -/
def ssiContent (c : ChannelCfg) (frame : Nat) : Bool :=
  (match bits c.flags 4 3 with
    | 1 => ones c.ssiBits frame % 2 = 0
    | 2 => ones c.ssiBits frame % 2 = 1
    | _ => true)
  && (c.errBit = 0xFF || !bit frame c.errBit)

/-- The run of RESYNC with a usable frame: one that is plausible by the prediction joins it, any other ends it; once the
position is lost, one that lies near the frame before it joins it, any other begins one (R243). -/
def Feedback.resyncRun (f : Feedback) (n reading : Nat) : List Nat :=
  if f.obs.state = .noFix then match f.run with
    | last :: _ => if (toSigned 32 (reading + 2 ^ 32 - last)).natAbs ≤ f.cfg.plaus then reading :: f.run else [reading]
    | [] => [reading]
  else if (Observer.error true (f.obs.predict n).1 (reading * 256)).natAbs ≤ f.cfg.plaus * 65536 then reading :: f.run
  else []

/-- A usable frame (R243): held in RESYNC, or the channel's reading, whose change feeds the divider. -/
def Head.ssiReading (h : Head) (c reading : Nat) : Head :=
  let f := h.channel c
  let missed := f.silence - 1
  if f.has chResync || missed ≥ f.cfg.resyncGap then
    h.setChannel c fun f =>
      let f := if f.has chResync then f else { (f.setFlags chResync) with outage := missed, run := [] }
      { f with silence := 0, run := f.resyncRun h.cycleNs reading }
  else
    let delta := (toSigned 32 (reading + 2 ^ 32 - f.count)).natAbs
    let h := h.setChannel c fun f => { f with count := reading, fresh := true, silence := 0 }
    (h.feedDivider c delta).channelReading c

/-- SSI_FRAME_DONE: DATA at the trigger, which lets the clock run for SSI_BITS + 1 periods, the frame's bits with the first
clocked most significant, DATA at the extra sample (R241, R242). -/
def execSsiFrameDone (channel : Nat) (ready : Bool) (frame : Nat) (extra : Bool) (s : State) :
    Host.Outcome State Fault Refusal :=
  eventExec (channel < 8) (fun h =>
    let f := h.channel channel
    if f.cfg.mode ≠ 2 || !f.ssiBusy then h
    else
      let h := h.setChannel channel fun f => { f with ssiBusy := false }
      let h := if ready then h.emit (.ssiClock channel (f.cfg.ssiBits + 1) (f.cfg.clkDiv * 10)) else h
      if !ready then h.setChannel channel fun f => f.setFlags chFrameMissing
      else if extra then
        let h := h.setChannel channel fun f => { (f.setFlags chFrameAbort) with aborts := satInc 0xFFFF f.aborts }
        (h.post 0x0701 0 channel []).raise (srcLocal channel) 0
      else if !ssiContent f.cfg frame then h.setChannel channel fun f => f.setFlags chFrameError
      else h.ssiReading channel (ssiPosition f.cfg (frame % 2 ^ f.cfg.ssiBits))) s

/-- RESYNCED: RESYNC_COUNT plausible frames in a row; an observer that lost position starts afresh from the last (R243). -/
def execResynced (channel : Nat) (s : State) : Host.Outcome State Fault Refusal :=
  eventExec (channel < 8) (fun h =>
    let f := h.channel channel
    if f.has chResync && f.run.length ≥ f.cfg.resyncCount then
      let last := f.run.headD 0
      let h := h.setChannel channel fun f =>
        let o := if f.obs.state = .noFix then f.obs.fix h.cycleNs f.obs.bw (last * 256) else f.obs
        { (f.clearFlags chResync) with run := [], obs := { o with lost := false }, count := last }
      h.post 0x0704 0 channel [(4, f.outage)]
    else h) s

/-! ### Commands of block 0x07 (R259) -/

def obsCode : ObsState → Nat
  | .noFix => 0 | .settling => 1 | .tracking => 2 | .predicting => 3

/-- GET_CHANNEL. -/
def getChannelCmd : Command :=
  observeCommand 0x0700 0 Head.fromCommission (fun p _ => p.target < 8) (fun _ _ => []) fun p h =>
    let f := h.channel p.target
    pack [(1, f.cfg.mode), (1, f.cfg.use), (2, f.flags.toNat), (4, f.latched), (4, f.indexCount)] ++ leInt 4 f.indexDelta
      ++ pack [(8, f.indexTime), (2, f.quadErrors), (2, f.aborts), (1, obsCode f.obs.state), (1, f.sector.getD 0xFF), (2, 0)]
      ++ leInt 4 f.obs.units ++ leInt 4 (roundDiv f.obs.v 65536)
def execGetChannel (p : Packet) (s : State) : Host.Outcome State Fault Refusal := hostExec getChannelCmd p s

/-- The setting that SET_CHANNEL gives. -/
def channelSetting (p : Packet) : ChannelCfg :=
  { mode := pu p 0 1, use := pu p 1 1, owner := pu p 2 2, filter := pu p 4 1, flags := pu p 5 1, dirHyst := pu p 6 2
    cpr := pu p 8 4, indexTol := pu p 12 1, ssiBits := pu p 13 1, posBits := pu p 14 1, leadBits := pu p 15 1
    errBit := pu p 16 1, clkDiv := pu p 18 2, dataDelay := pu p 20 2, resyncGap := pu p 22 1, resyncCount := pu p 23 1
    plaus := pu p 24 4, divN := pu p 28 2, divM := pu p 30 2, trackOrigin := ps p 32 4, countNm := pu p 36 2 }

/-- The fields of a frame are in range in every mode; outside SSI the frame has no bits (R241). DEDUCED (log 46). -/
def ssiOk (c : ChannelCfg) (cycle : Nat) : Bool :=
  1 ≤ c.posBits && c.posBits ≤ 32 && c.leadBits ≤ c.ssiBits - c.posBits && (c.errBit < c.ssiBits || c.errBit = 0xFF)
    && 10 ≤ c.clkDiv && c.clkDiv ≤ 1000 && c.dataDelay ≤ 2550 && c.dataDelay % 10 = 0
    && (if c.mode = 2 then
        8 ≤ c.ssiBits && c.ssiBits ≤ 40 && c.posBits ≤ c.ssiBits && 4 * ((c.ssiBits + 1) * c.clkDiv * 10 + c.dataDelay) ≤ cycle
      else c.ssiBits = 0)

/-- The owner that USE names exists (SET_CHANNEL). -/
def Head.ownerOk (h : Head) (c : ChannelCfg) : Bool :=
  match c.use with
  | 0 => c.owner = 0xFFFF
  | 1 => (h.axis? c.owner).any fun a => a.localStep
  | _ => (h.mover? c.owner).isSome

/-- The owner axis of a channel setting is not DISABLED. -/
def Head.ownerBusy (h : Head) (c : ChannelCfg) : Bool :=
  match c.use with
  | 0 => false
  | 1 => (h.axis? c.owner).any fun a => a.state ≠ .disabled
  | _ => (h.mover? c.owner).any fun m => (h.axis? m.axis).any fun a => a.state ≠ .disabled

/-- SET_CHANNEL (R237-R245, R259): from the next cycle boundary. -/
def setChannelCmd : Command :=
  { opcode := 0x0701, cls := .configure, len := lenIs 40
    stateOk := fun _ h => h.inMode [.commission]
    paramOk := fun p h =>
      let c := channelSetting p
      p.target < 8 && c.mode ≤ 3 && c.use ≤ 2 && h.ownerOk c && 1 ≤ c.filter && c.filter ≤ 64 && c.flags < 32
        && bits c.flags 4 3 ≠ 3 && 1 ≤ c.dirHyst && c.cpr < 2 ^ 31 && ssiOk c h.baseCycleNs && pz p 17 1
        && 1 ≤ c.resyncGap && 1 ≤ c.resyncCount && c.resyncCount ≤ 64 && 1 ≤ c.plaus && c.plaus ≤ 16777215
        && 1 ≤ c.divN && c.divM ≤ c.divN && (c.use ≠ 2 || 1 ≤ c.countNm) && pz p 38 2
    refusals := fun p h =>
      let c := channelSetting p
      let f := h.channel p.target
      let others := h.channels.zipIdx.any fun (x, i) =>
        let cfg := x.next.getD x.cfg
        i ≠ p.target && c.use ≠ 0 && cfg.use = c.use && cfg.owner = c.owner
      [(h.ownerBusy (f.next.getD f.cfg) || h.ownerBusy c, Status.sourceInUse), (others, Status.conflict)]
    effect := fun p h => { head := h.setChannel p.target fun f => { f with next := some (channelSetting p) } } }
def execSetChannel (p : Packet) (s : State) : Host.Outcome State Fault Refusal := hostExec setChannelCmd p s

/-- CLEAR_CHANNEL_FLAGS (R12, R246): a mask bit of an RO flag has no effect (Table 00-5). -/
def clearChannelFlagsCmd : Command :=
  { opcode := 0x0702, cls := .operate, len := lenIs 4
    stateOk := fun _ h => h.fromCommission
    paramOk := fun p _ => p.target < 8 && pz p 2 2
    effect := fun p h =>
      { head := h.setChannel p.target fun f => f.clearFlags (BitVec.ofNat 16 (pu p 0 2) &&& chW1c)
        reply := pack [(2, (h.channel p.target).flags.toNat), (2, 0)] } }
def execClearChannelFlags (p : Packet) (s : State) : Host.Outcome State Fault Refusal := hostExec clearChannelFlagsCmd p s

/-- The 16 bytes of a sensor descriptor (Table 09-3). -/
def sensorBytes (x : Sensor) : List Byte :=
  pack [(1, x.kind), (1, x.bits), (2, x.countNm), (4, x.window), (1, flag x.dir 0), (7, 0)]

/-- A descriptor read from 16 bytes. -/
def sensorOf (b : List Byte) : Sensor :=
  { kind := field b 0 1, bits := field b 1 1, countNm := field b 2 2, window := field b 4 4, dir := bit (field b 8 1) 0 }

/-- A descriptor's own rules (Table 09-3). -/
def sensorOk (b : List Byte) : Bool :=
  let x := sensorOf b
  x.kind ≤ 3 && field b 8 1 < 2 && zeros b 9 7
    && (if x.kind = 2 then 8 ≤ x.bits && x.bits ≤ 31 else x.bits = 0)
    && (if x.kind = 1 then 1 ≤ x.countNm else x.countNm = 0) && (x.kind ≠ 2 || x.window = 0)

/-- Queue a request of the head's own; a full queue is tried again in the next cycle (R164). -/
def Head.queueRequest (h : Head) (node op : Nat) (data : List Byte) (entry : Option Nat) : Option Head :=
  let b := h.branch (node / 32)
  if b.dyn.length ≥ 16 then none
  else some (h.setBranch (node / 32) fun b =>
    { b with dyn := b.dyn ++ [{ node, op, tag := b.nextTag, data, entry }], nextTag := (b.nextTag + 1) % 256 })

/-- An axis whose sensor descriptor the head asks a node for: a remote segment at a held position (R247). -/
def Head.hasDescriptor (h : Head) (a : Axis) : Bool :=
  h.commands && a.kind = .segment && !a.localStep && (h.position? (a.location % 1024)).any fun p => p.state = .held

/-- Ask a held node for the sensor descriptor of one of its axes (R247): READ_PARAM 0x0002, with the local index as the third
data byte; on a full queue it is due again in the next cycle (R164). DESIGN CHOICE (log 103). -/
def Head.readSensor (h : Head) (id : Nat) : Head := match h.axis? id with
  | none => h
  | some a =>
    if !h.hasDescriptor a then h.setAxis id fun a => { a with descDue := false }
    else match h.queueRequest (a.location % 1024) 0x02 (pack [(2, 0x0002), (1, bits a.location 12 10)]) none with
      | some h => h.setAxis id fun a => { a with descDue := false }
      | none => h.setAxis id fun a => { a with descDue := true }

/-- The descriptor reads that found no room are tried again (R164). -/
def Head.retryDescriptors (h : Head) : Head :=
  (h.axes.filter fun a => a.descDue).foldl (fun (h : Head) a => h.readSensor a.id) h

/-- SET_SENSOR (R247, R253): a held node is checked again at once, which a full queue of its branch refuses (R164). -/
def setSensorCmd : Command :=
  { blockCommand 0x0703 .configure 24 [.commission] true
      (fun p h => axisRefOk p false && ((targetAxis? p h).any fun a =>
        a.kind = .segment && sensorOk ((prm p).drop 8) && (a.linear || pu p 4 4 = 0)))
      (fun p h => [((targetAxis? p h).any fun a => epochStale p a, Status.epochStale),
        ((targetAxis? p h).any fun a => h.hasDescriptor a && (h.branch (a.location % 1024 / 32)).dyn.length ≥ 16, Status.busy)])
      (fun p h =>
        let h := h.setAxis p.target fun a =>
          { a with sensor := sensorOf ((prm p).drop 8), wOrigin := ps p 4 4, mismatch := false, source := {} }
        { head := h.readSensor p.target }) with
    stateOk := fun p h => h.inMode [.commission] && (targetAxis? p h).all fun a => a.state = .disabled }
def execSetSensor (p : Packet) (s : State) : Host.Outcome State Fault Refusal := hostExec setSensorCmd p s

/-- Largest BW and BW_RESCUE of an observer, 0.1 Hz (R255): the update rates ÷ 32. -/
def Head.bwLimits (h : Head) (target : Nat) : Nat × Nat :=
  match (subject? target h).bind fun s => s.axis? h with
  | some a => (h.rangeRate (h.range a.range) * 10 / 32, 80000 / 32 / max (h.range a.range).rescueDivisor 1)
  | none => (h.baseRate * 10 / 32, 65535)

/-- SET_OBSERVER (R252, R255, R257): in force from the observer's next update; a channel's stays with its head (R237). -/
def setObserverCmd : Command :=
  { opcode := 0x0704, cls := .configure, len := lenIs 20, mirrored := true
    own := fun p => p.target ≥ 0x2000
    stateOk := fun _ h => h.inMode [.commission, .service]
    paramOk := fun p h =>
      let (top, rescue) := h.bwLimits p.target
      (subject? p.target h).isSome && 10 ≤ pu p 0 2 && pu p 0 2 ≤ top
        && (p.target ≥ 0x2000 || (10 ≤ pu p 2 2 && pu p 2 2 ≤ rescue))
        && 40 ≤ pu p 4 4 && pu p 4 4 ≤ 4000000 && 4 ≤ pu p 8 4 && pu p 8 4 ≤ 400000 && 1 ≤ pu p 12 1 && pz p 13 3
        && (p.target < 256 || pu p 16 4 = 0)
    active := true
    effect := fun p h => { head := h.setObserver p.target fun o => { o with next := some {
      bw := pu p 0 2, bwRescue := if p.target ≥ 0x2000 then o.bwRescue else pu p 2 2, gate := pu p 4 4, agree := pu p 8 4
      predLimit := pu p 12 1, scaleOffset := ps p 16 4 } } } }
def execSetObserver (p : Packet) (s : State) : Host.Outcome State Fault Refusal := hostExec setObserverCmd p s

/-- GET_OBSERVER. -/
def getObserverCmd : Command :=
  observeCommand 0x0705 0 Head.fromCommission (fun p h => (subject? p.target h).isSome) (fun _ _ => []) fun p h =>
    match h.observer? p.target with
    | none => []
    | some o =>
      let excluded := match subject? p.target h with
        | some (.mover m) => ((h.mover? m).map fun x => h.sourceBits x fun s => (h.sourceRun s).excluded).getD 0
        | some (.rotary a) => flag (h.sourceRun a).excluded 0
        | some (.channel c) => flag (h.channel c).source.excluded 16
        | none => 0
      o.bytes ++ pack [(4, o.sources), (4, excluded)] ++ leInt 4 o.residual
        ++ pack [(2, o.windowErr), (2, o.stray), (1, flag o.clipped 0 + flag o.disagree 1), (3, 0)]
def execGetObserver (p : Packet) (s : State) : Host.Outcome State Fault Refusal := hostExec getObserverCmd p s

end Sys2Proof.Machine
end

