-- ==== Sys2Proof/Machine/Schedule.lean ====
section
/-! DEFINITION. Schedules: their layout and structure check (R142, R143), the timing check (R144, Table 05-6), switches and
their announcement (R128, R141). -/
namespace Sys2Proof.Machine

/-! ### Layout (Tables 05-2 to 05-5) -/

/-- The position entries that follow, with the bytes after them. -/
def readPositions : Nat → List Byte → Option (List PositionEntry × List Byte)
  | 0, bs => some ([], bs)
  | n + 1, bs =>
    if bs.length < 12 || field bs 0 1 > 1 || field bs 1 1 = 0 || field bs 1 1 > 8 || !zeros bs 2 2 then none
    else (readPositions n (bs.drop 12)).map fun r =>
      ({ spur := field bs 0 1 = 1, axes := field bs 1 1, identity := field bs 4 8 } :: r.1, r.2)

/-- A branch descriptor (Table 05-3): NODES, JOIN_ENABLE, SLOT, HOP. -/
def readDescriptor (bs : List Byte) : Option (Nat × Bool × Nat × Nat) :=
  let n := field bs 0 1
  let slot := field bs 2 2
  let hop := field bs 4 2
  if bs.length < 8 || n = 0 || n > 32 || field bs 1 1 > 1 || slot < 200 || slot > 4000 || hop < 16 || hop > 200
    || !zeros bs 6 2 then none
  else some (n, bit (field bs 1 1) 0, slot, hop)

/-- The position entries of the branches in turn. -/
def readBranches : List (Nat × Nat × Bool × Nat × Nat) → List Byte → Option (List BranchEntry × List Byte)
  | [], bs => some ([], bs)
  | (branch, n, join, slot, hop) :: rest, bs =>
    match readPositions n bs with
    | none => none
    | some (positions, bs) =>
      (readBranches rest bs).map fun r => ({ branch, join, slot, hop, positions } :: r.1, r.2)

/-- A schedule of the image and the bytes after it; none when its structure is refused (R143). -/
def readSchedule (bs : List Byte) : Option (Schedule × List Byte) :=
  let mask := field bs 24 4
  let numbers := (List.range 32).filter fun b => bit mask b
  let ds := numbers.mapIdx fun i b => (readDescriptor (bs.drop (64 + 8 * i))).map fun d => (b, d)
  let ok := 64 ≤ bs.length && 1 ≤ field bs 0 2 && field bs 2 1 ≤ 1 && field bs 3 1 ≤ 3
    && (field bs 2 1 = 0 || field bs 3 1 = 0) && 500 ≤ field bs 4 2 && field bs 4 2 ≤ 4000
    && 1000 ≤ field bs 6 2 && field bs 6 2 ≤ 60000 && 200 ≤ field bs 12 2 && field bs 12 2 ≤ 10000
    && 200 ≤ field bs 14 2 && field bs 14 2 ≤ 2000 && 1 ≤ field bs 16 1 && field bs 16 1 ≤ 32
    && 16 ≤ field bs 17 1 && field bs 17 1 ≤ 200 && 1 ≤ field bs 18 1 && field bs 19 1 ≤ 1
    && 8 ≤ field bs 20 2 && field bs 20 2 ≤ 4096 && zeros bs 22 2 && zeros bs 32 32
    && ds.all (fun d => d.isSome) && sumNat (ds.filterMap fun d => d.map fun x => x.2.1) = field bs 28 4
  if !ok then none
  else match readBranches (ds.filterMap id) (bs.drop (64 + 8 * numbers.length)) with
    | none => none
    | some (branches, bs') =>
      let words := (List.range 64).map fun t => field bs' (2 * t) 2
      if bs'.length < 128 || words.any fun w => bits w 7 1 ≠ 0 then none
      else some ({
        schedId := field bs 0 2, rescue := field bs 2 1 = 1, rate := field bs 3 1, upStart := field bs 4 2
        pipe := field bs 6 2, dynStart := field bs 8 4, join := field bs 12 2, mini := field bs 14 2
        miniCount := field bs 16 1, window := field bs 17 1, babbleLimit := field bs 18 1
        joinEnable := bit (field bs 19 1) 0, babbleWindow := field bs 20 2, branches
        tracks := words.map fun w => { check := bit w 0, endLow := bits w 11 8, endHigh := bits w 15 12 } }, bs'.drop 128)

/-- A rescue schedule names the branches, positions and AXES of the base schedule (R143). -/
def rescueMatches (base rescue : Schedule) : Bool :=
  base.branches.map (fun b => (b.branch, b.positions.map fun p => p.axes))
    = rescue.branches.map fun b => (b.branch, b.positions.map fun p => p.axes)

/-! ### Reading a schedule -/

def Schedule.branch? (s : Schedule) (b : Nat) : Option BranchEntry := s.branches.find? fun x => x.branch == b
def BranchEntry.axes (b : BranchEntry) (p : Nat) : Nat := (b.positions[p]?.map fun x => x.axes).getD 0
/-- The entry of a branch in the schedule in force. -/
def Head.branchEntry? (h : Head) (b : Nat) : Option BranchEntry := h.schedule?.bind fun s => s.branch? b
/-- A supervision schedule is in force (R141). -/
def Head.supervised (h : Head) : Bool := h.net.kind = .col || h.net.kind = .valley
/-- AXES of a node. -/
def Head.nodeAxes (h : Head) (node : Nat) : Nat := ((h.branchEntry? (node / 32)).map fun b => b.axes (node % 32)).getD 0
/-- The largest FU and FD of a branch, in tenths of a ns (R144). -/
def BranchEntry.fu (b : BranchEntry) : Nat := (b.positions.map fun p => upTime p.axes).foldl max 0
def BranchEntry.fd (b : BranchEntry) : Nat := (b.positions.map fun p => downTime p.axes).foldl max 0

/-- A channel of a branch. -/
def Branch.chan (b : Branch) (c : Nat) : Channel := if c = 0 then b.chanA else b.chanB
def Branch.setChan (b : Branch) (c : Nat) (f : Channel → Channel) : Branch :=
  if c = 0 then { b with chanA := f b.chanA } else { b with chanB := f b.chanB }
/-- A position's measured delay on a channel. -/
def Position.delay (p : Position) (c : Nat) : Option Nat := if c = 0 then p.delayA else p.delayB

/-! ### Timing check (Table 05-6) -/

/-- The items of Table 05-6 that hold of one branch; times in tenths of a ns. -/
def Head.branchItems (h : Head) (s : Schedule) (b : BranchEntry) : List (Nat × Bool) :=
  let n := b.positions.length
  let fu := b.fu
  let fd := b.fd
  let w := s.window * 10
  let last := b.slot * (n - 1) * 10
  let reach := b.hop * n * 10
  let bounded (d : Option Nat) (p : Nat) := d.all fun x => x ≤ b.hop * (p + 1)
  let delays := (h.branch b.branch).positions.zipIdx.all fun (x, p) =>
    x.state ≠ .held || ((h.sys.role = .solo && h.ownChannel = 1) || bounded x.delayA p)
      && ((h.sys.role = .solo && h.ownChannel = 0) || bounded x.delayB p)
  [ (1, fu + w ≤ b.slot * 10 && fd + w ≤ b.slot * 10),
    (2, delays && (h.sys.role = .solo || (h.branch b.branch).misplaced.isEmpty)),
    (3, fu + reach + 24000 ≤ s.pipe * 10),
    (4, s.upStart * 10 + last + fu + reach + w ≤ s.dynStart * 10),
    (5, (s.upStart + s.pipe) * 10 + last + fd + reach ≤ s.dynStart * 10),
    (6, frameTime 48 + 2 * reach + w ≤ s.join * 10),
    (7, frameTime 136 + w ≤ s.mini * 10),
    (8, s.dynStart + s.join + s.mini * s.miniCount + 1000 ≤ rateCycleNs s.rate),
    (10, h.axes.all fun a => a.kind = .mover || a.localStep || a.location % 1024 / 32 ≠ b.branch
      || bits a.location 12 10 < b.axes (a.location % 32)) ]

/-- Item 9: the gap between compute windows. -/
def windowGapOk (s : Schedule) : Bool :=
  let first := (s.branches.map fun b => b.fu + b.hop * 10).foldl min (10 ^ 9)
  let last := (s.branches.map fun b => (s.upStart + s.pipe - 400 + b.slot * (b.positions.length - 1)) * 10).foldl max 0
  last + 20000 ≤ (rateCycleNs s.rate + s.upStart) * 10 + first

/-- Bytes per cycle the active head puts on the saddle link (R29). -/
def Head.saddleLoad (h : Head) (s : Schedule) : Nat :=
  sumNat (s.branches.map fun b => sumNat (b.positions.map fun p => 12 * p.axes + 16 + 16 * p.axes)) + 64 * h.movers.length + 2048

/-- The segments of a track obey R135: its line in index order, end zones counted in segments of the line. -/
def Head.interleaved (h : Head) (t : Nat) (e : TrackEntry) : Bool :=
  let line := (h.line t).foldl (fun acc a => putKey Axis.segIndex a acc) []
  let free (i : Nat) := i < e.endLow || line.length ≤ i + e.endHigh
  (line.zip (line.drop 1)).zipIdx.all fun (p, i) => free i || free (i + 1) || p.2.segIndex ≠ p.1.segIndex + 1
    || p.1.location % 1024 / 32 ≠ p.2.location % 1024 / 32

/-- First branch on which an item fails. DEDUCED (log 49). -/
def failingBranch (item : Nat) : List (Nat × List (Nat × Bool)) → Option Nat
  | [] => none
  | (b, items) :: rest => if items.any fun i => i.1 = item && !i.2 then some b else failingBranch item rest

/-- The timing check of a schedule: the first failing item, with its branch or 0xFF for the system (R144).
DEDUCED (log 49). -/
def Head.checkTiming (h : Head) (s : Schedule) : CheckResult :=
  let per := s.branches.map fun b => (b.branch, h.branchItems s b)
  let listed := h.axes.all fun a => a.kind = .mover || a.localStep || (s.branch? (a.location % 1024 / 32)).isSome
  let item (i : Nat) : Option (Nat × Nat) := match i with
    | 9 => if windowGapOk s then none else some (9, 0xFF)
    | 10 => match failingBranch 10 per with
      | some b => some (10, b)
      | none => if listed then none else some (10, 0xFF)
    | 11 => if h.sys.role = .solo || h.saddleLoad s * 1000000000 ≤ 2250000000 * rateCycleNs s.rate then none else some (11, 0xFF)
    | 12 => if (s.tracks.zipIdx.all fun (e, t) => !e.check || h.interleaved t e) then none else some (12, 0xFF)
    | i => (failingBranch i per).map fun b => (i, b)
  match ((List.range 13).filterMap item).head? with
  | none => .passed
  | some (i, b) => .failed i b

/-! ### Switches (R128) -/

/-- KIND of GET_SCHEDULE and SCHED_KIND (Table 06-3). -/
def schedCode : SchedKind → Nat
  | .base => 0 | .rescue => 1 | .col => 2 | .valley => 3

/-- SCHED_ID that a kind reports (R141). -/
def Head.schedId (h : Head) (k : SchedKind) : Nat :=
  ((if k = .rescue then h.net.rescue else h.net.base).map fun s => s.schedId).getD 0

/-- The first cycle that 64 whole beacons announce, rounded up to a multiple (R128, Table 02-6). -/
def Head.switchCycle (h : Head) (multiple : Nat) : Nat :=
  (h.time.cycle + 65 + multiple - 1) / multiple * multiple

/-- Announce a switch; it waits while another is announced, unless a higher trigger replaces it (R35, R128).  A switch to the
rescue schedule takes a multiple of 4 at every base rate. DESIGN CHOICE (log 102). -/
def Head.announce (h : Head) (next : SchedKind) (park higher : Bool) : Head :=
  let s : SchedSwitch := { next, cycle := h.switchCycle (if next = .rescue then 4 else 1), park }
  if h.net.switch.isSome && !higher then { h with net := { h.net with waiting := h.net.waiting ++ [s] } }
  else { h with net := { h.net with switch := some s, waiting := if higher then [] else h.net.waiting } }

/-- The lanes of the branches turn off: electrical idle, every held position parked (R54). -/
def Head.lanesOff (h : Head) : Head :=
  { h with net := { h.net with
    running := false
    lanes := h.net.lanes.mapIdx fun i (l : Lane) => if i < 32 then { l with link := 3 } else l
    branches := h.net.branches.map fun b => { b with positions := b.positions.map fun p =>
      if p.state = .held then { p with parked := some 64 } else p } } }

/-- The derivative filter of every loop is loaded from the observer speed at a switch to or from RESCUE (R60). -/
def Head.reloadFilters (h : Head) : Head :=
  { h with axes := h.axes.map fun a =>
    if a.profiled then { a with loop := { a.loop with s := (speedWord (h.obsOf a).speed (h.vShift a)).1 } } else a }

/-- The standby head's branch lanes are in electrical idle under Valley, and run again after it (R141). -/
def Head.idleLanes (h : Head) (idle : Bool) : Head :=
  if idle then { h with net := { h.net with lanes := h.net.lanes.mapIdx fun i (l : Lane) => if i < 32 then { l with link := 3 } else l } }
  else h.trainLanes fun i => i < 32

/-- Another kind of schedule comes into force (R60, R128, R141). -/
def Head.enterKind (h : Head) (k : SchedKind) : Head :=
  let old := h.net.kind
  if k = old then h
  else
    let h := { h with net := { h.net with kind := k, baseRun := 0 } }
    let h := if k = .rescue || old = .rescue then h.reloadFilters else h
    if h.sys.role = .standby && (k = .valley || old = .valley) then h.idleLanes (k = .valley) else h

/-- The announced switch takes effect at the opening of its cycle: SCHEDULE_SWITCHED, and the next one that waits is
announced (R128). -/
def Head.applySwitch (h : Head) (s : SchedSwitch) : Head :=
  let old := h.net.kind
  let waiting := h.net.waiting
  let h := { h with net := { h.net with switch := none, waiting := [], switched := some s.cycle } }
  let h := if s.park then h.lanesOff else
    let h := h.enterKind s.next
    h.postAt 0x0404 0 0xFFFF h.now s.cycle
      (pack [(2, h.schedId s.next), (2, h.schedId old), (1, schedCode s.next), (1, schedCode old)])
  match waiting with
  | [] => h
  | w :: rest =>
    let h := h.announce w.next w.park false
    { h with net := { h.net with waiting := rest } }

/-- SCHEDULE_SWITCH: the switch cycle opens (R128). -/
def execScheduleSwitch (s : State) : Host.Outcome State Fault Refusal :=
  eventExec true (fun h => match h.net.switch with
    | some w =>
      if w.cycle ≤ h.time.cycle + 1 then
        let length := h.cycleNs
        let h := h.applySwitch w
        if w.cycle = h.time.cycle + 1 then { h with net := { h.net with closing := some length } } else h
      else h
    | none => h) s

/-- Every scheduled position is HELD or SPUR (R136, Table 02-4). -/
def Head.networkComplete (h : Head) : Bool :=
  h.net.base.isSome && h.net.branches.all fun b => b.positions.all fun p => p.state ≠ .unlocked

/-- NETWORK_BUILD_END: the timing check of each schedule (R144); NETWORK_INCOMPLETE stands while a position is OPEN. -/
def execNetworkBuildEnd (s : State) : Host.Outcome State Fault Refusal :=
  eventExec true (fun h =>
    if h.sys.mode ≠ .commission || h.sys.built then h
    else
      let check (x : Option Schedule) : CheckResult := match x with
        | some s => h.checkTiming s
        | none => .notRun
      let base := check h.net.base
      { h with
        sys := { h.sys with built := true, checked := base = .passed }
        compute := { h.compute with changed := true, afterBuild := true }
        net := { h.net with checkBase := base, checkRescue := check h.net.rescue } }) s

end Sys2Proof.Machine
end

