-- ==== Sys2Proof/Machine/Calendar.lean ====
section
/-! DEFINITION. The contour calendar's evaluation (R190-R192, R194, R196, R198), which follows the observers, and the row
MOVER_CUTOFF that updates a mover's observer. -/
namespace Sys2Proof.Machine

/-- Position `ns` after the reading that the estimate stands for, in units with 8 fraction bits (R190). -/
def Observer.ahead (o : Observer) (ns : Nat) : Int :=
  roundDiv (o.x * 2000000000000000000 + o.v * ns * 2000000000 + o.a * 256 * ns * ns) 512000000000000000000

/-- Cycles since the axis's range last took its turn (R28). -/
def Head.sinceTurn (h : Head) (a : Axis) : Nat :=
  let d := max (h.divisorOf a.range) 1
  (h.time.cycle + d - a.place.phase % d) % d

/-- Does the calendar evaluate (R190, R198)? -/
def Head.calendarRuns (h : Head) : Bool :=
  h.commands && h.net.running
    && ((h.inMode [.commission, .service, .rescue] && !h.supervised) || (h.sys.mode = .idle && h.net.kind = .base))

/-- Does a coordinate cross on the path from `x1` to `x2`, both with 8 fraction bits (R191)? -/
def crossesPath (dir : Nat) (coord x1 x2 : Int) : Bool :=
  let c := coord * 256
  let up : Bool := x1 < c && c ≤ x2
  let down : Bool := x1 > c && c ≥ x2
  if dir = 1 then up else if dir = 2 then down else up || down

/-- t* less the opening of its cycle, in ns, rounded down (R191). -/
def crossingNs (c : Nat) (coord x1 x2 : Int) : Nat := (coord * 256 - x1).natAbs * c / (x2 - x1).natAbs

/-- A WAITING entry returns to ARMED at an estimate (16 fraction bits) that lies HYST on the near side (R192). -/
def rearms (dir : Nat) (coord : Int) (hyst : Nat) (x : Int) : Bool :=
  let c := coord * 65536
  let d : Int := (hyst * 65536 : Nat)
  if dir = 1 then x ≤ c - d else if dir = 2 then x ≥ c + d else d ≤ (x - c).natAbs

/-- An entry against a mover's path: the entry as it now stands, and how it fired (R191, R192, R196, R198). -/
def Head.evaluateEntry (h : Head) (m : Mover) (e : CalEntry) (x1 x2 : Int) (since : Option Int) :
    CalEntry × Option Fired :=
  let e := if e.state = .waiting && rearms e.dir e.coord e.hyst m.here then { e with state := .armed } else e
  if e.state ≠ .armed then (e, none)
  else
    let here := crossesPath e.dir e.coord x1 x2
    let earlier : Bool := e.missed || since.any fun x => crossesPath e.dir e.coord x x2
    if here || earlier then
      (e, some { entry := e, offset := if here then crossingNs h.cycleNs e.coord x1 x2 else 0
                 predicted := m.obs.state = .predicting, late := e.missed || since.isSome })
    else (e, none)

/-- Insert by crossing instant, a tie going to the lower entry number (R196). -/
def insertFired (f : Fired) : List Fired → List Fired
  | [] => [f]
  | g :: rest =>
    if f.offset < g.offset || (f.offset = g.offset && f.entry.entry < g.entry.entry) then f :: g :: rest
    else g :: insertFired f rest

/-- What REARM makes of a fired entry, with its counts (R192, GET_CONTOUR). -/
def Head.spend (h : Head) (e : CalEntry) : Head :=
  if e.rearm then
    h.putEntry { e with state := .waiting, fired := satInc (2 ^ 32 - 1) e.fired, last := h.time.cycle + 1, missed := false }
  else h.freeEntry e.entry

/-- Does the entry's mover axis stand in BELAY (R198)? -/
def Head.moverBelayed (h : Head) (mover : Nat) : Bool :=
  (h.mover? mover).any fun m => (h.axis? m.axis).any fun a => a.state = .belay

/-- A fired NODE_ACTION joins its branch's queue in cycle k (R193, R194, R197, R198). -/
def Head.queueAction (h : Head) (f : Fired) : Head :=
  let e := f.entry
  let node := field e.param 0 2
  let cycle := h.time.cycle + 1
  let offset := min 63 (roundDiv (f.offset * 64) h.cycleNs).toNat
  let data := pack [(1, offset), (1, field e.param 2 1), (2, field e.param 4 2), (1, cycle % 256)] ++ e.param.drop 6
  if h.moverBelayed e.mover then h.contourFailed e.mover e.entry 2
  else if (h.position? node).isNone then h.contourFailed e.mover e.entry 1
  else match h.queueRequest node 0x04 data (some e.entry) with
    | none => h.contourFailed e.mover e.entry 4
    | some h => { h with cal := { h.cal with actions := h.cal.actions ++
        [{ entry := e.entry, mover := e.mover, node, code := field e.param 4 2, cyc8 := cycle % 256, cycle := h.time.cycle }] } }

/-- The path of a mover in the next cycle: x₁, x₂, and after a takeover the last x̂ that the other head mirrored
(R190, R198). DEDUCED (log 21). DEDUCED (log 93). -/
def Head.moverPath (h : Head) (m : Mover) : Int × Int × Option Int :=
  let behind := ((h.axis? m.axis).map fun a => h.sinceTurn a).getD 0 * h.cycleNs
  (m.obs.ahead (behind + h.cycleNs), m.obs.ahead (behind + 2 * h.cycleNs),
    if h.peer.calResume then m.calX.map fun x => x * 256 else none)

/-- The calendar's evaluation in cycle k (R190-R192, R196): at most 256 entries fire, and those beyond keep what
they missed.  A mover without a fix crosses nothing (R256). DEDUCED (log 21, log 93). -/
def Head.evaluateCalendar (h : Head) : Head :=
  let h := { h with cal := { h.cal with evaluated := true } }
  if !h.calendarRuns then h
  else
    let (h, fired) := h.cal.entries.foldl (init := (h, ([] : List Fired))) fun (acc : Head × List Fired) (e : CalEntry) =>
      match acc.1.mover? e.mover with
      | none => acc
      | some m =>
        if m.track ≠ e.track || m.obs.state = .noFix then acc
        else
          let (x1, x2, since) := h.moverPath m
          let (e', f) := acc.1.evaluateEntry m e x1 x2 since
          (if e' = e then acc.1 else acc.1.putEntry e', match f with
            | some f => insertFired f acc.2
            | none => acc.2)
    let now := fired.take 256
    let h := (fired.drop 256).foldl (init := h) fun (h : Head) (f : Fired) =>
      h.putEntry { f.entry with missed := true }
    let h := now.foldl (init := h) fun (h : Head) (f : Fired) =>
      let h := h.spend f.entry
      if f.entry.action = 7 then h.queueAction f else h
    { h with
      cal := { h.cal with fired := h.cal.fired ++ now }
      peer := { h.peer with calResume := false }
      movers := h.movers.map fun m => { m with calX := some m.centre } }

end Sys2Proof.Machine
end

