-- ==== Sys2Proof/Machine/Mirror.lean ====
section
/-! DEFINITION. What one axis or mover gives the mirror (Tables 08-5, 12-6, 15-4, 15-5), the sections an active head sends
(R379, R381), and how the records are read again (R383). -/
namespace Sys2Proof.Machine

/-! ### Loop state (Table 08-5) -/

def Loop.bytes (l : Loop) : List Byte :=
  leInt 4 l.ix ++ leInt 4 l.iv ++ leInt 3 l.s ++ leInt 3 l.lastCmd ++ leBytes 2 l.sticky.toNat

/-- The loop state as its axis reads it: a linear segment uses LAST_CMD and STICKY only (R225). -/
def Axis.loopBytes (a : Axis) : List Byte :=
  if a.linear then ({ lastCmd := a.loop.lastCmd, sticky := a.loop.sticky } : Loop).bytes else a.loop.bytes

/-- Loop state read from its 16 bytes. -/
def Loop.read (l : Loop) (b : List Byte) : Loop :=
  { l with ix := sfield b 0 4, iv := sfield b 4 4, s := sfield b 8 3, lastCmd := sfield b 11 3
           sticky := BitVec.ofNat 16 (field b 14 2) }

def moveCode : MoveState → Nat
  | .idle => 0 | .moving => 1 | .stopping => 2 | .faultStop => 3
def moveOf : Nat → MoveState
  | 1 => .moving | 2 => .stopping | 3 => .faultStop | _ => .idle

/-! ### Stepper axes (Tables 12-6 and 15-5) -/

def stepCode : StepState → Nat
  | .idle => 0 | .moving => 1 | .stopping => 2 | .homing => 3
def stepOf : Nat → StepState
  | 1 => .moving | 2 => .stopping | 3 => .homing | _ => .idle

/-- The field input that a stepper axis names: 0 LIMIT_POS, 1 LIMIT_NEG, 2 HOME_INPUT. -/
def Stepper.inputOf (s : Stepper) : Nat → Nat
  | 0 => s.cfg.limitPos | 1 => s.cfg.limitNeg | _ => s.cfg.homeInput

/-- A named input is active: at its active level, or chattering while CHATTER is latched (R334, R338). -/
def Head.stepInput (h : Head) (s : Stepper) (k : Nat) : Bool :=
  let n := s.inputOf k
  n < 32 && ((s.flags.getLsbD 7 && h.latched (srcInput n) 2) || (h.fieldIn n).level = bit s.cfg.inputLevel k)

/-- STEP_FLAGS: the latched bits with the conditions that stand (Table 12-6). -/
def Head.stepFlags (h : Head) (a : Axis) : Nat :=
  let s := a.step
  let vel := (s.at h.now).2
  (s.flags &&& 0x1FC1).toNat + flag (!s.atRest) 1 + flag (vel < 0) 2 + flag (h.stepInput s 0) 3 + flag (h.stepInput s 1) 4
    + flag (s.amplitude = s.cfg.iMax) 5

/-- A stepper's mirror record (Table 15-5). -/
def Head.stepRecord (h : Head) (a : Axis) : List Byte :=
  let (p, v) := a.step.at h.now
  leInt 4 (roundDiv p 65536) ++ leInt 4 v ++ leInt 4 a.step.target
    ++ pack [(2, h.stepFlags a), (1, stepCode a.step.state), (1, 0)]

/-! ### Sections -/

/-- A mirror section of this cycle: kept for the heartbeat's MIRROR_CRC, and sent (R379, R380). -/
def Head.mirror (h : Head) (kind count first : Nat) (body : List Byte) : Head :=
  if h.sys.role = .active then
    ({ h with peer := { h.peer with sections := h.peer.sections ++ [body] } }).sendSection kind count first body
  else h

/-- The axis at a local index of a node, local steppers apart (LOCATION, R99). -/
def Head.axisAt? (h : Head) (node i : Nat) : Option Axis :=
  h.axes.find? fun a => a.kind ≠ .mover && !a.localStep && a.location % 8192 = node + 1024 * i

/-- The AXIS section of a node (R381). -/
def Head.mirrorNode (h : Head) (node axes : Nat) : Head :=
  h.mirror 2 axes node <| (List.range axes).foldl (init := []) fun acc i => acc ++ match h.axisAt? node i with
    | some a => if a.kind = .stepper then h.stepRecord a else a.loopBytes
    | none => List.replicate 16 0

/-- The profile generator's TARGET of a mirror record, units. -/
def Motion.goal (m : Motion) : Int := match m.waitTarget, m.plan with
  | some t, _ => t
  | none, some p => p.target
  | none, none => roundDiv m.xSet 65536

/-- The MOVER record of a mover axis or rotary axis (Table 15-4). -/
def Head.moverRecord (h : Head) (a : Axis) : List Byte :=
  let mover := h.moverOfAxis? a.id
  let m := a.motion
  let ends := mover.bind fun x => runEnds (h.held x.id)
  let count := (mover.map fun x => (h.held x.id).length).getD 0
  let dwell := match m.dwellEnd with
    | some e => min 60000 ((h.now + m.holdDwell * 1000000 - e) / 1000000)
    | none => 60000
  (h.obsOf a).bytes ++ a.loop.bytes ++ leInt 6 m.xSet ++ leInt 4 m.vSet ++ leInt 4 m.aSet ++ leInt 4 m.goal
    ++ pack [(1, moveCode m.move + 4 * m.set + flag m.brakeRelease 4), (1, count), (2, (ends.map fun e => e.1).getD 0xFFFF),
      (1, (mover.map fun x => x.track).getD 0xFF), (1, match a.state with | .disabled => 0 | .enabled => 1 | .belay => 2),
      (2, match mover with | some x => x.id | none => 0x1000 + a.id), (2, dwell)]

/-- Send the MOVER record of an axis whose graph has committed (R381). -/
def Head.mirrorMover (h : Head) (a : Axis) : Head := h.mirror 3 1 0 (h.moverRecord a)

/-! ### Claims (R375) -/

/-- Is one claim greater than another? -/
def claimGreater (c d : Nat) : Bool :=
  let n := (c / 16 % 4096 + 4096 - d / 16 % 4096) % 4096
  (1 ≤ n && n ≤ 2047) || (n = 0 && c % 16 > d % 16)

/-- A valid uplink frame carries this claim: its epoch is remembered for 64 cycles (R388), and a claim greater than the
own one is counted, by cycles, toward deposition (R392). -/
def Head.noteClaim (h : Head) (claim : Nat) : Head :=
  let k := h.time.cycle
  let seen := (claim / 16, k) :: h.peer.seen.filter fun s => s ≠ (claim / 16, k) && s.2 + 64 > k
  let run := h.peer.deposeRun
  let run := if h.commands && claimGreater claim h.claim then
      (if run.2 = k && run.1 > 0 then run else if run.2 + 1 = k then (run.1 + 1, k) else (1, k))
    else run
  { h with peer := { h.peer with seen, deposeRun := run } }

end Sys2Proof.Machine
end

