-- ==== Sys2Proof/Machine/StepCore.lean ====
section
/-! DEFINITION. What the stepper axes do in each cycle of their range: load angle and current (R327-R329), the rate multiplier
and its pulses (R319-R321), coil drive (R322), and the values of a MICROSTEP record (R324, R326). -/
namespace Sys2Proof.Machine

/-! ### Load angle and current -/

/-- The encoder count of a stepper axis at the last cycle trigger, when it is valid (R327): its channel's latched count, or
POSITION of its uplink record. -/
def Head.encoder? (h : Head) (a : Axis) : Option Int :=
  if !a.step.cfg.encoder then none
  else if a.localStep then
    (h.channels.find? fun c => c.cfg.use = 1 && c.cfg.owner = a.id).bind fun c =>
      if c.obs.lost || c.flags &&& 0x100 ≠ 0 then none else some (toSigned 32 c.latched)
  else match a.uplink with
    | some r => if bit (field r 0 3) 16 && !bit (field r 16 4) 10 && !a.mismatch then
        some (if a.sensor.dir then -(sfield r 9 4) else sfield r 9 4) else none
    | none => none

/-- Encoder counts in microsteps (R327). -/
def Stepper.encoderSteps (s : Stepper) (enc : Int) : Int := roundDiv (gainMul s.cfg.encScale enc) (2 ^ 20)

/-- λ at the sample instant, none when unknown (R327). -/
def Head.loadAngle (h : Head) (a : Axis) : Option Int :=
  (h.encoder? a).map fun enc =>
    roundDiv (a.step.at h.time.cycleStart).1 65536 - a.step.encoderSteps enc - a.step.encOffset

/-- The amplitude aimed at (R97, R328). -/
def Head.targetAmplitude (h : Head) (a : Axis) (lambda : Option Int) : Int :=
  let c := a.step.cfg
  let held := !a.step.atRest || a.step.lastMotion.any fun t => h.now < t + c.holdDelay * 1000000
  if (h.range a.range).state = .stopped || !held then c.iHold
  else match lambda with
    | none => c.iMax
    | some x =>
      let span := max (c.lambdaHigh - c.lambdaLow) 1
      let above := min (x.natAbs - c.lambdaLow) span
      c.iMin + roundDiv ((c.iMax - c.iMin) * above) span

/-- Current, stall run and ENC_LOST of one cycle of the range (R327-R329). -/
def Head.stepCurrent (h : Head) (a : Axis) : Head :=
  let c := a.step.cfg
  let lambda := h.loadAngle a
  let target := h.targetAmplitude a lambda
  let fall := (c.iMax - c.iMin) / 64
  let amplitude := if target ≥ a.step.amplitude then target else max target (a.step.amplitude - fall)
  let stalled : Bool := amplitude = c.iMax && lambda.any fun x => x.natAbs > c.lambdaStall
  h.setStep a.id fun s => { s with
    lambda, amplitude
    stallRun := if stalled then satInc 255 s.stallRun else 0
    lastMotion := if s.atRest then s.lastMotion else some h.now
    flags := if c.encoder && lambda.isNone then s.flags ||| 0x800 else s.flags }

/-! ### Records of remote axes -/

/-- INDEX, AMPLITUDE and DELTA of a record that applies from `t` on (R324, R326), with the sense of INVERT_DIR (R317). -/
def Stepper.recordValues (s : Stepper) (t cycle : Nat) (amplitude : Int) : List Byte :=
  let sense (x : Int) : Int := if s.cfg.invertDir then -x else x
  let p := sense (s.at t).1
  let q := sense (s.at (t + cycle)).1
  leInt 3 (roundDiv p 65536 % 1024) ++ leInt 3 amplitude ++ leInt 3 (roundDiv (q - p) 256)

/-- The command of an axis that holds position in a STOPPED range (R97). -/
def Stepper.standstill (s : Stepper) : List Byte :=
  let p := if s.cfg.invertDir then -s.pos else s.pos
  leInt 3 (roundDiv p 65536 % 1024) ++ leInt 3 s.cfg.iHold ++ leInt 3 0

/-! ### The rate multiplier -/

/-- ACC at an instant of the interval that runs, or of the one before it (R319). -/
def StepChannel.accAt (c : StepChannel) (t : Nat) : Int :=
  if t < c.opened then c.acc - c.before * ((c.opened - t + 9) / 10 : Nat) else c.acc + c.vel * min ((t - c.opened) / 10) c.ticks

/-- Ticks in an interval of head time (R320). -/
def ticksOf (ns : Nat) : Nat := (roundDiv ns 10).toNat

/-- VEL for an interval of `n` ticks that begins at `acc` and ends at a position with 16 fraction bits (R320). -/
def velFor (p acc : Int) (n : Nat) : Int := (p * 65536 - acc) / (max n 1 : Nat)

/-- Ticks, counted from 1, at which the microstep position crosses a multiple of 2^shift (R321). -/
def crossTicks (acc vel : Int) (n shift : Nat) : List Nat :=
  let m : Int := 2 ^ (32 + shift)
  let a := acc / m
  let b := (acc + vel * n) / m
  if vel > 0 then (List.range (b - a).toNat).map fun (k : Nat) => (((a + 1 + k) * m - acc + vel - 1) / vel).toNat
  else if vel < 0 then (List.range (a - b).toNat).map fun (k : Nat) => ((acc - (a - k) * m) / (-vel)).toNat + 1
  else []

/-- One STEP pulse due at an instant: delayed as R321 asks, or lost when two already wait. -/
def StepChannel.pulse (c : StepChannel) (cfg : StepperCfg) (due : Nat) : StepChannel × Bool :=
  let afterDir := (c.dirAt.map fun t => t + cfg.dirSetup * 10).getD 0
  let afterStep := (c.stepAt.map fun t => t + 2 * cfg.stepWidth * 10).getD 0
  let rise := max due (max afterDir afterStep)
  let waiting := c.delayed.filter fun t => t > due
  if rise > due && waiting.length ≥ 2 then ({ c with delayed := waiting }, false)
  else ({ c with delayed := if rise > due then waiting ++ [rise] else waiting, stepAt := some rise }, true)

/-- Every pulse of an interval; `true` when one was lost. -/
def Head.emitPulses (h : Head) (n : Nat) (cfg : StepperCfg) (dues : List Nat) : Head × Bool :=
  dues.foldl (init := (h, false)) fun (acc : Head × Bool) due =>
    let c := acc.1.steps.getD n {}
    let (c', sent) := c.pulse cfg due
    let h : Head := { acc.1 with steps := setAt n (fun _ => c') acc.1.steps }
    if sent then (h.emit (.stepPulse n (c'.dir = cfg.invertDir)), acc.2) else (h, true)

/-- V_BUS in µV (R322). -/
def Head.busVoltage (h : Head) (c : StepperCfg) : Nat :=
  if c.vbusInput = 0xFF then c.vbusNom * 10000
  else match h.acq.latest.find? fun l => l.code = c.vbusInput with
    | some l => c.vbusFs * 10000 * l.raw.toNat / 65535
    | none => 0

/-- An entry of a channel's microstep table (R322). -/
def Head.microstep (h : Head) (table : Nat) (j : Nat) : Int :=
  if table = 0 then cosTurn (j % 1024 * 2 ^ 14) else (h.microsteps.getD (table - 1) []).getD (j % 1024) 0

/-- Duties PA1, PA2, PB1, PB2 in ticks, and whether a voltage was clamped (R322). -/
def Head.coilDuties (h : Head) (a : Axis) (acc vel : Int) : (Nat × Nat × Nat × Nat) × Bool :=
  let c := a.step.cfg
  let sense (x : Int) : Int := if c.invertDir then -x else x
  let j := (sense (acc / 2 ^ 32) % 1024).toNat
  let x := h.microstep c.table j
  let y := h.microstep c.table (j + 256)
  let ir : Int := a.step.amplitude * c.iFs * c.rCoil
  let e : Int := roundDiv (c.ke * sense vel * 100000000) (2 ^ 40)
  let bus : Int := (max (h.busVoltage c) 1 : Nat)
  let u (n : Int) := clampTo (-(2 ^ 23)) (2 ^ 23) (roundDiv n bus.toNat)
  let ua := u (roundDiv (ir * x) (2 ^ 23) - e * y)
  let ub := u (roundDiv (ir * y) (2 ^ 23) + e * x)
  let ticks (v : Int) : Nat := (roundDiv (c.pwmPeriod * (2 ^ 23 + v)) (2 ^ 24)).toNat
  ((ticks ua.1, ticks (-ua.1), ticks ub.1, ticks (-ub.1)), ua.2 || ub.2)

/-- What an interval drives on a channel's balls from `t` on (R321, R322): DIR at a change of VEL's sign, pulses, duties. -/
def Head.driveStep (h : Head) (a : Axis) (t : Nat) : Head :=
  let n := a.stepChannel
  let cfg := a.step.cfg
  let c := h.steps.getD n {}
  let dir := if c.vel = 0 then c.dir else (c.vel < 0) ≠ cfg.invertDir
  let c := if cfg.mode = 2 && dir ≠ c.dir then { c with dir, dirAt := some t } else c
  let h : Head := { h with steps := setAt n (fun _ => c) h.steps }
  if cfg.mode = 2 then
    let (h, lost) := h.emitPulses n cfg ((crossTicks c.acc c.vel c.ticks cfg.stepShift).map fun i => t + 10 * i)
    if lost then (h.setStep a.id fun s => { s with flags := s.flags ||| 0x400 }).raise (srcAxis a.id) 11 else h
  else if cfg.mode = 1 then
    let (duty, limited) := h.coilDuties a c.acc c.vel
    let h : Head := { h with steps := setAt n (fun c => { c with duty }) h.steps }
    if limited then h.setStep a.id fun s => { s with flags := s.flags ||| 0x200 } else h
  else h

/-- The range trigger of a local axis: ACC is latched, and the VEL written for this interval is taken; until the next is written
the channel goes on at it (R320, R326). -/
def Head.stepInterval (h : Head) (a : Axis) : Head :=
  let t := h.time.cycleStart
  let n := ticksOf (h.rangeNs a.range)
  let h : Head := { h with steps := setAt a.stepChannel (fun c =>
    { c with acc := c.acc + c.vel * c.ticks, before := c.vel, vel := c.next, ticks := n, opened := t }) h.steps }
  h.driveStep a t

/-- The head writes the VEL of the next interval, from the plan at its end (R320). -/
def Head.writeVel (h : Head) (a : Axis) : Head :=
  let ns := h.rangeNs a.range
  let n := ticksOf ns
  { h with steps := setAt a.stepChannel (fun c =>
      { c with next := velFor (a.step.at (c.opened + 2 * ns)).1 (c.acc + c.vel * c.ticks) n }) h.steps }

/-- A move that starts inside an interval: a partial interval to the next range trigger, and the one after it (R320). -/
def Head.stepPartial (h : Head) (a : Axis) (t : Nat) : Head :=
  let ns := h.rangeNs a.range
  let h : Head := { h with steps := setAt a.stepChannel (fun c =>
    let stop := c.opened + ns
    let acc := c.accAt t
    let n := ticksOf (stop - t)
    let vel := velFor (a.step.at stop).1 acc n
    let m := ticksOf ns
    { c with acc, before := c.vel, vel, ticks := n, opened := t, next := velFor (a.step.at (stop + ns)).1 (acc + vel * n) m }) h.steps }
  h.driveStep a t

/-- The command of a stepper axis's cycle: current and load angle (R327-R329), and a local channel's VEL (R320). -/
def Head.stepCommandOf (h : Head) (a : Axis) : Head :=
  let h := h.stepCurrent a
  match h.axis? a.id with
  | none => h
  | some a => if a.localStep && !h.stepHeldLow a then h.writeVel a else h

/-- A local bridge computes its phase voltages once per PWM period, from the table index at its start; the periods count from
head time 0 (R322). DESIGN CHOICE (log 107). -/
def Head.pwmPeriods (h : Head) (before : Nat) : Head :=
  (List.range 8).foldl (init := h) fun (h : Head) n => match h.axes.find? fun a => a.localStep && a.stepChannel = n with
    | none => h
    | some a =>
      let period := max (a.step.cfg.pwmPeriod * 10) 1
      if a.step.cfg.mode ≠ 1 || h.stepHeldLow a || h.now / period = before / period then h
      else
        let c := h.steps.getD n {}
        let (duty, limited) := h.coilDuties a (c.accAt (h.now / period * period)) c.vel
        let h : Head := { h with steps := setAt n (fun c => { c with duty }) h.steps }
        if limited then h.setStep a.id fun s => { s with flags := s.flags ||| 0x200 } else h

end Sys2Proof.Machine
end

