-- ==== Sys2Proof/Machine/Beacons.lean ====
section
/-! DEFINITION. What Geunet does at the opening of a cycle: cuts and restores (R133, R134), lane calibrations (R162, R163),
silence counts (R165), beacons and their extension entries (R125-R127, R139, R152, R153), and the rows they need. -/
namespace Sys2Proof.Machine

/-! ### Channels -/

/-- Is a channel of a branch this head's own? -/
def Head.isOwn (h : Head) (c : Nat) : Bool := h.ownChannel = c

/-- Whether a channel carries anything: never the other channel of a SOLO head (R122), and under Valley only the active
head's (R141), unless a standby head has restarted its lanes (Table 15-7). -/
def Head.channelUsed (h : Head) (c : Nat) : Bool :=
  h.net.running && (h.isOwn c || h.sys.role ≠ .solo)
    && (h.net.kind ≠ .valley || (h.isOwn c = h.commands) || (h.isOwn c && h.peer.restarted))

/-- STATE_A and STATE_B of GET_BRANCH. -/
def Head.channelState (h : Head) (b c : Nat) : Nat :=
  let x := (h.branch b).chan c
  if h.sys.role = .solo && !h.isOwn c then 0
  else if x.calState = 3 then 4
  else if x.cut then 2
  else if !h.channelUsed c then 3
  else 1

/-! ### Extension entries (R138-R140, R153) -/

/-- Bytes of an entry (Table 06-4). -/
def ExtEntry.bytes (e : ExtEntry) : List Byte :=
  let half (d : Option Nat) : Nat := match d with
    | some d => (roundDiv d 2).toNat % 4096
    | none => 0xFFF
  if e.kind = 1 then
    pack [(1, 1), (1, e.position), (2, e.identity % 65536), (3, half e.delayA + 4096 * half e.delayB), (1, e.effective % 256)]
  else pack [(1, e.kind + 16 * e.reason), (1, e.position), (2, if e.kind = 2 then e.identity % 65536 else 0), (4, 0)]

/-- Is an entry still to be sent? -/
def ExtEntry.due (e : ExtEntry) : Bool := e.sent < 8

/-- Add an entry; a later decision for a position replaces the grant or revocation that is pending (R140). -/
def Branch.addExt (b : Branch) (e : ExtEntry) : Branch :=
  { b with ext := (b.ext.filter fun x => e.kind = 2 || x.kind = 2 || x.position ≠ e.position) ++ [e] }

/-- The entry the next beacon carries: each pending one in its turn (R139). -/
def Branch.nextExt (b : Branch) : Option ExtEntry := b.ext.find? fun e => e.due

/-- The branch after a beacon of cycle `k` carried that entry: it goes to the end of the turn; a refusal sent 8 times is gone,
and a revocation sent 8 times completes in the cycle that follows (R145). -/
def Branch.sentExt (b : Branch) (k : Nat) : Branch := match b.nextExt with
  | none => b
  | some e =>
    let e' := { e with sent := e.sent + 1, effective := if e.kind = 3 then k + 1 else e.effective }
    let rest := b.ext.filter fun x => x ≠ e
    { b with ext := if e'.kind = 2 && !e'.due then rest else rest ++ [e'] }

/-- Begin a revocation of a position (R145, R165). -/
def Head.revoke (h : Head) (node : Nat) : Head :=
  h.setBranch (node / 32) fun b => b.addExt { kind := 3, position := node % 32, reason := 0, identity := 0
                                              delayA := none, delayB := none, effective := 0, sent := 0 }

/-! ### Beacons (Table 06-3) -/

/-- Claims are admitted on a branch by this beacon (R136, R141, R143): the branch bit and the header bit of the schedule in
force are set. -/
def Head.joinOpen (h : Head) (b : Nat) : Bool :=
  !h.supervised && (if h.net.kind = .rescue then (h.branch b).joinRescue else (h.branch b).joinMask)
    && (h.schedule?.any fun s => s.joinEnable)

/-- BELAY_MASK: every range at S4 and in SAFE (Table 16-3). -/
def Head.belayMask (h : Head) : Nat :=
  if h.deviceBelay then 0xFF else sumNat ((List.range 8).map fun r => flag ((h.range r).state = .belay) r)

/-- Length of a calibration's silence in cycles (R163). -/
def Head.silenceCycles (h : Head) : Nat := (100000 + h.cycleNs - 1) / h.cycleNs

/-- The payload of a beacon of branch `b` on channel `c`. -/
def Head.beaconPayload (h : Head) (b c txOffset : Nat) (backup : Bool) : List Byte :=
  let x := h.branch b
  let chan := x.chan c
  let ext := if backup then none else x.nextExt
  let sw := if backup then none else h.net.switch.filter fun s => !s.park
  let park := !backup && h.net.switch.any fun s => s.park
  let mask := if backup then h.net.peerBelayMask else h.belayMask
  let cal := if chan.calState = 2 then chan.calLeft + 8 * h.silenceCycles else 0
  let bflags := flag backup 0 + flag (!backup && h.joinOpen b) 1 + flag chan.cut 2 + flag park 3 + flag ext.isSome 4 + flag sw.isSome 5
  pack [(1, b), (1, bflags), (2, txOffset), (2, h.schedId h.net.kind), (1, mask), (1, cal),
    (2, (sw.map fun s => h.schedId s.next).getD 0), (6, (sw.map fun s => s.cycle).getD 0), (6, h.time.cycle),
    (1, schedCode h.net.kind + 4 * (sw.map fun s => schedCode s.next).getD 0), (1, 0), (8, h.time.cycleStart)]
    ++ (ext.map ExtEntry.bytes).getD []

def Head.beacon (h : Head) (b c txOffset : Nat) (backup : Bool) : List Byte :=
  h.frame FrameType.beacon 0 0 c (h.beaconPayload b c txOffset backup)

/-- Branches of the schedule in force. -/
def Head.branchNumbers (h : Head) : List Nat := (h.schedule?.map fun s => s.branches.map fun b => b.branch).getD []

/-- The active head's beacons of one branch: on its own channel, and the counterpart to the standby head (R126); a channel in
its silence carries none (R163).  A cycle in which no beacon left for the branch counts for no extension entry (R139). -/
def Head.sendBeacon (h : Head) (b : Nat) : Head :=
  let own := h.ownChannel
  let first : Bool := ((h.branch b).chan own).calState ≠ 3
  let second : Bool := h.sys.role = .active && ((h.branch b).chan (1 - own)).calState ≠ 3
  let left : Bool := first || (second && h.peer.saddleUp && h.net.kind ≠ .valley)
  let open_ := h.joinOpen b
  let h' := if first then h.sendLane b own (h.beacon b own 0 false) else h
  let h' := if second then h'.forward b (h.beacon b (1 - own) 200 false) else h'
  h'.setBranch b fun x => { (if left then x.sentExt h.time.cycle else x) with joinSent := left && open_ }

/-- The active head's beacons of this cycle (R126). -/
def Head.sendBeacons (h : Head) : Head :=
  if !h.commands || !h.net.running then h
  else h.branchNumbers.foldl Head.sendBeacon h

/-! ### What the standby head reports of its channels (R133, R145, R162) -/

/-- Report this head's channel of a branch to the active head: cut, lane DOWN, calibration due, OOW and SADDLE_LATE, in a
section of KIND 6 with 16 bytes. DESIGN CHOICE (log 104). -/
def Head.reportChannel (h : Head) (b : Nat) (due : Bool := false) : Head :=
  if h.sys.role = .standby then
    let x := (h.branch b).chan h.ownChannel
    h.sendSection 6 1 0 (pack [(2, srcChannel b h.ownChannel),
      (2, flag x.cut 0 + flag ((h.lane b).link ≠ 2) 1 + flag due 2), (4, x.oow), (2, (h.branch b).saddleLate), (6, 0)])
  else h

/-- A slot or beacon that the standby head leaves empty (R122, R126). -/
def Head.lateOnSaddle (h : Head) (b : Nat) : Head :=
  (h.setBranch b fun x => { x with saddleLate := satInc 0xFFFF x.saddleLate }).reportChannel b

/-- A cut of a channel, by the head itself or as reported: counted, latched, and BRANCH_CUT on the active head (R133). -/
def Head.cutChannel (h : Head) (b c : Nat) : Head :=
  let h := h.setBranch b fun y =>
    { (y.setChan c fun z => { z with cut := true, cutDue := false }) with cuts := satInc 0xFFFF y.cuts }
  let h := h.raise (srcChannel b c) 0
  if h.commands then h.post 0x0403 0 b [(1, c)] else h

/-- The active head takes a report of the other channel (R133, R145, R162). DESIGN CHOICE (log 104). -/
def Head.takeReport (h : Head) (r : List Byte) : Head :=
  let c := 1 - h.ownChannel
  let b := field r 0 2 % 32
  let cut := bit (field r 2 2) 0
  if field r 0 2 ≠ srcChannel b c then h
  else
    let h := if cut && !((h.branch b).chan c).cut then h.cutChannel b c else h
    h.setBranch b fun y => { (y.setChan c fun z => { z with
        cut, down := bit (field r 2 2) 1, oow := field r 4 4
        oowCycles := if field r 4 4 = z.oow then z.oowCycles else h.time.cycle :: z.oowCycles
        calState := if bit (field r 2 2) 2 && z.calState = 0 then 1 else z.calState }) with saddleLate := field r 8 2 }

/-! ### The opening of a cycle -/

/-- The other channel went DOWN or was cut: the calibration is abandoned and tried again later (R162). -/
def Head.abandonCalibration (h : Head) (b c : Nat) : Head :=
  (h.setBranch b fun y => y.setChan c fun z => { z with calState := 1, calLeft := 0 }).finish (.laneCalibrated (b + 32 * c))
    Status.badState

/-- A lane's settings are those of a calibration that ends now: its die temperature is a free value (log 3). -/
def Head.calibrated (h : Head) (lane cycle : Nat) : Head :=
  let (t, h) := h.drawInt
  h.setLane lane fun l => { l with calTemp := toSigned 16 (ofSigned 16 t), calCycle := cycle }

/-- The silence is over: the lane rejoins service with its new settings (R163). -/
def Head.endCalibration (h : Head) (b c : Nat) : Head :=
  let h := h.setBranch b fun y => y.setChan c fun z => { z with calState := 0, calLeft := 0 }
  let h := if h.isOwn c then h.calibrated b (h.time.cycle - 1) else h
  h.finish (.laneCalibrated (b + 32 * c)) Status.ok

/-- The lane of a channel is DOWN: the head's own, or the peer's as it reported it. -/
def Head.channelDown (h : Head) (b c : Nat) : Bool :=
  if h.isOwn c then (h.lane b).link = 0 else ((h.branch b).chan c).down

/-- One channel of a branch at the boundary: cuts, restores, the countdown and the silence of a calibration. -/
def Head.openChannel (h : Head) (b c : Nat) : Head :=
  let x := (h.branch b).chan c
  let otherDown := ((h.branch b).chan (1 - c)).cut || h.channelDown b (1 - c)
  let h := if x.cutDue && !x.cut then h.cutChannel b c else h
  let h := if x.restoreDue then
      h.setBranch b fun y => y.setChan c fun z => { z with cut := false, restoreDue := false, cutDue := false, oowCycles := [] }
    else h
  let h := if h.isOwn c && (x.cutDue || x.restoreDue) then h.reportChannel b else h
  if x.calState = 2 then
    if otherDown then h.abandonCalibration b c
    else if x.calLeft ≤ 1 then
      h.setBranch b fun y => y.setChan c fun z => { z with calState := 3, calLeft := h.silenceCycles }
    else h.setBranch b fun y => y.setChan c fun z => { z with calLeft := z.calLeft - 1 }
  else if x.calState = 3 then
    if otherDown then h.abandonCalibration b c
    else if x.calLeft ≤ 1 then h.endCalibration b c
    else h.setBranch b fun y => y.setChan c fun z => { z with calLeft := z.calLeft - 1 }
  else h
/-- A silence on the only channel of a SOLO head is not counted (R165). -/
def Head.soloSilent (h : Head) (b : Nat) : Bool := h.sys.role = .solo && ((h.branch b).chan h.ownChannel).calState = 3

/-- SILENT of every held position, and the end of a park (R54, R165). -/
def Head.countSilence (h : Head) : Head :=
  let full := h.net.running && !h.supervised
  { h with net := { h.net with branches := h.net.branches.mapIdx fun i b => { b with positions := b.positions.map fun p =>
      let counts := p.state = .held && h.net.running && p.parked.isNone && !h.soloSilent i
      { p with
        silent := if p.heard then 0 else if counts then satInc 0xFFFF p.silent else p.silent
        heard := false, copy := none, down := none
        parked := match p.parked with
          | some n => if full then (if n ≤ 1 then none else some (n - 1)) else some 64
          | none => none } } } }

/-- Geunet's part of the opening of a cycle, before the beacons go out.  A POLL that found no mini-slot in its cycle is gone;
its node asks again. DESIGN CHOICE (log 102). -/
def Head.openNetwork (h : Head) : Head :=
  let h := h.countSilence
  let h := { h with net := { h.net with
    branches := h.net.branches.map fun (b : Branch) => { b with
      owned := b.sentNow, answered := [], sentNow := [], claims := [], joinSent := false, fwdBeacon := none, polls := [] }
    baseRun := if h.net.kind = SchedKind.base && h.net.running then satInc 64 h.net.baseRun else h.net.baseRun } }
  h.branchNumbers.foldl (init := h) fun (h : Head) b => (h.openChannel b 0).openChannel b 1

/-! ### Standby beacons (R126, R127) -/

/-- A beacon of a cut channel: CUT set, and the CRC again (R133). -/
def withCut (f : List Byte) : List Byte := withCrc (setAt 13 (fun b => b ||| 4) (f.take (f.length - 4)))

/-- A run of backup beacons ends: its length is reported, in the 4 bytes at offset 24 of the entry (R127).
DESIGN CHOICE (log 102). -/
def Head.endBackupRun (h : Head) : Head :=
  if h.net.backupRun = 0 then h
  else Head.post { h with net := { h.net with backupRun := 0 } } 0x0405 0 0xFFFF [(4, h.net.backupRun)]

/-- The standby head's beacons at 200 ns: the forwarded one, or a backup beacon; a run of backup beacons, one run for all the
branches, is reported at its first and, with its length, at its end (R127). DEDUCED (log 47). DESIGN CHOICE (log 102). -/
def Head.backupBeacons (h : Head) : Head :=
  let own := h.ownChannel
  let (h, any) := h.branchNumbers.foldl (init := (h, false)) fun (acc : Head × Bool) b =>
    let (h, any) := acc
    let x := h.branch b
    if (x.chan own).calState = 3 then (h, any)
    else match x.fwdBeacon with
      | some f => (h.sendLane b own (if (x.chan own).cut then withCut f else f), any)
      | none => (h.sendLane b own (h.beacon b own 200 true), true)
  if !any then h.endBackupRun
  else
    let h' := { h with net := { h.net with backupRun := h.net.backupRun + 1 } }
    if h.net.backupRun = 0 then h'.post 0x0405 0 0xFFFF [] else h'

/-- BACKUP_BEACON_SLOT: 200 ns into the cycle on a standby head (R126). -/
def execBackupBeaconSlot (s : State) : Host.Outcome State Fault Refusal :=
  eventExec true (fun h =>
    if h.sys.role = .standby && h.net.running && (h.net.kind ≠ .valley || h.peer.restarted) then h.backupBeacons else h) s

/-! ### Silent nodes (R165) -/

/-- The axes of a node. -/
def Head.nodeAxisList (h : Head) (node : Nat) : List Axis :=
  h.axes.filter fun a => a.kind ≠ .mover && !a.localStep && a.location % 1024 = node

/-- NODE_SILENT: SILENT has reached 3 (R165). -/
def execNodeSilent (node : Nat) (s : State) : Host.Outcome State Fault Refusal :=
  eventExec (node < 1024) (fun h => match h.position? node with
    | none => h
    | some p =>
      if p.state = .held && p.silent ≥ 3 && p.parked.isNone && h.commands then
        (h.nodeAxisList node).foldl (init := h) fun (h : Head) (a : Axis) =>
          if a.state = .enabled && !h.latched (srcAxis a.id) 6 then h.raise (srcAxis a.id) 6 else h
      else h) s

/-- A held position is lost: SPUR, and frames in its window, whose place its delays give, count SLOT_LOST for 136 cycles. -/
def Position.lose (p : Position) (cycle : Nat) : Position :=
  { p with state := .spur, identity := 0, lostCycle := some cycle, down := none }

/-- NODE_LOST: SILENT has reached 65; the position becomes SPUR and REVOKE goes out (R165). -/
def execNodeLost (node : Nat) (s : State) : Host.Outcome State Fault Refusal :=
  eventExec (node < 1024) (fun h => match h.position? node with
    | none => h
    | some p =>
      if p.state = .held && p.silent ≥ 65 && p.parked.isNone && h.commands then
        let h := (h.setPosition node fun p => p.lose h.time.cycle).revoke node
        (h.raise (srcNode node) 0).post 0x0406 3 node [(8, p.identity)]
      else h) s

/-- REVOKE_COMPLETE: the cycle after the eighth REVOKE beacon; a position that is still held becomes SPUR (R145). -/
def execRevokeComplete (node : Nat) (s : State) : Host.Outcome State Fault Refusal :=
  eventExec (node < 1024) (fun h =>
    let b := h.branch (node / 32)
    match b.ext.find? fun e => e.kind = 3 && e.position = node % 32 && !e.due && e.effective ≤ h.time.cycle with
    | none => h
    | some e =>
      let h := h.setBranch (node / 32) fun b => { b with ext := b.ext.filter fun x => x ≠ e }
      h.setPosition node fun p => if p.state = .held then p.lose h.time.cycle else p) s

/-! ### Lanes (R160, R161) -/

/-- The saddle link goes DOWN: every lane retrains, nothing is forwarded or mirrored (R378). -/
def Head.saddleDown (h : Head) : Head :=
  if h.peer.saddleUp then
    (({ h with peer := { h.peer with saddleUp := false } }).post 0x0D03 6 0xFFFF []).raise 0 15
  else h

/-- LANE_DOWN: loss of signal or of synchronisation (R161, R378). DESIGN CHOICE (log 89). -/
def execLaneDown (lane : Nat) (s : State) : Host.Outcome State Fault Refusal :=
  eventExec (lane < 40) (fun h =>
    if (h.lane lane).link ≠ 1 && (h.lane lane).link ≠ 2 then h
    else
      let h := h.setLane lane fun l => { l with link := 0, los := satInc 0xFFFF l.los }
      let h := (h.post 0x0407 0 lane []).raise (srcLane lane) 0
      if lane ≥ 32 then h.saddleDown else h.reportChannel lane) s

/-- LANE_UP: synchronisation, with the input inverted or not; LANE_POLARITY when the inversion is newly found (R160, R161).
A saddle lane calibrates while the link trains (R162). DESIGN CHOICE (log 103). -/
def execLaneUp (lane : Nat) (inverted : Bool) (s : State) : Host.Outcome State Fault Refusal :=
  eventExec (lane < 40) (fun h =>
    let l := h.lane lane
    if l.link ≠ 0 && l.link ≠ 1 then h
    else
      let h := h.setLane lane fun l => { l with link := 2, inverted }
      let h := if inverted && !l.inverted then (h.post 0x0409 0 lane []).raise (srcLane lane) 1 else h
      let h := if lane < 32 then h.reportChannel lane
        else if h.peer.saddleUp then h else h.calibrated lane h.time.cycle
      h.post 0x0408 0 lane []) s

/-! ### Lane calibration (R162, R163) -/

/-- No branch lane of the pair is calibrating. -/
def Head.noneCalibrating (h : Head) : Bool :=
  h.net.branches.all fun b => b.chanA.calState < 2 && b.chanB.calState < 2

/-- The conditions under which a calibration starts (R162), but for the one-at-a-time rule. -/
def Head.mayCalibrate (h : Head) (b c : Nat) : Bool :=
  let other := (h.branch b).chan (1 - c)
  let soloOk := h.sys.role ≠ .solo || h.inMode [.commission, .safe]
  let up : Bool := if h.isOwn (1 - c) then (h.lane b).link = 2 else !other.down
  let otherOk := h.sys.role = .solo || (!other.cut && other.calState < 2 && up)
  let switchOk := h.net.switch.isNone && h.net.switched.all fun k => k + 8 ≤ h.time.cycle
  soloOk && otherOk && switchOk

/-- The lane's die temperature, a free value (log 3), is 8 °C or more from that of its last calibration (R162). -/
def Head.dieMoved (h : Head) (lane : Nat) : Bool :=
  64 ≤ (toSigned 16 (ofSigned 16 h.drawInt.1) - (h.lane lane).calTemp).natAbs

/-- Is a calibration due: asked for, or, on the head's own lane, by its temperature (R162)?  The standby head's lanes are due
when it has reported so. -/
def Head.calibrationDue (h : Head) (b c : Nat) : Bool :=
  ((h.branch b).chan c).calState = 1 || (h.isOwn c && h.dieMoved b)

/-- A calibration that is due starts with its countdown, or waits (R162, R163). -/
def Head.startCalibration (h : Head) (b c : Nat) : Head :=
  if h.mayCalibrate b c && h.noneCalibrating then
    h.setBranch b fun x => x.setChan c fun z => { z with calState := 2, calLeft := 5 }
  else h.setBranch b fun x => x.setChan c fun z => { z with calState := 1 }

/-- LANE_CALIBRATION_START: the active head starts a calibration that is due; the standby head reports its own (R162, R163). -/
def execLaneCalibrationStart (branch channel : Nat) (s : State) : Host.Outcome State Fault Refusal :=
  eventExec (branch < 32 && channel < 2) (fun h =>
    let x := (h.branch branch).chan channel
    if x.calState ≥ 2 || !h.net.running || !(h.branchNumbers.contains branch) then h
    else
      let due := h.calibrationDue branch channel
      let h := if x.calState = 0 && h.isOwn channel then h.drawInt.2 else h
      if !due then h
      else if h.commands then h.startCalibration branch channel
      else if h.isOwn channel then h.reportChannel branch true
      else h) s

/-- LANE_CALIBRATION_DONE: the last silent cycle is over (R163). -/
def execLaneCalibrationDone (branch channel : Nat) (s : State) : Host.Outcome State Fault Refusal :=
  eventExec (branch < 32 && channel < 2) (fun h =>
    let x := (h.branch branch).chan channel
    if x.calState = 3 && x.calLeft ≤ 1 then h.endCalibration branch channel else h) s

end Sys2Proof.Machine
end

