-- ==== Sys2Proof/Machine/Uplink.lean ====
section
/-! DEFINITION. Uplink frames: the guardian (R132, R133), line errors (R151), copies (R24, R25, R159), the records and what
their readings and status words do (R111-R113, R155, R248-R251). -/
namespace Sys2Proof.Machine

/-! ### The guardian (R132, R133) -/

/-- The uplink window of a position on a channel, in tenths of a ns from T_k (R132).  A standby head that has not learnt the
delay takes any that the schedule admits, 0 to HOP × (p + 1). DESIGN CHOICE (log 104). -/
def windowOf (s : Schedule) (b : BranchEntry) (p : Nat) (x : Position) (c : Nat) : Nat × Nat :=
  let start (d : Nat) := (s.upStart + b.slot * p + d) * 10
  (start ((x.delay c).getD 0) - s.window * 10, start ((x.delay c).getD (b.hop * (p + 1))) + upTime (b.axes p) + s.window * 10)

/-- The positions of a branch in whose window a frame lies whole. -/
def Head.positionsAt (h : Head) (b c start stop : Nat) (p : Position → Bool) : List Nat :=
  match h.schedule?, h.branchEntry? b with
  | some s, some e => (List.range e.positions.length).filter fun i =>
      match (h.branch b).positions[i]? with
      | some x => p x && (windowOf s e i x c).1 ≤ start && stop ≤ (windowOf s e i x c).2
      | none => false
  | _, _ => []

/-- A frame outside its window: counted on the channel, and on the node its header names; too many cut the channel at the
next boundary. DEDUCED (log 50). -/
def Head.outOfWindow (h : Head) (b c : Nat) (bytes : List Byte) : Head :=
  let s := h.schedule?
  let limit := (s.map fun x => x.babbleLimit).getD 16
  let window := (s.map fun x => x.babbleWindow).getD 64
  let h := h.setBranch b fun y => y.setChan c fun z =>
    let cycles := h.time.cycle :: z.oowCycles.filter fun k => k + window > h.time.cycle
    { z with oow := satInc (2 ^ 32 - 1) z.oow, oowCycles := cycles, cutDue := z.cutDue || (!z.cut && cycles.length ≥ limit) }
  let h := if h.isOwn c then h.reportChannel b else h
  let addr := field bytes 1 2 % 1024
  if bytes.length ≥ 12 && addr / 32 = b then
    h.setPosition addr fun p => { p with oow := satInc (2 ^ 32 - 1) p.oow }
  else h

/-- Count a line error on a branch lane (R151); nothing of the frame is used.  A truncated frame counts in LEN_ERR, and in
CODE_ERR where an invalid code group cut it off, which its bytes do not tell: a free value. DESIGN CHOICE (log 43). -/
def Head.countLineError (h : Head) (lane : Nat) (e : LineError) : Head :=
  match e with
  | .length => h.setLane lane fun l => { l with lenErr := satInc (2 ^ 32 - 1) l.lenErr }
  | .crc => h.setLane lane fun l => { l with crcErr := satInc (2 ^ 32 - 1) l.crcErr }
  | .truncated =>
    let (v, h) := h.drawNat
    h.setLane lane fun l => { l with
      lenErr := satInc (2 ^ 32 - 1) l.lenErr, codeErr := if v % 2 = 1 then satInc (2 ^ 32 - 1) l.codeErr else l.codeErr }
  | .none => h

/-- Does the port hear its own channel: the lane UP, Geunet running, no silence of a calibration, the branch scheduled? -/
def Head.portHears (h : Head) (b : Nat) : Bool :=
  h.net.running && (h.lane b).link = 2 && ((h.branch b).chan h.ownChannel).calState ≠ 3 && (h.branchEntry? b).isSome
    && h.channelUsed h.ownChannel

/-! ### Records -/

/-- Fault codes of the status bits of Table 06-8. -/
def statusFaults : List (Nat × Nat) :=
  [(5, 14), (6, 15), (7, 16), (3, 17), (8, 18), (10, 19), (4, 20), (0, 22), (9, 23)]

/-- The status word of an axis arrives (R112, R155, R337). -/
def Head.noteStatus (h : Head) (id word : Nat) : Head :=
  let h := h.setAxis id fun a => { a with
    status := word, nodeMismatch := if bit word 0 then satInc 0xFFFF a.nodeMismatch else a.nodeMismatch
    step := if bit word 3 then a.step.unhome else a.step }
  statusFaults.foldl (init := h) fun (h : Head) f => if bit word f.1 then h.raise (srcAxis id) f.2 else h

/-- A stray reading: counted on the movers of the track, reported once in 64 cycles (R249). DEDUCED (log 45). -/
def Head.strayReading (h : Head) (a : Axis) : Head :=
  let h := { h with movers := h.movers.map fun m =>
    if m.track = a.track then { m with obs := { m.obs with stray := satInc 0xFFFF m.obs.stray } } else m }
  if a.strayCycle.all fun k => k + 64 ≤ h.time.cycle then
    let h := h.setAxis a.id fun a => { a with strayCycle := some h.time.cycle }
    (h.post 0x0708 0 a.id []).raise (srcAxis a.id) 25
  else h

/-- A linear segment's window reading goes to its mover, to a mover that acquires, or is a stray (R248-R250). -/
def Head.linearReading (h : Head) (a : Axis) (count : Nat) : Head :=
  if count ≥ a.sensor.window then match a.moverNow with
    | some m => h.setMover m fun x => { x with obs := { x.obs with windowErr := satInc 0xFFFF x.obs.windowErr } }
    | none => h
  else match a.moverNow with
    | some m => match h.mover? m with
      | some x => h.deliver m a.id (windowCoord a x.obs.scaleOffset count)
      | none => h
    | none =>
      match h.movers.find? fun m => h.acquires m a (windowCoord a m.obs.scaleOffset count) with
      | some m => h.deliver m.id a.id (windowCoord a m.obs.scaleOffset count)
      | none => if h.expectedAt a then h else h.strayReading a

/-- The reading of a rotary axis, with 8 fraction bits (R251). -/
def rotaryReading (a : Axis) (raw : Nat) : Int :=
  toSigned 32 (ofSigned 32 (if a.sensor.dir then -(raw : Int) else raw)) * 256

/-- Is a record of this epoch used in this cycle (R113)?  A mover's or a stepper's epoch is 0 for ever (R105); the cycle of
R389 waives the test for a segment axis. -/
def Head.epochHolds (h : Head) (a : Axis) (epoch : Nat) : Bool :=
  epoch = a.epochNow || (a.kind = .segment && h.peer.waive = some h.time.cycle)

/-- One uplink record of an axis (Table 06-7). DEDUCED (log 48). -/
def Head.useRecord (h : Head) (id : Nat) (rec : List Byte) : Head :=
  let word := field rec 0 3
  let status := field rec 16 4
  let epoch := bits word 14 7
  let h := h.noteStatus id status
  let h := h.setAxis id fun a =>
    { a with upEpoch := some epoch, epochNew := a.epochNew && epoch ≠ a.epoch }
  match h.axis? id with
  | none => h
  | some a =>
    let holds := h.epochHolds a epoch
    let h := h.setAxis id fun a =>
      if holds then { a with uplink := some rec } else { a with staleUp := satInc 0xFFFF a.staleUp }
    let valid := holds && bit word 16 && !bit status 10 && !a.mismatch
    let h :=
      if a.linear then (if valid && a.sensor.kind = 1 then h.linearReading a (field rec 9 4) else h)
      else if a.rotary && h.inTurn a then
        h.observeRotary id (if valid && (a.sensor.kind = 2 || a.sensor.kind = 3) then some (rotaryReading a (field rec 9 4)) else none)
      else h
    h.setAxis id fun a => if a.graph = .waiting && h.inTurn a then { a with graph := .ready } else a

/-- The records of a node's uplink frame (R155); under a supervision schedule they are status words only. -/
def Head.useRecords (h : Head) (node axes : Nat) (payload : List Byte) : Head :=
  (List.range axes).foldl (init := h) fun (h : Head) i => match h.axisAt? node i with
    | none => h
    | some a => if h.supervised then h.noteStatus a.id (field payload (4 * i) 4)
      else h.useRecord a.id ((payload.drop (20 * i)).take 20)

/-! ### Copies (R24, R159) -/

/-- A frame without its CRC and its CHANNEL bit. -/
def plainCopy (bytes : List Byte) : List Byte :=
  setAt 2 (fun b => b &&& 0xFB) (bytes.take (bytes.length - 4))

/-- A valid uplink frame of a held node reaches the active head: the first copy is used, a later one compared. -/
def Head.useCopy (h : Head) (node : Nat) (bytes : List Byte) : Head :=
  let x := frameHeader bytes
  let h := h.noteClaim x.claim
  match h.position? node with
  | none => h
  | some p => match p.copy with
    | none =>
      let h := h.setPosition node fun p => { p with copy := some (plainCopy bytes), heard := true }
      let h := if bit x.flags 0 then
          h.setBranch (node / 32) fun b =>
            { b with polls := if b.polls.contains (node % 32) then b.polls else b.polls ++ [node % 32] }
        else h
      h.useRecords node (h.nodeAxes node) (framePayload bytes)
    | some first =>
      if plainCopy bytes = first then h
      else
        let h := h.setPosition node fun p => { p with diverge := satInc (2 ^ 32 - 1) p.diverge }
        h.setLane (node / 32) fun l => { l with diverge := satInc (2 ^ 32 - 1) l.diverge }

/-- A valid uplink frame, complete at `ns`, reaches the standby head's own port: it is forwarded, and its flags count toward the
witnesses (R25, R387). -/
def Head.standbyCopy (h : Head) (node ns : Nat) (bytes : List Byte) : Head :=
  let x := frameHeader bytes
  let h := (h.noteClaim x.claim).forwardAt ns (node / 32) false false bytes
  if (h.position? node).any fun p => p.heard then h
  else
    let missed := bit x.flags (2 - h.ownChannel)
    let h := h.setPosition node fun p => { p with heard := true }
    { h with peer := { h.peer with witnessNow := (h.peer.witnessNow.1 + flag missed 0, h.peer.witnessNow.2 + 1) } }

/-- Payload bytes of an UP_STATIC frame of a node under the schedule in force (Table 06-2). -/
def Head.upLength (h : Head) (node : Nat) : Nat := h.nodeAxes node * (if h.supervised then 4 else 20)

/-- In the saddle window a valid uplink frame, without a trained saddle link, shows that another head drives the network
(R393). -/
def Head.hearStranger (h : Head) (b : Nat) (bytes : List Byte) (truncated : Bool) : Head :=
  let x := frameHeader bytes
  if h.sys.mode = .boot && h.sys.bootStep = .saddle && !h.peer.saddleUp && (h.lane b).link = 2
      && lineError bytes truncated = .none && x.type = FrameType.upStatic && x.addr / 32 = b then
    { h with sys := { h.sys with strangers := true } }
  else h

/-- UPLINK_FRAME_RX: a frame on the branch port's own channel ends; `start` is its /S/ in tenths of a ns from T_k. -/
def Head.uplinkFrame (h : Head) (b start : Nat) (bytes : List Byte) (truncated : Bool) : Head :=
  let c := h.ownChannel
  if !h.portHears b then h.hearStranger b bytes truncated
  else
    let stop := start + frameTime bytes.length
    let cut := ((h.branch b).chan c).cut
    let owners := h.positionsAt b c start stop fun p => p.state = .held
    let lost := h.positionsAt b c start stop fun p => p.state = .spur && p.lostCycle.any fun k => k + 136 > h.time.cycle
    let e := lineError bytes truncated
    let x := frameHeader bytes
    if owners.isEmpty then
      if !lost.isEmpty then h.setLane b fun l => { l with slotLost := satInc 0xFFFF l.slotLost }
      else if e = .none && h.headerOk x && x.type = FrameType.fill then h
      else h.outOfWindow b c bytes
    else if e ≠ .none then
      let h := h.countLineError b e
      if h.sys.role = .standby && !cut then h.forwardAt (h.completeAt start bytes) b (e = .crc) truncated bytes else h
    else if !h.headerOk x then h.outOfWindow b c bytes
    else if x.type = FrameType.fill then h
    else if x.type ≠ FrameType.upStatic || x.addr / 32 ≠ b || !owners.contains (x.addr % 32) || x.length ≠ h.upLength x.addr then
      h.outOfWindow b c bytes
    else if cut then h
    else if h.sys.role = .standby then h.standbyCopy x.addr (h.completeAt start bytes) bytes
    else if h.commands then h.useCopy x.addr bytes
    else h

def execUplinkFrameRx (branch start : Nat) (bytes : List Byte) (truncated : Bool) (s : State) :
    Host.Outcome State Fault Refusal :=
  eventExec (branch < 32) (fun h => (h.stampRx branch start).uplinkFrame branch start bytes truncated) s

/-- The parts of a SADDLE_FWD payload that an active head can use: the branch and the inner frame, once line errors have
been counted (R25, R151, R158). -/
def Head.openForwarded (h : Head) (payload : List Byte) : Head × Option (Nat × List Byte) :=
  let (lane, crcFailed, truncated, inner) := fwdParts payload
  let bad := crcFailed || lineError inner truncated ≠ .none
  if lane ≥ 32 then (h, none)
  else if bad then
    (h.setBranch lane fun b => b.setChan (1 - h.ownChannel) fun z => { z with fwdErr := satInc (2 ^ 32 - 1) z.fwdErr }, none)
  else if !h.headerOk (frameHeader inner) || ((h.branch lane).chan (1 - h.ownChannel)).cut then (h, none)
  else (h, some (lane, inner))

/-- FORWARDED_UPLINK_RX: a frame that the standby head forwarded from its channel (R24). -/
def execForwardedUplinkRx (bytes : List Byte) (s : State) : Host.Outcome State Fault Refusal :=
  eventExec true (fun h =>
    if h.sys.role ≠ .active || !h.peer.saddleUp then h
    else match h.openForwarded bytes with
      | (h, none) => h
      | (h, some (lane, inner)) =>
        let x := frameHeader inner
        if x.type = FrameType.upStatic && x.addr / 32 = lane && x.length = h.upLength x.addr
            && (h.position? x.addr).any (fun p => p.state = .held) then h.useCopy x.addr inner
        else h) s

end Sys2Proof.Machine
end

