-- ==== Sys2Proof/Machine/Records.lean ====
section
/-! DEFINITION. Downlink records and frames: what a record says at its deadline (R23, R154, R229, R231, R284, R326, R406), the
slots that carry it (R122), and the forwarded beacon and downlink frames at a standby head (R126, R182). -/
namespace Sys2Proof.Machine

/-! ### What an axis is due -/

/-- Epoch and mover of an axis in the cycle to which the records of this cycle apply (R106). -/
def Head.nextBinding (h : Head) (a : Axis) : Nat × Option Nat :=
  match (h.binds.filter fun b => b.axis = a.id && b.cycle ≤ h.time.cycle + 1).getLast? with
  | some b => (b.epoch, b.mover)
  | none => (a.epochNow, a.moverNow)

/-- The mover axis whose force a linear segment's record of this cycle carries. -/
def Head.driver? (h : Head) (a : Axis) : Option Axis :=
  ((h.nextBinding a).2.bind fun m => h.mover? m).bind fun m => h.axis? m.axis

/-- Is an axis computed at all: ENABLED, its range RUNNING and not shed (R101, R284), a linear segment bound to a mover
whose axis is ENABLED (R200)? -/
def Head.due (h : Head) (a : Axis) : Bool :=
  a.state = .enabled && (h.range a.range).state = .running && !h.shedNow a.range && !h.deviceBelay
    && (!a.linear || (h.driver? a).any fun d => d.state = .enabled)

/-- Is this a cycle that shedding level 2 skips for the axis: alternate cycles of its range (R284)? -/
def Head.decimated (h : Head) (a : Axis) : Bool :=
  let d := max (h.divisorOf a.range) 1
  h.compute.shedLevel ≥ 2 && (h.range a.range).cls = 2 && (h.time.cycle / d + a.place.phase / d) % 2 = 1

/-- Is the axis's graph to run in this cycle? -/
def Head.runs (h : Head) (a : Axis) : Bool := h.due a && h.inTurn a && !h.decimated a

/-! ### Holds (R229-R233) -/

/-- A hold of an axis: its own counts, its range's last second.  A record that misses its deadline and a graph that is
abandoned later in the same cycle are one held cycle (R229, R232, R233). -/
def Head.noteHold (h : Head) (id : Nat) : Head :=
  match h.axis? id with
  | none => h
  | some a =>
    if a.held then h else
    let t := h.time.cycleStart
    let inTime : Bool := (h.range a.range).cls ≤ 1 && a.graph = .ready
      && (!a.linear || (((h.nextBinding a).2).bind fun m => h.mover? m).any fun m => m.force.isSome)
    let h := if inTime then { h with compute := { h.compute with heldInTime := true } } else h
    let h := h.setAxis id fun a => { (a.stick 0x0800) with
      held := true
      loop := { (a.stick 0x0800).loop with overruns := satInc (2 ^ 32 - 1) a.loop.overruns, holdRun := satInc 3 a.loop.holdRun } }
    h.setRange a.range fun r =>
      let old := r.heldLog.filter fun x => x.1 + 1000000000 > h.now
      let log := match old with
        | (s, n) :: rest => if s = t then (s, n + 1) :: rest else (t, 1) :: old
        | [] => [(t, 1)]
      { r with heldLog := log, peak := max r.peak (sumNat (log.map fun x => x.2)) }

/-! ### Records (Tables 06-5 and 06-6) -/

namespace RecordMode
abbrev off := 0
abbrev phaseDuty := 1
abbrev microstep := 2
abbrev shortBrake := 3
end RecordMode

/-- MODE of a record. -/
def recordMode (r : List Byte) : Nat := bits (field r 0 3) 6 3

/-- A record from its header fields and its nine value bytes. -/
def downRecord (i mode epoch : Nat) (hold belay epochNew brake : Bool) (values : List Byte) : List Byte :=
  leBytes 3 (i % 8 + 8 * mode + 128 * (epoch % 256) + flag hold 15 + flag belay 16 + flag epochNew 17 + flag brake 18)
    ++ padTo 9 values

/-- A stepper's record in a cycle in which it is not computed: INDEX advanced by DELTA (R326). -/
def advanceStep (r : List Byte) : List Byte :=
  let index : Int := field r 3 3 % 1024
  let delta := sfield r 9 3
  leBytes 3 ((roundDiv (index * 256 + delta) 256 % 1024).toNat) ++ (r.drop 6).take 6

/-- BRAKE_RELEASE of an axis's record: a bound segment follows its mover, a rotary axis itself (R220). -/
def Head.brakeReleased (h : Head) (a : Axis) : Bool :=
  if a.linear then (h.driver? a).any fun d => d.motion.brakeRelease && d.state = .enabled
  else a.motion.brakeRelease && a.state = .enabled

/-- An axis or its range stands in belay (R406). -/
def Head.recordBelay (h : Head) (a : Axis) : Bool := a.state = .belay || (h.range a.range).state = .belay

/-- The record of one axis at its deadline, and what the head notes with it. DEDUCED (log 48). -/
def Head.makeRecord (h : Head) (i : Nat) (a : Axis) : Head × List Byte :=
  let epoch := (h.nextBinding a).1
  let epochNew := a.epochNew && epoch = a.epoch
  let belay := h.recordBelay a
  let brake := h.brakeReleased a
  let off := downRecord i RecordMode.off epoch false belay epochNew brake []
  let keep (r : List Byte) (hold : Bool) (values : List Byte) :=
    downRecord i (recordMode r) epoch (hold && !belay) belay epochNew brake values
  let wasOff := recordMode a.record = RecordMode.off
  let finish (h : Head) (r : List Byte) : Head × List Byte := (h.setAxis a.id fun x => { x with record := r }, r)
  if a.kind = .stepper && a.state = .enabled && (h.range a.range).state = .stopped && !h.shedNow a.range && !h.deviceBelay then
    finish h (downRecord i RecordMode.microstep epoch false belay epochNew brake a.step.standstill)
  else if !h.due a then finish h off
  else if !h.inTurn a then
    if epochNew && wasOff then finish h off
    else finish h (keep a.record false (if a.kind = .stepper then advanceStep a.record else a.record.drop 3))
  else if h.decimated a then
    let h := h.setRange a.range fun r => { r with shedHolds := satInc (2 ^ 32 - 1) r.shedHolds }
    if wasOff || epochNew then finish h off else finish h (keep a.record true (a.record.drop 3))
  else match a.packed with
    | some r =>
      let h := h.setAxis a.id fun x => { x with loop := { x.loop with holdRun := 0 } }
      finish h (keep r false (r.drop 3))
    | none =>
      let h := h.noteHold a.id
      if wasOff || epochNew then finish h off else finish h (keep a.record true (a.record.drop 3))

/-- The records of a node, in local-index order; an index with no axis carries OFF and epoch 0 (R154). -/
def Head.makeRecords (h : Head) (node axes : Nat) : Head × List Byte :=
  (List.range axes).foldl (init := (h, [])) fun (acc : Head × List Byte) i =>
    match acc.1.axisAt? node i with
    | some a => let (h, r) := acc.1.makeRecord i a; (h, acc.2 ++ r)
    | none => (acc.1, acc.2 ++ downRecord i 0 0 false false false false [])

/-- RECORD_READY_DEADLINE: the node's frame is placed in the branch port and handed to the saddle link, and its AXIS
section sent (R23, R122, R381).  Supervision schedules have empty downlink slots (R141). -/
def execRecordReadyDeadline (node : Nat) (s : State) : Host.Outcome State Fault Refusal :=
  eventExec (node < 1024) (fun h =>
    if !h.commands || !h.net.running || h.supervised then h
    else match h.position? node with
      | none => h
      | some p =>
        if p.state ≠ .held || p.down.isSome then h
        else
          let axes := h.nodeAxes node
          let (h, payload) := h.makeRecords node axes
          let frame (h : Head) (c : Nat) := h.frame FrameType.downStatic (flag h.deviceBelay 0) node c payload
          let h := h.setPosition node fun p => { p with down := some (frame h h.ownChannel) }
          let h := if h.sys.role = .active then h.forward (node / 32) (frame h (1 - h.ownChannel)) else h
          h.mirrorNode node axes) s

/-- DOWNLINK_SLOT: the frame in the port goes out (R122); a standby head without the forwarded copy leaves the slot empty
and counts it.  A cut channel carries beacons only (R133), a silent one nothing (R163). -/
def execDownlinkSlot (node : Nat) (s : State) : Host.Outcome State Fault Refusal :=
  eventExec (node < 1024) (fun h =>
    let b := node / 32
    let chan := (h.branch b).chan h.ownChannel
    match h.position? node with
    | none => h
    | some p =>
      if !h.net.running || h.supervised || p.state ≠ .held || chan.cut || chan.calState = 3 then h
      else match p.down with
        | some f => (h.setPosition node fun p => { p with down := none }).sendLane b h.ownChannel f
        | none => if h.sys.role = .standby then h.lateOnSaddle b else h) s

/-- A standby head learns an axis's epoch, and the record it would repeat, from a forwarded frame (R113, R226). -/
def Head.learnRecords (h : Head) (node : Nat) (payload : List Byte) : Head :=
  (List.range (h.nodeAxes node)).foldl (init := h) fun (h : Head) i => match h.axisAt? node i with
    | none => h
    | some a =>
      let r := (payload.drop (12 * i)).take 12
      h.setAxis a.id fun x => { x with
        record := r, epoch := if x.kind = .segment then bits (field r 0 3) 14 7 else x.epoch
        epochNow := if x.kind = .segment then bits (field r 0 3) 14 7 else x.epochNow }

/-- A position that the active head sends a frame is HELD, as a standby head learns that took its role after the grant; not one
that a REVOKE has just freed. DESIGN CHOICE (log 104). -/
def Position.learn (p : Position) (cycle : Nat) (frame : List Byte) : Position :=
  if p.state = .held then { p with down := some frame }
  else if p.lostCycle.any fun k => k + 136 > cycle then p
  else { p with state := .held, down := some frame, silent := 0 }

/-- FORWARDED_DOWNLINK_RX: a forwarded downlink frame is complete at the standby head (R122). -/
def execForwardedDownlinkRx (bytes : List Byte) (s : State) : Host.Outcome State Fault Refusal :=
  eventExec true (fun h =>
    if h.sys.role ≠ .standby || !h.peer.saddleUp then h
    else
      let (lane, bad, truncated, inner) := fwdParts bytes
      let x := frameHeader inner
      if lane ≥ 32 || bad || lineError inner truncated ≠ .none || !h.headerOk x || x.type ≠ FrameType.downStatic || x.addr / 32 ≠ lane
          || x.length ≠ 12 * h.nodeAxes x.addr then h
      else (h.setPosition x.addr fun p => p.learn h.time.cycle inner).learnRecords x.addr (framePayload inner)) s

/-! ### The forwarded beacon (R126, R182) -/

/-- What a standby head takes from the extension entry of the active head's beacon: the grants and revocations of the
branch (R139, Table 06-4). DEDUCED (log 50). -/
def Head.learnEntry (h : Head) (b : Nat) (e : List Byte) : Head :=
  let kind := field e 0 1 % 16
  let position := field e 1 1 % 32
  let delay (n : Nat) : Option Nat := if n = 0xFFF then none else some (2 * n)
  let k := h.time.cycle
  if kind = 1 then
    h.setBranch b fun x => x.addExt {
      kind := 1, position, reason := 0, identity := field e 2 2, delayA := delay (bits (field e 4 3) 11 0)
      delayB := delay (bits (field e 4 3) 23 12), effective := k + 1 + (field e 7 1 + 256 - (k + 1) % 256) % 256, sent := 8 }
  else if kind = 3 then
    h.setPosition (32 * b + position) fun p => if p.state = .held then p.lose k else p
  else h

/-- The kind a code of SCHED_KIND names. -/
def schedOf : Nat → SchedKind
  | 0 => .base | 1 => .rescue | 2 => .col | _ => .valley

/-- The announcement of a calibration on the standby head's own channel: the countdown, or none (R163). -/
def Channel.learnCal (z : Channel) (cal : Nat) : Channel :=
  if cal % 8 = 0 then (if z.calState ≥ 2 then { z with calState := 0, calLeft := 0 } else z)
  else { z with calState := 2, calLeft := cal % 8 }

/-- What a standby head takes from the payload of a forwarded beacon: the cycle number, the kind of schedule in force, the belay
mask, the announced switch, the calibration of its channel, the extension entry. -/
def Head.learnBeacon (h : Head) (b : Nat) (p : List Byte) : Head :=
  let bflags := field p 1 1
  let h := h.enterKind (schedOf (bits (field p 22 1) 1 0))
  let h := h.setBranch b fun x => x.setChan h.ownChannel fun z => z.learnCal (field p 7 1)
  let h := { h with
    time := { h.time with cycle := field p 16 6 }
    net := { h.net with
      peerBelayMask := field p 6 1
      switch := if bit bflags 5 then some { next := schedOf (bits (field p 22 1) 3 2), cycle := field p 10 6, park := false }
        else if bit bflags 3 then some (h.net.switch.getD { next := h.net.kind, cycle := h.time.cycle + 64, park := true })
        else none } }
  if bit bflags 4 then h.learnEntry b (p.drop 32) else h

end Sys2Proof.Machine
end

