-- ==== Sys2Proof/Machine/Joins.lean ====
section
/-! DEFINITION. Joining (R136-R140), the dynamic segment (R129-R131, R156, R164), and the commands of block 0x04 (R145). -/
namespace Sys2Proof.Machine

/-! ### Claims (R138) -/

/-- Does the state of a position admit a claim now (R136)? -/
def Head.admissible (h : Head) (p : Position) : Bool := match p.state with
  | .unlocked => h.inMode [.commission]
  | .spur => h.inMode [.commission, .service, .rescue]
  | .held => false

/-- The first reason that refuses a claim (R138); none grants it. -/
def Head.claimReason (h : Head) (b : Nat) (x : ClaimSeen) (channelOk : Bool) : Option Nat :=
  let branch := h.branch b
  let entry := (h.branchEntry? b).bind fun e => e.positions[x.position]?
  let granted := branch.ext.any fun e => e.kind = 1 && e.position = x.position
  let admitted := (branch.positions[x.position]?).any fun p => h.admissible p && !granted
  if !admitted then some 1
  else if entry.any fun e => e.identity ≠ 0 && e.identity ≠ x.identity then some 2
  else if entry.any fun e => x.axes > e.axes then some 3
  else if !channelOk then some 4
  else if h.net.switch.isSome then some 5
  else if branch.ext.length ≥ 8 then some 6
  else none

/-- Decide a claim: a grant for the cycle 128 on, or a refusal with its reason (R138, R139). DEDUCED (log 44). -/
def Head.decideClaim (h : Head) (b : Nat) (x : ClaimSeen) (delayA delayB : Option Nat) (channelOk : Bool) : Head :=
  let entry (kind reason : Nat) : ExtEntry :=
    { kind, position := x.position % 32, reason, identity := x.identity, delayA, delayB, effective := h.time.cycle + 128, sent := 0 }
  match h.claimReason b x channelOk with
  | none => h.setBranch b fun y => y.addExt (entry 1 0)
  | some reason =>
    (h.setBranch b fun y => y.addExt (entry 2 reason)).post 0x0402 3 (32 * b + x.position % 32)
      [(1, reason), (1, x.axes), (2, 0), (4, x.identity % 2 ^ 32)]

/-- A claim that only one channel brought is refused when its cycle is over (R138). DEDUCED (log 44). -/
def Head.refuseLone (h : Head) : Head :=
  h.branchNumbers.foldl (init := h) fun (h : Head) b =>
    let claims := (h.branch b).claims
    let h := h.setBranch b fun y => { y with claims := [] }
    claims.foldl (init := h) fun (h : Head) x => h.decideClaim b x none none false

/-- A valid claim reaches the active head from a channel: a SOLO head decides at once, an ACTIVE head once both channels
have brought it (R138); an identity whose copies name different positions is remembered for the timing check (R121). -/
def Head.takeClaim (h : Head) (b : Nat) (x : ClaimSeen) : Head :=
  let delays (y : ClaimSeen) : Option Nat × Option Nat :=
    if x.channel = 0 then (some x.delay, some y.delay) else (some y.delay, some x.delay)
  if h.sys.role = .solo then
    h.decideClaim b x (if x.channel = 0 then some x.delay else none) (if x.channel = 1 then some x.delay else none) true
  else match (h.branch b).claims.find? fun y => y.channel ≠ x.channel && y.identity = x.identity with
    | some y =>
      let others := (h.branch b).misplaced.filter fun i => i ≠ x.identity
      let h := h.setBranch b fun z => { z with
        claims := z.claims.filter fun w => w ≠ y
        misplaced := if y.position = x.position then others else others ++ [x.identity] }
      h.decideClaim b x (delays y).1 (delays y).2 (y.position = x.position && y.axes = x.axes)
    | none => h.setBranch b fun z => { z with claims := z.claims ++ [x] }

/-- The claim in a JOIN_CLAIM frame (R157) whose /S/ arrives `start` tenths of a ns after T_k. -/
def claimOf (s : Schedule) (channel start : Nat) (bytes : List Byte) : ClaimSeen :=
  let p := framePayload bytes
  { channel, position := field p 9 1, identity := field p 0 8, axes := field p 8 1
    delay := (roundDiv (roundDiv (start - (s.dynStart * 10 : Nat) : Int) 10) 2).toNat }

/-- JOIN_CLAIM_RX: a claim ends in the join window, on the own channel or forwarded from the other one. -/
def Head.joinClaim (h : Head) (b c start : Nat) (bytes : List Byte) (truncated : Bool) : Head :=
  match h.schedule? with
  | none => h
  | some s =>
    let own := h.isOwn c
    let stop := start + frameTime bytes.length
    let inside := s.dynStart * 10 ≤ start && stop ≤ (s.dynStart + s.join) * 10
    let e := lineError bytes truncated
    let x := frameHeader bytes
    if own && !h.portHears b then h
    else if !own && (h.sys.role ≠ .active || !h.peer.saddleUp || (h.branchEntry? b).isNone) then h
    else if own && !inside then h.outOfWindow b c bytes
    else if e ≠ .none then (if own then h.countLineError b e else h)
    else if x.type = FrameType.fill then h
    else if !h.headerOk x || x.type ≠ FrameType.joinClaim || x.length ≠ 32 then
      (if own then h.outOfWindow b c bytes else h)
    else if ((h.branch b).chan c).cut then h
    else if h.sys.role = .standby then h.forwardAt (h.completeAt start bytes) b false false bytes
    else if !h.commands || !(h.branch b).joinSent then h
    else h.takeClaim b (claimOf s c start bytes)

def execJoinClaimRx (branch channel start : Nat) (bytes : List Byte) (truncated : Bool) (s : State) :
    Host.Outcome State Fault Refusal :=
  eventExec (branch < 32 && channel < 2) (fun h =>
    (if h.isOwn channel then h.stampRx branch start else h).joinClaim branch channel start bytes truncated) s

/-- JOIN_GRANT_EFFECTIVE: the slot becomes HELD; the descriptors of the node's sensors are read (R139, R247). -/
def execJoinGrantEffective (node : Nat) (s : State) : Host.Outcome State Fault Refusal :=
  eventExec (node < 1024) (fun h =>
    match (h.branch (node / 32)).ext.find? fun e => e.kind = 1 && e.position = node % 32 && e.effective ≤ h.time.cycle with
    | none => h
    | some e =>
      let h := h.setBranch (node / 32) fun b => { b with ext := b.ext.filter fun x => x ≠ e }
      let h := h.setPosition node fun p => { p with
        state := .held, identity := e.identity, delayA := e.delayA, delayB := e.delayB, joinCycle := e.effective, silent := 0
        lostCycle := none }
      if !h.commands then h
      else
        let h := h.postAt 0x0401 3 node h.now e.effective (leBytes 8 e.identity)
        (h.nodeAxisList node).foldl (init := h) fun (h : Head) (a : Axis) =>
          (h.setAxis a.id fun a => { a with mismatch := false }).readSensor a.id) s

/-! ### The dynamic segment -/

/-- May the head send a request in this mini-slot of the branch (R130, R133, R164)?  Neither lane is in its silence. -/
def Head.maySend (h : Head) (b mini : Nat) : Bool :=
  let x := h.branch b
  h.commands && h.net.running && (h.branchEntry? b).isSome && (h.schedule?.any fun s => 1 ≤ mini && mini ≤ s.miniCount)
    && x.chanA.calState ≠ 3 && x.chanB.calState ≠ 3 && !(x.chan h.ownChannel).cut && !(x.sentNow.any fun m => m.1 = mini)

/-- The least of a list of numbers. -/
def leastOf : List Nat → Option Nat
  | [] => none
  | x :: xs => some (xs.foldl min x)

/-- Put a request on the branch's own channel in a mini-slot (R156). DEDUCED (log 44). -/
def Head.sendRequest (h : Head) (b mini : Nat) (r : DynRequest) : Head :=
  let frame := h.frame FrameType.dynRequest 0 r.node h.ownChannel (pack [(1, r.op), (1, r.tag), (2, 0)] ++ r.data)
  let h := h.setBranch b fun x => { x with sentNow := x.sentNow ++ [(mini, r)] }
  let h := match r.entry with
    | some e => { h with cal := { h.cal with actions := h.cal.actions.filter fun a => !(a.entry = e && a.node = r.node) } }
    | none => h
  h.sendLane b h.ownChannel frame

/-- DYN_REQUEST_SEND: POLLs by position first, then requests in the order they were queued (R131). -/
def execDynRequestSend (branch mini : Nat) (s : State) : Host.Outcome State Fault Refusal :=
  eventExec (branch < 32) (fun h =>
    if !h.maySend branch mini then h
    else
      let x := h.branch branch
      match leastOf x.polls, x.dyn with
      | some p, _ =>
        let r : DynRequest := { node := 32 * branch + p, op := 0x01, tag := x.nextTag, data := [], entry := none }
        let h := h.setBranch branch fun x => { x with polls := x.polls.filter fun q => q ≠ p, nextTag := (x.nextTag + 1) % 256 }
        h.sendRequest branch mini r
      | none, r :: rest => (h.setBranch branch fun x => { x with dyn := rest }).sendRequest branch mini r
      | none, [] => h) s

/-- The opening of a mini-slot and its close, in tenths of a ns from T_k (Table 05-1). -/
def miniWindow (s : Schedule) (m : Nat) : Nat × Nat :=
  ((s.dynStart + s.join + s.mini * (m - 1)) * 10, (s.dynStart + s.join + s.mini * m) * 10)

/-- The sensor descriptor that a node reports is compared with the one set (R247). -/
def Head.checkSensor (h : Head) (node i : Nat) (value : List Byte) : Head :=
  match h.axisAt? node i with
  | none => h
  | some a =>
    if padTo 16 value = sensorBytes a.sensor then h
    else ((h.setAxis a.id fun a => { a with mismatch := true }).raise (srcAxis a.id) 8).post 0x070B 0 a.id []

/-- What a reply tells the head: a sensor descriptor, or a request to wake, on which WAKE_SOURCE acts (R55, R156, R247).  An
EVENT's data are the node maker's. -/
def Head.useReply (h : Head) (r : DynRequest) (payload : List Byte) : Head :=
  if field payload 2 1 ≠ 0 then h
  else if r.op = 0x02 && field r.data 0 2 = 0x0002 then h.checkSensor r.node (field r.data 2 1) (payload.drop 4)
  else if r.op = 0x01 && field payload 4 1 = 1 then { h with sys := { h.sys with nodeWake := true } }
  else h

/-- DYN_REPLY_RX: a reply in an owned inward mini-slot (R129, R130), the first of its owner; a standby head, which does not know
the owners, forwards. DEDUCED (log 50). -/
def Head.dynReply (h : Head) (b c start : Nat) (bytes : List Byte) (truncated : Bool) : Head :=
  match h.schedule? with
  | none => h
  | some s =>
    let own := h.isOwn c
    let stop := start + frameTime bytes.length
    let fits (m : Nat) := (miniWindow s m).1 - s.window * 10 ≤ start && stop ≤ (miniWindow s m).2
    let slots := ((List.range s.miniCount).map fun m => m + 1).filter fits
    let owners := (h.branch b).owned.filter fun o => !own || slots.contains o.1
    let e := lineError bytes truncated
    let x := frameHeader bytes
    if own && !h.portHears b then h
    else if !own && (h.sys.role ≠ .active || !h.peer.saddleUp) then h
    else if own && (slots.isEmpty || (h.sys.role ≠ .standby && owners.isEmpty)) then h.outOfWindow b c bytes
    else if e ≠ .none then (if own then h.countLineError b e else h)
    else if x.type = FrameType.fill then h
    else if !h.headerOk x || x.type ≠ FrameType.dynReply || x.length < 4 || 120 < x.length then
      (if own then h.outOfWindow b c bytes else h)
    else if ((h.branch b).chan c).cut then h
    else if h.sys.role = .standby then h.forwardAt (h.completeAt start bytes) b false false bytes
    else match owners.find? fun o => o.2.node = x.addr with
      | none => if own then h.outOfWindow b c bytes else h
      | some o =>
        let p := framePayload bytes
        if field p 0 1 ≠ o.2.op + 0x80 || field p 1 1 ≠ o.2.tag || (h.branch b).answered.contains o then h
        else (h.setBranch b fun y => { y with answered := y.answered ++ [o] }).useReply o.2 p

def execDynReplyRx (branch channel start : Nat) (bytes : List Byte) (truncated : Bool) (s : State) :
    Host.Outcome State Fault Refusal :=
  eventExec (branch < 32 && channel < 2) (fun h =>
    (if h.isOwn channel then h.stampRx branch start else h).dynReply branch channel start bytes truncated) s

/-! ### Commands of block 0x04 (R145) -/

/-- A branch of BRANCH_MASK. -/
def Head.listed (h : Head) (b : Nat) : Bool := b < 32 && (h.net.base.any fun s => (s.branch? b).isSome)

def checkCode : CheckResult → Nat × Nat × Nat
  | .passed => (0, 0, 0xFF)
  | .notRun => (1, 0, 0xFF)
  | .failed i b => (2, i, b)

/-- The reply of GET_SCHEDULE for a kind; while a park is announced PENDING_ID is that of the schedule in force.
DESIGN CHOICE (log 102). -/
def Head.scheduleReply (h : Head) (k : SchedKind) : List Byte :=
  let rescue := k = .rescue
  let (check, item, branch) := checkCode (if rescue then h.net.checkRescue else h.net.checkBase)
  pack [(2, h.schedId k), (1, schedCode k), (1, check), (1, item), (1, branch), (2, 0), (4, h.cycleNsOf k),
    (2, (h.net.switch.map fun s => h.schedId s.next).getD 0), (6, (h.net.switch.map fun s => s.cycle).getD 0)]

/-- GET_SCHEDULE. -/
def getScheduleCmd : Command :=
  observeCommand 0x0400 4 Head.fromCommission (fun p _ => noTarget p && pu p 0 1 ≤ 2 && pz p 1 3) (fun _ _ => []) fun p h =>
    h.scheduleReply (if pu p 0 1 = 0 then h.net.kind else if pu p 0 1 = 1 then .base else .rescue)
def execGetSchedule (p : Packet) (s : State) : Host.Outcome State Fault Refusal := hostExec getScheduleCmd p s

/-- Largest delay of the held positions of a branch, 0xFFFF when none is known. -/
def maxDelay (ps : List Position) (c : Nat) : Nat :=
  match ps.filterMap fun p => if p.state = .held then p.delay c else none with
  | [] => 0xFFFF
  | d :: ds => ds.foldl max d

/-- GET_BRANCH. -/
def getBranchCmd : Command :=
  observeCommand 0x0401 0 Head.fromCommission (fun p h => h.listed p.target) (fun _ _ => []) fun p h =>
    let b := h.branch p.target
    let mask (t : SlotState) := sumNat (b.positions.zipIdx.map fun (x, i) => flag (x.state = t) i)
    pack [(1, h.channelState p.target 0), (1, h.channelState p.target 1), (1, b.positions.length), (1, 0), (4, mask .held),
      (4, mask .spur), (4, b.chanA.oow), (4, b.chanB.oow), (2, b.cuts), (2, b.saddleLate),
      (2, maxDelay b.positions 0), (2, maxDelay b.positions 1)]
def execGetBranch (p : Packet) (s : State) : Host.Outcome State Fault Refusal := hostExec getBranchCmd p s

/-- The position a node address names, on a branch of BRANCH_MASK. -/
def Head.listedPosition? (h : Head) (node : Nat) : Option Position :=
  if node < 1024 && h.listed (node / 32) then h.position? node else none

def slotCode : SlotState → Nat
  | .unlocked => 0 | .spur => 1 | .held => 2

/-- GET_NODE. -/
def getNodeCmd : Command :=
  observeCommand 0x0402 0 Head.fromCommission (fun p h => (h.listedPosition? p.target).isSome) (fun _ _ => []) fun p h =>
    match h.listedPosition? p.target with
    | none => []
    | some x =>
      let delay (c : Nat) := if x.state = .held then (x.delay c).getD 0xFFFF else 0xFFFF
      pack [(1, slotCode x.state), (1, h.nodeAxes p.target), (2, 0), (8, if x.state = .held then x.identity else 0),
        (2, delay 0), (2, delay 1), (2, x.silent), (6, x.joinCycle)]
def execGetNode (p : Packet) (s : State) : Host.Outcome State Fault Refusal := hostExec getNodeCmd p s

/-- RESTORE_BRANCH (R134): the channel resumes at the next boundary. -/
def restoreBranchCmd : Command :=
  blockCommand 0x0403 .operate 4 [.commission, .service, .rescue] true
    (fun p h => h.listed p.target && pu p 0 1 ≤ 1 && pz p 1 3)
    (fun p h =>
      let z := (h.branch p.target).chan (pu p 0 1)
      let window := (h.schedule?.map fun s => s.babbleWindow).getD 64
      [(!z.cut, Status.notCut), (z.oowCycles.any fun k => k + window > h.time.cycle, Status.causePresent)])
    fun p h => { head := h.setBranch p.target fun b => b.setChan (pu p 0 1) fun z => { z with restoreDue := true } }
def execRestoreBranch (p : Packet) (s : State) : Host.Outcome State Fault Refusal := hostExec restoreBranchCmd p s

/-- SET_JOIN (R143): the branch bits of both schedules. -/
def setJoinCmd : Command :=
  blockCommand 0x0404 .configure 4 [.commission, .service] true
    (fun p h => noTarget p && (pu p 0 4 = 0 || (h.net.base.any fun s => s.joinEnable)
      && (List.range 32).all fun b => !bit (pu p 0 4) b || h.listed b))
    (fun _ _ => [])
    fun p h => { head := { h with net := { h.net with
      branches := h.net.branches.mapIdx fun i (b : Branch) => { b with
        joinMask := bit (pu p 0 4) i, joinRescue := bit (pu p 0 4) i } } } }
def execSetJoin (p : Packet) (s : State) : Host.Outcome State Fault Refusal := hostExec setJoinCmd p s

/-- RELEASE_SLOT (R140): REVOKE in 8 beacons. -/
def releaseSlotCmd : Command :=
  { blockCommand 0x0405 .configure 0 [.commission, .service] true (fun p h => (h.listedPosition? p.target).isSome)
      (fun p h =>
        let b := h.branch (p.target / 32)
        [((h.nodeAxisList p.target).any (fun a => a.state ≠ .disabled), Status.slotHeld),
         (b.ext.any (fun e => e.kind = 3 && e.position = p.target % 32) || b.ext.length ≥ 8, Status.busy)])
      (fun p h => { head := h.revoke p.target }) with
    stateOk := fun p h => h.inMode [.commission, .service] && (h.listedPosition? p.target).all fun x => x.state = .held }
def execReleaseSlot (p : Packet) (s : State) : Host.Outcome State Fault Refusal := hostExec releaseSlotCmd p s

/-- GET_LANE. -/
def getLaneCmd : Command :=
  observeCommand 0x0410 0 Head.fromBoot (fun p _ => p.target < 40) (fun _ _ => []) fun p h =>
    let l := h.lane p.target
    let branch := p.target < 32
    let b := h.branch p.target
    pack [(1, l.link), (1, if branch then h.channelState p.target h.ownChannel else 0xFF), (1, flag l.inverted 0),
      (1, if branch then b.dyn.length else 0), (4, l.crcErr), (4, l.lenErr), (4, l.codeErr), (4, l.diverge), (2, l.los), (2, l.slotLost)]
      ++ leInt 2 l.calTemp ++ pack [(1, if branch then (b.chan h.ownChannel).calState else 0), (1, 0), (6, l.calCycle), (2, 0)]
def execGetLane (p : Packet) (s : State) : Host.Outcome State Fault Refusal := hostExec getLaneCmd p s

/-- CALIBRATE_LANE (R162): pending until it starts, ACCEPTED until it ends. -/
def calibrateLaneCmd : Command :=
  { blockCommand 0x0411 .operate 4 [.commission, .service, .rescue, .safe] false
      (fun p h => h.listed p.target && pu p 0 1 ≤ 1 && pz p 1 3)
      (fun p h => [(((h.branch p.target).chan (pu p 0 1)).calState ≠ 0, Status.busy)])
      (fun p h =>
        { head := h.setBranch p.target fun b => b.setChan (pu p 0 1) fun z => { z with calState := 1 }
          wait := some (.laneCalibrated (p.target + 32 * pu p 0 1)) }) with
    stateOk := fun p h => h.inMode [.commission, .service, .rescue, .safe]
      && (p.target ≥ 32 || pu p 0 1 > 1 || ((h.branch p.target).chan (pu p 0 1)).calState ≠ 0 || h.mayCalibrate p.target (pu p 0 1)) }
def execCalibrateLane (p : Packet) (s : State) : Host.Outcome State Fault Refusal := hostExec calibrateLaneCmd p s

end Sys2Proof.Machine
end

