-- ==== Sys2Proof/Machine/Rescue.lean ====
section
/-! DEFINITION. Mode and depth transitions as shared operations: the schedule each mode needs, idle depths (R48-R51),
waking (R51, R55), and the rescue plan of every mover (R56-R60). -/
namespace Sys2Proof.Machine

/-! ### The schedule a mode needs -/

/-- The schedule in force: none while the lanes are off. -/
def Head.scheduleNow (h : Head) : Option SchedKind := if h.net.running then some h.net.kind else none

/-- The schedule of a mode and depth (Tables 02-1 and 02-5); an image without a rescue schedule keeps its base schedule.
DEDUCED (log 51). -/
def Head.scheduleFor (h : Head) (m : Mode) (depth : Nat) : Option SchedKind :=
  match m, depth with
  | .rescue, _ => some (if h.net.rescue.isSome then .rescue else .base)
  | .idle, 2 => some .col
  | .idle, 3 => some .valley
  | .idle, 4 => none
  | _, _ => some .base

/-- The lanes run again after a park: beacons from the next cycle on (R54); FILL frames while they train (R158).
DEDUCED (log 51). -/
def Head.lanesOn (h : Head) (k : SchedKind) : Head :=
  Head.trainLanes { h with net := { h.net with running := true, kind := k, baseRun := 0 } } fun i => i < 32

/-- The schedule that the switches announced and waiting lead to. -/
def Head.scheduleAhead (h : Head) : Option SchedKind := match (h.net.switch.toList ++ h.net.waiting).getLast? with
  | none => h.scheduleNow
  | some s => if s.park then none else some s.next

/-- Drop the switch that is announced, and those that wait: the mode change they belong to ends without them (R51, R128). -/
def Head.withdrawSwitch (h : Head) : Head := { h with net := { h.net with switch := none, waiting := [] } }

/-- Move toward a schedule: an announcement while beacons run (R128, R54), at once while they do not.  A higher trigger
replaces what is announced; any other request waits behind it (R35, R128). -/
def Head.toSchedule (h : Head) (k : Option SchedKind) (higher : Bool) : Head :=
  let h := if higher then h.withdrawSwitch else h
  if h.scheduleAhead = k then h
  else match h.net.running, k with
    | true, some k => h.announce k false higher
    | true, none => h.announce h.net.kind true higher
    | false, some k => h.lanesOn k
    | false, none => h

/-- Begin a transition (R34). -/
def Head.beginMode (h : Head) (m : Mode) (depth cause : Nat) (origin : Option (Nat × Nat)) (higher : Bool) : Head :=
  ({ h with sys := { h.sys with transition := some { target := m, depth, cause, origin } } }).toSchedule (h.scheduleFor m depth) higher

/-- End the transition that runs: the host command behind it returns BAD_STATE (R35). -/
def Head.abandonTransition (h : Head) : Head :=
  if h.sys.transition.isSome then
    { (h.finish .transition Status.badState) with sys := { (h.finish .transition Status.badState).sys with transition := none } }
  else h

/-- The host tag and queue of an item. -/
def originOf (p : Packet) : Option (Nat × Nat) := some (p.tag, p.queue)

/-! ### Idle depths (Table 02-5) -/

/-- Exit latency of a depth in µs. -/
def exitLatency : Nat → Nat
  | 1 => 2 | 2 => 200 | 3 => 5000 | 4 => 80000 | _ => 0

/-- Every mover stopped: at rest on a zero-velocity set-point (R64). -/
def Head.moversStill (h : Head) : Bool := h.movers.all fun m => (h.axis? m.axis).all Axis.atRest
/-- Every mover at rest, no stepper moving: the precondition of Shoulder (Table 02-5). -/
def Head.allStill (h : Head) : Bool := h.moversStill && h.axes.all fun a => a.kind ≠ .stepper || a.step.atRest
/-- Every mover braked (R220). -/
def Head.allBraked (h : Head) : Bool := h.movers.all fun m => (h.axis? m.axis).all fun a => a.atRest && h.braked a
/-- Every segment de-energised: its last record was OFF. -/
def Head.deenergised (h : Head) : Bool := h.axes.all fun a => a.kind ≠ .segment || recordMode a.record = RecordMode.off

/-- The precondition of a depth (Table 02-5). -/
def Head.depthHolds (h : Head) (d : Nat) : Bool :=
  h.allStill && (d < 2 || (h.allBraked && h.deenergised)) && (d < 4 || h.cal.entries.isEmpty)

/-- The deepest depth that a tolerance in µs and the preconditions allow (R48); Shoulder at most while a debug session is
open in PROVISIONED (R434). -/
def Head.depthFor (h : Head) (tolerance : Nat) : Option Nat :=
  let limit := if h.sec.debugSession.isSome && h.sec.lifecycleNow = 1 then 1 else 4
  [4, 3, 2, 1].find? fun d => d ≤ limit && exitLatency d ≤ tolerance && h.depthHolds d

/-- DEPTH and EXIT_LATENCY of a reply. DEDUCED (log 94). -/
def depthReply (d : Nat) : List Byte := pack [(1, d), (3, 0), (4, exitLatency d)]

/-- The open debug level exceeds what a mode and depth allow (R434); entry to Col or deeper in FIELD closes the session. -/
def Head.debugForbids (h : Head) (m : Mode) (depth : Nat) : Bool :=
  h.sec.debugLevel > debugMax h.sec.lifecycleNow m depth (h.sec.debugSession.any fun d => d.token)
    && !(m = .idle && depth ≥ 2 && h.sec.lifecycleNow = 2)

/-- The head is in IDLE or entering it. -/
def Head.idling (h : Head) : Bool := match h.sys.transition with
  | none => h.sys.mode = .idle
  | some t => t.target = .idle

/-! ### Landings -/

/-- The mover stands at a landing of its track, within IN_POS (R63). -/
def Head.landing? (h : Head) (m : Mover) : Option Int :=
  let inPos := ((h.axis? m.axis).map fun a => a.motion.inPos).getD 0
  (h.track m.track).landings.find? fun c => (m.centre - c).natAbs ≤ inPos

/-- Every mover is braked at a landing (R63). -/
def Head.allLanded (h : Head) : Bool := h.allBraked && h.movers.all fun m => (h.landing? m).isSome

/-- Where a mover is, or is going: the landing of its rescue plan, else its estimate. -/
def Mover.heading (m : Mover) : Int := m.rescueTarget.getD m.centre

/-- The segments that a mover centred at `x` covers, as a range of indices of its track. -/
def Head.coverEnds (h : Head) (m : Mover) (x : Int) : Option (Nat × Nat) :=
  let half : Int := m.length / 2
  runEnds ((h.line m.track).filter fun a => a.overlaps (x - half) (x + half))

/-- A landing is free for a mover (R58): no other mover of the track stands at it or is sent to it, none is between, and the
segments around it keep the gap rule to the segments that the others cover. DEDUCED (log 52). -/
def Head.landingAllowed (h : Head) (m : Mover) (c : Int) : Bool :=
  h.movers.all fun o => o.id = m.id || o.track ≠ m.track ||
    let at_ := o.heading
    let x := m.centre
    let between := (min x c ≤ at_ && at_ ≤ max x c) || (min x c ≤ o.centre && o.centre ≤ max x c)
    !between && match h.coverEnds m c, h.coverEnds o at_ with
      | some (lo, hi), some (ol, oh) => hi + (h.track m.track).gap < ol || oh + (h.track m.track).gap < lo
      | _, _ => true

/-- The nearest of some landings to a coordinate, the lower one on a tie. -/
def nearestLanding (x : Int) : List Int → Option Int
  | [] => none
  | c :: cs => some (cs.foldl (fun b y =>
      if (y - x).natAbs < (b - x).natAbs || ((y - x).natAbs = (b - x).natAbs && y < b) then y else b) c)

/-- The landing a stationary mover goes to (R58, R59). -/
def Head.restLanding (h : Head) (m : Mover) : Option Int :=
  let x := m.centre
  let all := (h.track m.track).landings
  let free := all.filter fun c => h.landingAllowed m c
  match nearestLanding x all with
  | none => none
  | some c =>
    let same := free.filter fun y => if c < x then y < x else y ≥ x
    (nearestLanding x same).orElse fun _ => nearestLanding x free

/-- The first allowed landing at or beyond a stopping point in the direction of travel (R58). -/
def Head.movingLanding (h : Head) (m : Mover) (stop : Int) (up : Bool) : Option Int :=
  let free := (h.track m.track).landings.filter fun c => (if up then stop ≤ c else c ≤ stop) && h.landingAllowed m c
  nearestLanding stop free

/-! ### The rescue plan (R58, R59) -/

/-- A mover that no landing takes: it stops on the rescue profile, brakes, and is reported (R59). -/
def Head.blockRescue (h : Head) (m : Mover) (report : Bool) : Head :=
  let h := h.setMover m.id fun x => { x with rescueTarget := none }
  let h := h.setAxis m.axis fun a => { a with motion := { a.motion with brakeRelease := false, dwellEnd := none } }
  let h := { h with sys := { h.sys with blocked := if h.sys.blocked.contains m.id then h.sys.blocked else h.sys.blocked ++ [m.id] } }
  if report then h.postAt 0x0110 0 m.id h.now h.time.cycle (leInt 4 m.centre ++ pack [(1, m.track), (3, 0)]) else h

/-- Plan a mover that stands still (R58, R59): nothing to do at a landing. -/
def Head.rescueAtRest (h : Head) (m : Mover) (report : Bool) : Head :=
  match h.restLanding m, h.axis? m.axis with
  | some c, some a =>
    let h := { h with sys := { h.sys with blocked := h.sys.blocked.filter fun b => b ≠ m.id } }
    let h := h.setMover m.id fun x => { x with rescueTarget := some c }
    if h.landing? m = some c then h else h.startMove a c 2
  | none, some _ => h.blockRescue m report
  | _, none => h

/-- Replan a mover under way with the rescue limits (R58, R59): a commissioning move stops on its ramp, and a host stop gives
way to the plan with STOPPED (R223). -/
def Head.rescueMoving (h : Head) (m : Mover) (a : Axis) : Head :=
  let onRamp := a.motion.move = .moving && a.motion.set = 1
  let h := h.finish (.stopped a.id) Status.stopped
  let a := { a with motion := { a.motion with
    move := .moving, quick := false, after := .rest, set := if onRamp then 1 else 2 } }
  let h := h.setAxis a.id fun _ => a
  let k := a.motion.at (h.effectSample a)
  let stop := roundDiv (stopPoint k (a.motion.limits.getD 2 ⟨1, 1, 1⟩)) 65536
  match if onRamp then none else h.movingLanding m stop (k.v ≥ 0) with
  | some c => (h.setMover m.id fun x => { x with rescueTarget := some c }).startMove a c 2
  | none => h.startStop a false false .rescue

/-- Replan one mover (R58, R59, R223): one that stands, or waits for its brakes, is stationary; a stop for a fault, or for a
disable, goes on. DEDUCED (log 52). -/
def Head.rescueMover (h : Head) (id : Nat) : Head :=
  match h.mover? id with
  | none => h
  | some m => match h.axis? m.axis with
    | none => h
    | some a =>
      if a.state ≠ .enabled || (h.range a.range).state ≠ .running then h
      else if a.atRest then h.rescueAtRest m true
      else if a.motion.move = .faultStop || a.motion.after = .disable then h
      else if a.motion.move = .moving && a.motion.brakeWait.isSome then match h.restLanding m with
        | some c => (h.setMover id fun x => { x with rescueTarget := some c }).startMove a c 2
        | none => h.startStop a false false .rescue
      else h.rescueMoving m a

/-- An entry to RESCUE starts: movers are planned again and MODE_CHANGED is posted with TRANSITION set (R37, R58).
DEDUCED (log 54). -/
def Head.startRescue (h : Head) (cause : Nat) (origin : Option (Nat × Nat)) (trigger : Bool) : Head :=
  let h := h.abandonTransition
  let h : Head := { h with
    sys := { h.sys with blocked := [] }
    movers := h.movers.map fun (m : Mover) => { m with rescueTarget := none } }
  let h := h.beginMode .rescue 0 cause origin trigger
  let h := (h.movers.map fun m => m.id).foldl (init := h) fun (h : Head) m => h.rescueMover m
  h.postMode cause origin

/-- A rescue trigger qualifies (R56, R58): recorded in IDLE with every mover at a landing, otherwise the entry begins. -/
def Head.enterRescue (h : Head) (cause : Nat) (origin : Option (Nat × Nat)) : Head :=
  let h := { h with sys := { h.sys with onBattery := true } }
  if h.sys.mode = .idle && h.allLanded then h else h.startRescue cause origin true

/-- Leave IDLE, or abandon an entry to it with the switch announced for it, for SERVICE, or for RESCUE on battery, which is an
entry to RESCUE unless the head is still in it (R37, R51, R55, R63). DEDUCED (log 54). -/
def Head.wake (h : Head) (cause : Nat) (origin : Option (Nat × Nat)) : Head :=
  let h := h.withdrawSwitch
  if !h.sys.onBattery then h.abandonTransition.beginMode .service 0 cause origin false
  else if h.sys.mode = .rescue then h.abandonTransition.beginMode .rescue 0 cause origin false
  else h.startRescue cause origin false

/-- May a trigger take the head to RESCUE now (Table 02-2, R35)? -/
def Head.mayRescue (h : Head) : Bool :=
  h.commands && match h.sys.transition with
    | some t => h.inMode [.commission, .service, .idle, .rescue] && t.target ≠ .rescue
    | none => h.inMode [.commission, .service, .idle]

/-- A network with movers may enter SERVICE only with a valid rescue schedule (R47, R61). -/
def Head.rescueReady (h : Head) : Bool :=
  h.movers.isEmpty || (h.net.rescue.isSome && h.net.checkRescue = .passed && rescueUpdates h.ranges h.axes ≤ 8192000)

/-- Every node holds its slot and the schedule check has passed (R47). -/
def Head.networkReady (h : Head) : Bool := h.sys.built && h.sys.checked && h.networkComplete

end Sys2Proof.Machine
end

