-- ==== Sys2Proof/Machine/ModeRows.lean ====
section
/-! DEFINITION. The rows of chapter 02: commands of block 0x01 but SYSTEM_RESET (R66), transitions (R34), wake sources (R55),
rescue triggers (R56), the end of the rescue (R63), AUTO_SERVICE (R47). -/
namespace Sys2Proof.Machine

/-! ### Commands -/

/-- GET_SYSTEM_STATUS. -/
def getSystemStatusCmd : Command :=
  observeCommand 0x0100 0 Head.fromBoot (fun p _ => noTarget p) (fun _ _ => []) fun _ h =>
    pack [(4, h.sysState), (6, h.time.cycle), (2, 0), (4, if h.sys.mode = Mode.idle then h.sys.tolerance else 0), (8, h.sys.modeTime)]
def execGetSystemStatus (p : Packet) (s : State) : Host.Outcome State Fault Refusal := hostExec getSystemStatusCmd p s

/-- An S4 latch whose cause is present (R36). -/
def Head.s4Present (h : Head) : Bool := (List.range 10).any fun c => h.latched 0 c && h.causePresent 0 c

/-- The transitions that SET_MODE may ask for (Table 02-2), with the debug level's rule (R434). -/
def Head.modeAllowed (h : Head) (target : Nat) : Bool :=
  let ok := match h.sys.mode, target with
    | .commission, 3 => !h.debugForbids .service 0
    | .commission, 4 => true
    | .service, 2 => true
    | .service, 4 => true
    | .rescue, 3 => !h.debugForbids .service 0
    | .idle, 4 => true
    | .safe, 2 => !h.hasS4 || h.s4Present
    | .commission, t => t < 2 || t > 4
    | .service, t => t < 2 || t > 4
    | .rescue, t => t < 2 || t > 4
    | .safe, t => t < 2 || t > 4
    | _, _ => false
  ok && h.inMode [.commission, .service, .rescue, .safe, .idle]

/-- SET_MODE (R33, R36, R47, R56, R64). DEDUCED (log 51). -/
def setModeCmd : Command :=
  { opcode := 0x0101, cls := .operate, len := lenIs 4, active := true
    stateOk := fun p h => h.modeAllowed (pu p 0 1)
    paramOk := fun p _ => noTarget p && 2 ≤ pu p 0 1 && pu p 0 1 ≤ 4 && pz p 1 3
    refusals := fun p h =>
      let target := pu p 0 1
      [ (h.sys.mode = .service && target = 2 && !h.allBraked, Status.notAtRest),
        (h.sys.mode = .rescue && target = 3 && !h.moversStill, Status.notAtRest),
        (h.sys.mode = .commission && target = 3 && !h.rescueReady, Status.noRescueSchedule),
        (h.sys.mode = .commission && target = 3 && !h.networkReady, Status.networkIncomplete),
        (h.sys.mode = .safe && h.s4Present, Status.causePresent),
        (h.sys.transition.isSome, Status.busy) ]
    effect := fun p h =>
      let target := pu p 0 1
      if target = 4 then
        let h := h.enterRescue 1 (originOf p)
        if h.sys.transition.isSome then { head := h, wait := some .transition } else { head := h }
      else
        let h := { h with sys := { h.sys with onBattery := h.sys.onBattery && target ≠ 3 } }
        let h := if h.sys.mode = .rescue then h.powerTiles else h
        { head := h.beginMode (if target = 2 then .commission else .service) 0 1 (originOf p) false, wait := some .transition } }
def execSetMode (p : Packet) (s : State) : Host.Outcome State Fault Refusal := hostExec setModeCmd p s

/-- ENTER_IDLE (R48). DEDUCED (log 94). -/
def enterIdleCmd : Command :=
  { opcode := 0x0102, cls := .operate, len := lenIs 8, active := true
    stateOk := fun p h => h.inMode [.service]
      && (h.depthFor (pu p 0 4)).all fun d => !h.debugForbids .idle d
    paramOk := fun p _ => noTarget p && 2 ≤ pu p 0 4 && pu p 4 1 < 8 && pu p 5 1 < 64 && pz p 6 2
    refusals := fun p h => [((h.depthFor (pu p 0 4)).isNone, Status.notAtRest), (h.sys.transition.isSome, Status.busy)]
    effect := fun p h =>
      let d := (h.depthFor (pu p 0 4)).getD 1
      let h := { h with sys := { h.sys with tolerance := pu p 0 4, wakeSources := pu p 4 1, wakeInput := pu p 5 1 } }
      { head := h.beginMode .idle d 1 (originOf p) false, reply := depthReply d, wait := some .transition } }
def execEnterIdle (p : Packet) (s : State) : Host.Outcome State Fault Refusal := hostExec enterIdleCmd p s

/-- SET_TOLERANCE (R48, R50): below 2 µs it wakes the head. DEDUCED (log 94). -/
def setToleranceCmd : Command :=
  { opcode := 0x0103, cls := .operate, len := lenIs 4, active := true
    stateOk := fun p h => h.inMode [.idle] && (pu p 0 4 < 2 || (h.depthFor (pu p 0 4)).all fun d => !h.debugForbids .idle d)
    paramOk := fun p _ => noTarget p
    refusals := fun _ h => [(h.sys.transition.isSome, Status.busy)]
    effect := fun p h =>
      let tolerance := pu p 0 4
      if tolerance < 2 then { head := h.wake 1 (originOf p), reply := depthReply 0, wait := some .transition }
      else
        let d := (h.depthFor tolerance).getD h.sys.depth
        let h := { h with sys := { h.sys with tolerance } }
        if d = h.sys.depth then { head := h, reply := depthReply d }
        else { head := h.beginMode .idle d 1 (originOf p) false, reply := depthReply d, wait := some .transition } }
def execSetTolerance (p : Packet) (s : State) : Host.Outcome State Fault Refusal := hostExec setToleranceCmd p s

/-- WAKE (R51, R55, R63). -/
def wakeCmd : Command :=
  { opcode := 0x0104, cls := .operate, len := lenIs 0, active := true
    stateOk := fun _ h => h.inMode [.idle] || h.idling
    paramOk := fun p _ => noTarget p
    refusals := fun _ h => [(!h.idling, Status.busy)]
    effect := fun p h => { head := h.wake 1 (originOf p), wait := some .transition } }
def execWake (p : Packet) (s : State) : Host.Outcome State Fault Refusal := hostExec wakeCmd p s

/-- SET_RESCUE_POLICY (R56). -/
def setRescuePolicyCmd : Command :=
  blockCommand 0x0105 .configure 8 [.commission, .service] true
    (fun p _ => noTarget p && pu p 0 1 < 8 && bits (pu p 1 1) 6 5 = 0 && 400 ≤ pu p 2 2 && pu p 2 2 ≤ 6000 && 2 ≤ pu p 4 4)
    (fun _ _ => [])
    fun p h => { head := { h with sys := { h.sys with
      triggers := pu p 0 1 / 2 * 2 + 1, mainsInput := pu p 1 1, vinThreshold := pu p 2 2, restTolerance := pu p 4 4 } } }
def execSetRescuePolicy (p : Packet) (s : State) : Host.Outcome State Fault Refusal := hostExec setRescuePolicyCmd p s

/-! ### Events -/

/-- What the transition waits for is there: its schedule, and for RESCUE the gated tiles (Table 02-6). -/
def Head.transitionReady (h : Head) (t : Transition) : Bool :=
  h.scheduleNow = h.scheduleFor t.target t.depth && h.net.switch.isNone && (t.target ≠ .rescue || h.sys.tilesGated)

/-- MODE_TRANSITION_DONE: the new mode or depth is reached (R34); a wake source that waited is judged against it (R35). -/
def execModeTransitionDone (s : State) : Host.Outcome State Fault Refusal :=
  eventExec true (fun h => match h.sys.transition with
    | none => h
    | some t =>
      if !h.transitionReady t then h
      else
        let h := h.reachMode t.target t.depth t.cause t.origin
        let waiting := h.sys.waitingWake
        let h := { h with sys := { h.sys with waitingWake := false } }
        if waiting && h.sys.mode = .idle then h.wake 3 none else h) s

/-- An event of wake source 0 the field input, 1 a node's request, 2 the RTC alarm; an enabled one wakes the head (R55), a
node's not at Moraine.  One that arrives in another transition waits for its end (R35). DEDUCED (log 54). -/
def Head.wakeBy (h : Head) (source : Nat) : Head :=
  if !bit h.sys.wakeSources source || !h.commands || (source = 1 && h.sys.depth = 4) then h
  else if h.idling then h.wake 3 none
  else if h.sys.transition.isSome then { h with sys := { h.sys with waitingWake := true } }
  else h

/-- The named input stands at the level of its named edge (R55). -/
def Head.wakeEdge (h : Head) : Bool := (h.fieldIn (h.sys.wakeInput % 32)).level = !bit h.sys.wakeInput 5

/-- WAKE_SOURCE (R55); a node's request is one that a POLL reply has brought (Table 06-9). -/
def execWakeSource (source : Nat) (s : State) : Host.Outcome State Fault Refusal :=
  eventExec (source < 3) (fun h =>
    if source = 0 && !h.wakeEdge then h
    else if source = 1 then
      if h.sys.nodeWake then Head.wakeBy { h with sys := { h.sys with nodeWake := false } } 1 else h
    else h.wakeBy source) s

/-- The mains-status field input reads mains failed (R56). -/
def Head.mainsFailed (h : Head) : Bool := (h.fieldIn (h.sys.mainsInput % 32)).level = bit h.sys.mainsInput 7

/-- RESCUE_TRIGGER_FIELD_INPUT (R56). -/
def execRescueTriggerFieldInput (s : State) : Host.Outcome State Fault Refusal :=
  eventExec true (fun h =>
    if bit h.sys.triggers 1 && h.mainsFailed && h.mayRescue then h.enterRescue 5 none else h) s

/-- RESCUE_TRIGGER_VIN: VIN, in 10 mV, has stayed below the rescue threshold for 1 ms (R56). -/
def execRescueTriggerVin (vin : Nat) (s : State) : Host.Outcome State Fault Refusal :=
  eventExec true (fun h =>
    let h := if h.fromBoot then { h with power := { h.power with vin } } else h
    if bit h.sys.triggers 2 && vin < h.sys.vinThreshold && h.mayRescue then h.enterRescue 6 none else h) s

/-- G0 axes placed on a tile. -/
def Head.g0On (h : Head) (t : Nat) : Nat :=
  (h.axes.filter fun a => a.place.tile = t && (h.range a.range).cls = 0).length

/-- The four tiles kept in RESCUE: those with the most G0 axes, the lower number on a tie (R277). -/
def Head.keptTiles (h : Head) : List Nat :=
  let usable := (List.range 16).filter fun t => (h.compute.tiles.getD t {}).state ≠ .lost
  usable.filter fun t => (usable.filter fun u => h.g0On u > h.g0On t || (h.g0On u = h.g0On t && u < t)).length < 4

/-- RESCUE_TILES_GATED: the 12 other tiles are power-gated once every axis has left them (Table 02-6). -/
def execRescueTilesGated (s : State) : Host.Outcome State Fault Refusal :=
  eventExec true (fun h =>
    let kept := h.keptTiles
    let moved := h.axes.all fun a => a.place.tile ≥ 16 || kept.contains a.place.tile
    if (h.sys.transition.any fun t => t.target = .rescue) && h.scheduleNow = h.scheduleFor .rescue 0 && h.net.switch.isNone && moved then
      { h with
        sys := { h.sys with tilesGated := true }
        compute := { h.compute with tiles := h.compute.tiles.mapIdx fun t (x : Tile) =>
          if x.state = .up && !kept.contains t then { x with state := .gated } else x } }
    else h) s

/-- The rest that follows RESCUE_DONE begins in the first cycle in which the preconditions of a depth hold, and again once an
entry to it has been abandoned (R51, R63). -/
def Head.restAfterRescue (h : Head) : Head :=
  if h.sys.mode = .rescue && h.sys.transition.isNone && h.sys.rescueDone && h.commands && h.allLanded then
    match h.depthFor h.sys.restTolerance with
    | some d => ({ h with sys := { h.sys with tolerance := h.sys.restTolerance } }).beginMode .idle d 7 none false
    | none => h
  else h

/-- RESCUE_DONE: every mover is braked at a landing; the head rests in IDLE (R63). -/
def execRescueDone (s : State) : Host.Outcome State Fault Refusal :=
  eventExec true (fun h =>
    if h.sys.mode ≠ .rescue || h.sys.transition.isSome || h.sys.rescueDone || !h.commands || !h.allLanded then h
    else (({ h with sys := { h.sys with rescueDone := true } }).post 0x0111 0 0xFFFF []).restAfterRescue) s

/-- AUTO_SERVICE: SERVICE without a host, once its conditions hold (R47). -/
def execAutoService (s : State) : Host.Outcome State Fault Refusal :=
  eventExec true (fun h =>
    if h.sys.mode = .commission && h.sys.autoService && h.commands && h.sys.transition.isNone && h.rescueReady && h.networkReady then
      h.beginMode .service 0 2 none false
    else h) s

/-- The per-cycle test of the depth's precondition: a rise to the deepest depth that still holds, or the return to SERVICE
(R49). -/
def Head.testDepth (h : Head) : Head :=
  if h.sys.mode ≠ .idle || h.sys.transition.isSome || !h.commands || h.depthHolds h.sys.depth then h
  else match [3, 2, 1].find? fun d => d < h.sys.depth && h.depthHolds d with
    | some d => h.beginMode .idle d 4 none false
    | none => h.beginMode .service 0 4 none false

/-- Blocked movers are planned again while the rescue lasts (R59). -/
def Head.retryBlocked (h : Head) : Head :=
  if h.sys.mode = .rescue then
    h.sys.blocked.foldl (init := h) fun (h : Head) id => match h.mover? id with
      | some m => if (h.axis? m.axis).any fun a => a.atRest && a.state = .enabled then h.rescueAtRest m false else h
      | none => h
  else h

/-- In SAFE and COMMISSION the base schedule comes back (Table 02-1). DEDUCED (log 51). -/
def Head.restoreBase (h : Head) : Head :=
  if h.inMode [.safe, .commission] && h.commands && h.net.running && h.net.kind ≠ .base && h.net.switch.isNone then
    h.announce .base false false
  else h

end Sys2Proof.Machine
end

