-- ==== Sys2Proof/Machine/Steppers.lean ====
section
/-! DEFINITION. The commands and events of the stepper axes (R329-R340). -/
namespace Sys2Proof.Machine

/-! ### Moves -/

/-- A stepper axis that a command's axis reference names. -/
def stepAxis? (p : Packet) (h : Head) : Option Axis := (targetAxis? p h).filter fun a => a.kind = .stepper

/-- The commands of a standby head's own channels are its own (R237, R340). -/
def remoteTarget (p : Packet) (h : Head) : Bool := !((stepAxis? p h).any fun a => a.localStep)

/-- CHATTER of the axis is latched (R338). -/
def Stepper.chatters (s : Stepper) : Bool := s.flags.getLsbD 7

/-- The direction of a move points into an active limit (R334). -/
def Head.intoLimit (h : Head) (a : Axis) (target : Int) : Bool :=
  let here := (a.step.at h.now).1
  (target * 65536 > here && h.stepInput a.step 0) || (target * 65536 < here && h.stepInput a.step 1)

/-- The target of a move, microsteps. -/
def Head.stepTarget (h : Head) (a : Axis) (relative : Bool) (position : Int) : Int :=
  if relative then roundDiv (a.step.at h.now).1 65536 + position else position

/-- A signed 32-bit position (R317). DEDUCED (log 29). -/
def position32 (x : Int) : Bool := -(2 ^ 31) ≤ x && x < 2 ^ 31

/-- The axis may take a move: ENABLED and computed (R101), not homing, no member of a moving group (R333).
DEDUCED (log 29). -/
def Head.stepMovable (h : Head) (a : Axis) : Bool :=
  a.state = .enabled && (h.range a.range).state = .running && a.step.state ≠ .homing
    && !(a.step.state = .moving && a.step.group.isSome)

/-- The block codes that refuse a move (R331, R333, R334, R338). -/
def Head.stepRefusals (h : Head) (a : Axis) (relative : Bool) (target : Int) : List (Bool × Nat) :=
  [(a.step.state = .stopping, Status.stepStopping), (h.intoLimit a target, Status.atLimit),
   (a.step.chatters, Status.inputChatter),
   (a.step.cfg.requireHome && !relative && !a.step.flags.getLsbD 0, Status.notHomed)]

/-- The status that refuses a move of one axis, none when it is legal: the checks of MOVE_STEPPER (R333). -/
def Head.moveRefusal (h : Head) (a : Axis) (relative : Bool) (position : Int) : Option Nat :=
  let target := h.stepTarget a relative position
  firstRefusal ([(!h.stepMovable a, Status.badState), (!position32 target, Status.badParam)] ++ h.stepRefusals a relative target)

/-- A move's start at a head time (R330): planned from the state planned for that instant; a move that runs is superseded. -/
def Head.startSteps (h : Head) (a : Axis) (target : Int) (t0 : Nat) : Head :=
  let h := if a.step.state = .moving then h.finish (.stepped a.id) Status.stepSuperseded else h
  let limits := a.step.limits.getD 0 (1, 1)
  let (p, v) := a.step.at t0
  h.setStep a.id fun s => { s with
    ramp := some (planRamp t0 p v target limits.1 limits.2), target, state := .moving, quick := false, faultStop := false }

/-- Head time of the next trigger of an axis's range (R332). -/
def Head.nextTrigger (h : Head) (a : Axis) : Nat :=
  let d := max (h.divisorOf a.range) 1
  let k := ((List.range d).find? fun k => (h.time.cycle + 1 + k) % d = a.place.phase % d).getD 0
  h.time.cycleStart + (k + 1) * h.cycleNs

/-- Distance of one member, 16 fraction bits. -/
def memberDist (m : Axis × Int) : Int := m.2 * 65536 - m.1.step.pos

/-- The member with the largest distance, the first of equals (R332). -/
def groupLeader : List (Axis × Int) → Option (Axis × Int)
  | [] => none
  | m :: rest => match groupLeader rest with
    | none => some m
    | some n => if (memberDist n).natAbs > (memberDist m).natAbs then some n else some m

/-- The least of a limit over the members, each scaled to the leader's distance (R332). -/
def groupLimit (dmax : Nat) (f : Nat × Nat → Nat) (ms : List (Axis × Int)) : Nat :=
  (ms.filterMap fun m =>
    let d := (memberDist m).natAbs
    if d = 0 then none else some (f (m.1.step.limits.getD 0 (1, 1)) * dmax / d)).foldl min (2 ^ 31 - 1)

/-- A group's start: every member follows the leader's trapezoid scaled, from one range trigger on (R332). -/
def Head.startGroup (h : Head) (ms : List (Axis × Int)) : Head × Nat := match groupLeader ms with
  | none => (h, 0)
  | some l =>
    let dmax := memberDist l
    let r := planRamp (h.nextTrigger l.1) l.1.step.pos 0 l.2 (groupLimit dmax.natAbs (fun x => x.1) ms)
      (groupLimit dmax.natAbs (fun x => x.2) ms)
    (ms.foldl (init := h) fun (h : Head) (m : Axis × Int) => h.setStep m.1.id fun s => { s with
      ramp := some { r with scale := some (s.pos, memberDist m, dmax) }
      target := m.2, state := .moving, quick := false, faultStop := false, group := some l.1.id }, l.1.id)

/-! ### Homing -/

/-- The phase's motion: seek and reverse run toward a point beyond MAX_DIST (R335, R336). -/
def Homing.sense (g : Homing) : Int := if g.negative then -1 else 1

/-- Start the sequence from rest (Table 12-5, R335). -/
def Head.startHoming (h : Head) (a : Axis) (g : Homing) : Head :=
  let here := roundDiv a.step.pos 65536
  let limits := a.step.limits.getD 2 (1, 1)
  let already := g.mode ≠ 2 && h.stepInput a.step (if g.mode = 0 then 2 else if g.negative then 1 else 0)
  let back := already
  let vmax := if back || g.mode = 2 then g.vcreep else limits.1
  let far := here + (if back then -g.sense else g.sense) * (g.maxDist + 2 ^ 33)
  h.setStep a.id fun s => { s with
    ramp := some (planRamp h.now s.pos 0 far vmax limits.2), target := g.homePos, state := .homing, quick := false
    homing := some { g with phase := if back then .back else .seek, start := here, back := here, since := h.now, edge := none } }

/-- The number of the input that a homing mode uses: 2 the home input, 0 or 1 the limit of the direction. -/
def Homing.input (g : Homing) : Nat := if g.mode = 0 then 2 else if g.negative then 1 else 0

/-- Progress of a homing sequence at a snapshot or cycle: the switch ends the fast phase, its ramp ends in the reverse
phase, and the edge of the reverse phase is kept (Table 12-5, R335). -/
def Head.homingProgress (h : Head) (t : Nat) (id : Nat) : Head :=
  match h.axis? id with
  | none => h
  | some a => match a.step.homing with
    | none => h
    | some g =>
      let amax := (a.step.limits.getD 2 (1, 1)).2
      let on := h.stepInput a.step g.input
      let (p, v) := a.step.at h.now
      match g.phase with
      | .seek =>
        if g.mode = 2 || !on then h
        else h.setStep id fun s => { s with
          ramp := some (planRampStop h.now p v amax), homing := some { g with phase := .ramp } }
      | .ramp =>
        if (a.step.ramp.any fun r => h.now < r.ends) then h
        else
          let here := roundDiv p 65536
          h.setStep id fun s => { s with
            ramp := some (planRamp h.now p 0 (here - g.sense * (g.maxDist + 2 ^ 33)) g.vcreep amax), pos := p
            homing := some { g with phase := .back, back := here } }
      | .back => if !on && g.edge = none then h.setStep id fun s => { s with homing := some { g with edge := some t } } else h
      | .toHome => h

/-- The head time of the latch, when it has come (Table 12-5, R335): the snapshot of the edge, or INDEX_TIME. -/
def Head.latchInstant (h : Head) (a : Axis) (g : Homing) : Option Nat :=
  if g.mode = 2 then
    if g.phase = .seek then
      (h.channels.find? fun c => c.cfg.use = 1 && c.cfg.owner = a.id && c.indexDir.isSome && c.indexTime ≥ g.since).map
        fun c => c.indexTime
    else none
  else if g.phase = .back then g.edge else none

/-- HOMING_LATCH (R335): the position at the latch instant becomes HOME_POS, ENC_OFFSET makes λ zero there, and the axis
moves at VCREEP to HOME_POS. DEDUCED (log 30). -/
def execHomingLatch (axis : Nat) (s : State) : Host.Outcome State Fault Refusal :=
  eventExec (axis < 4096) (fun h => match h.axis? axis with
    | none => h
    | some a => match a.step.homing with
      | none => h
      | some g => match h.latchInstant a g with
        | none => h
        | some t =>
          let was := if a.localStep then roundDiv ((h.steps.getD a.stepChannel {}).accAt t) 65536 else (a.step.at t).1
          let shift := g.homePos * 65536 - was
          let (p, v) := a.step.at h.now
          let amax := (a.step.limits.getD 2 (1, 1)).2
          let enc := if !a.step.cfg.encoder then none
            else if a.localStep then
              (h.channels.find? fun c => c.cfg.use = 1 && c.cfg.owner = a.id).map fun c =>
                toSigned 32 (if g.mode = 2 then c.indexCount else c.count)
            else h.encoder? a
          let h := if a.localStep then
              { h with steps := setAt a.stepChannel (fun (c : StepChannel) => { c with acc := c.acc + shift * 65536 }) h.steps } else h
          h.setStep axis fun s => { s with
            ramp := some (planRamp h.now (p + shift) v g.homePos g.vcreep amax), pos := p + shift
            encOffset := match enc with
              | some e => g.homePos - s.encoderSteps e
              | none => s.encOffset
            homing := some { g with phase := .toHome } }) s

/-- HOMED (R335). -/
def execHomed (axis : Nat) (s : State) : Host.Outcome State Fault Refusal :=
  eventExec (axis < 4096) (fun h => match h.axis? axis with
    | none => h
    | some a =>
      if (a.step.homing.any fun g => g.phase = .toHome) && (a.step.ramp.all fun r => r.ends ≤ h.now) then
        let h := h.setStep axis fun s => { s with
          pos := (s.at h.now).1, ramp := none, state := .idle, homing := none, vel := 0, lastMotion := some h.now
          flags := s.flags ||| 1 }
        (h.postFor 0x0A03 axis (.homed axis)).finish (.homed axis) Status.ok
      else h) s

/-- Does the sequence fail now (R336)? -/
def Head.homingFails (h : Head) (a : Axis) (g : Homing) : Bool :=
  let s := a.step
  let here := roundDiv (s.at h.now).1 65536
  let (lead, other) := if g.negative then (1, 0) else (0, 1)
  let forward := g.phase = .seek || g.phase = .ramp || (g.phase = .toHome && (g.homePos - here) * g.sense > 0)
  let toward := if forward then lead else other
  let limit := if g.mode = 1 then h.stepInput s other else h.stepInput s toward
  let inputs := if g.mode = 0 then [0, 1, 2] else [0, 1]
  limit
    || ((g.phase = .seek || g.phase = .ramp) && (here - g.start).natAbs > g.maxDist)
    || (g.phase = .back && g.edge = none && (here - g.back).natAbs > g.maxDist)
    || (s.chatters && inputs.any fun k => s.inputOf k < 32 && h.latched (srcInput (s.inputOf k)) 2)

/-- The end of a homing sequence that failed: a ramped stop with set 2, HOMED clear (R336). DEDUCED (log 30). -/
def Head.failHoming (h : Head) (a : Axis) : Head :=
  let h := h.postFor 0x0A04 a.id (.homed a.id)
  let h := h.stopSteps a 2 false false Status.homingFailed
  h.setStep a.id fun s => Stepper.unhome { s with flags := s.flags ||| 0x1000 }

/-- HOMING_FAILED (R336). -/
def execHomingFailed (axis : Nat) (s : State) : Host.Outcome State Fault Refusal :=
  eventExec (axis < 4096) (fun h => match h.axis? axis with
    | none => h
    | some a => if a.step.homing.any fun g => h.homingFails a g then h.failHoming a else h) s

/-! ### Events -/

/-- BRIDGE_FAULT (R323, R337): STn_BFLT_N low for 1 µs drives the channel's outputs low and raises S2 on the axis; high again
ends the condition. -/
def execBridgeFault (channel : Nat) (low : Bool) (s : State) : Host.Outcome State Fault Refusal :=
  eventExec (channel < 8) (fun h =>
    let h : Head := { h with steps := setAt channel (fun (c : StepChannel) =>
      if low then { c with fault := true, dir := false, vel := 0, ticks := 0, delayed := [], duty := (0, 0, 0, 0) }
      else { c with fault := false }) h.steps }
    if !low then h
    else match h.axes.find? fun a => a.localStep && a.stepChannel = channel with
      | none => h
      | some a =>
        let h := h.setStep a.id fun s => Stepper.unhome { s with flags := s.flags ||| 0x100 }
        (h.raise (srcAxis a.id) 10).post 0x0A08 0 a.id []) s

/-- STALL (R329, R337). -/
def execStall (axis : Nat) (s : State) : Host.Outcome State Fault Refusal :=
  eventExec (axis < 4096) (fun h => match h.axis? axis with
    | none => h
    | some a =>
      if a.kind = .stepper && a.step.cfg.encoder && a.step.stallRun ≥ a.step.cfg.stallCycles then
        let h := h.setStep axis fun s => Stepper.unhome { s with flags := s.flags ||| 0x40, stallRun := 0 }
        (h.raise (srcAxis axis) 9).post 0x0A05 0 axis []
      else h) s

/-- Motion ends where its plan ends. -/
def Head.restSteps (h : Head) (id : Nat) : Head :=
  h.setStep id fun s => { s with
    pos := roundDiv (s.at h.now).1 65536 * 65536, vel := 0, ramp := none, state := .idle, group := none, quick := false
    faultStop := false, lastMotion := some h.now }

/-- STEPPER_DONE (R331): the plan has reached its target; a group's is posted once and names the leader (R332). -/
def execStepperDone (axis : Nat) (s : State) : Host.Outcome State Fault Refusal :=
  eventExec (axis < 4096) (fun h => match h.axis? axis with
    | none => h
    | some a =>
      if a.kind = .stepper && a.step.state = .moving && (a.step.group.all fun l => l = axis)
          && (a.step.ramp.all fun r => r.ends ≤ h.now) then
        let members := (h.members a).map fun x => x.id
        let h := members.foldl (init := h) fun (h : Head) id => h.restSteps id
        (h.postFor 0x0A01 axis (.stepped axis)).finish (.stepped axis) Status.ok
      else h) s

/-- STEPPER_STOP_DONE (R333). -/
def execStepperStopDone (axis : Nat) (s : State) : Host.Outcome State Fault Refusal :=
  eventExec (axis < 4096) (fun h => match h.axis? axis with
    | none => h
    | some a =>
      if a.kind = .stepper && a.step.state = .stopping && (a.step.ramp.all fun r => r.ends ≤ h.now) then
        ((h.restSteps axis).postFor 0x0A02 axis (.stepStopped axis)).finish (.stepStopped axis) Status.ok
      else h) s

/-- LIMIT_TRIPPED (R334): a limit became active during motion toward it, outside homing: a quick stop. -/
def execLimitTripped (axis : Nat) (positive : Bool) (s : State) : Host.Outcome State Fault Refusal :=
  eventExec (axis < 4096) (fun h => match h.axis? axis with
    | none => h
    | some a =>
      let v := (a.step.at h.now).2
      if a.kind = .stepper && (a.step.state = .moving || (a.step.state = .stopping && !a.step.quick))
          && (if positive then v > 0 else v < 0) && h.stepInput a.step (if positive then 0 else 1) then
        ((h.raise (srcAxis axis) 26).post 0x0A06 0 axis []).stopSteps a 1 true false Status.stepStopped
      else h) s

/-- CHATTER (R336, R338): the input is latched as chattering, and the axis that names it stops. DEDUCED (log 53). -/
def execChatter (input : Nat) (s : State) : Host.Outcome State Fault Refusal :=
  eventExec (input < 32) (fun h =>
    match h.axes.find? fun a => a.kind = .stepper && (List.range 3).any fun k => a.step.inputOf k = input with
    | none => h
    | some a =>
      if !h.chattering input || h.latched (srcInput input) 2 then h
      else
        let h := h.setStep a.id fun s => { s with flags := s.flags ||| 0x80 }
        let h := (h.raise (srcInput input) 2).post 0x0A07 0 a.id []
        match h.axis? a.id with
        | none => h
        | some a => match a.step.homing with
          | some g => if h.homingFails a g then h.failHoming a else h.stopSteps a 2 false false Status.stepStopped
          | none => h.stopSteps a 0 false false Status.stepStopped) s

/-! ### Commands (R340) -/

/-- A command of block 0x0A that changes something. -/
def stepCommand (opcode : Nat) (cls : Cls) (n : Nat) (state : Axis → Head → Bool) (param : Axis → Packet → Head → Bool)
    (refusals : Axis → Packet → Head → List (Bool × Nat)) (effect : Axis → Packet → Head → Effect) : Command :=
  { opcode, cls, len := lenIs n, active := true, shared := remoteTarget, mirrored := cls = .configure
    stateOk := fun p h => (stepAxis? p h).all fun a => state a h
    paramOk := fun p h => axisRefOk p false && (stepAxis? p h).any fun a => param a p h
    refusals := fun p h => match stepAxis? p h with
      | none => []
      | some a => refusals a p h ++ [(epochStale p a, Status.epochStale)]
    effect := fun p h => match stepAxis? p h with
      | none => { head := h }
      | some a => effect a p h }

/-- GET_STEPPER. -/
def getStepperCmd : Command :=
  observeCommand 0x0A00 4 Head.fromCommission (fun p h => (stepAxis? p h).isSome && axisRefOk p true)
    (fun p h => [((stepAxis? p h).any fun a => epochStale p a, Status.epochStale)]) fun p h =>
      match stepAxis? p h with
      | none => []
      | some a =>
        let (x, v) := a.step.at h.now
        leInt 4 (roundDiv x 65536) ++ leInt 4 v ++ leInt 4 a.step.target ++ pack [(2, h.stepFlags a)]
          ++ leInt 2 (a.step.lambda.getD (-32768)) ++ leInt 3 a.step.amplitude ++ pack [(1, stepCode a.step.state)]
          ++ leInt 4 a.step.encOffset
def execGetStepper (p : Packet) (s : State) : Host.Outcome State Fault Refusal := hostExec getStepperCmd p s

/-- The setting that SET_STEPPER carries. -/
def stepSetting (p : Packet) : StepperCfg :=
  { mode := pu p 4 1, stepShift := pu p 5 1, stepWidth := pu p 6 1, dirSetup := pu p 7 1, pwmPeriod := pu p 8 2
    table := pu p 10 1, invertDir := bit (pu p 11 1) 0, requireHome := bit (pu p 11 1) 1, encoder := bit (pu p 11 1) 2
    iFs := pu p 12 2, rCoil := pu p 14 2, ke := pu p 16 2, vbusNom := pu p 18 2, vbusInput := pu p 20 1
    stallCycles := pu p 21 1, vbusFs := pu p 22 2, iMin := ps p 24 3, iMax := ps p 28 3, iHold := ps p 32 3
    holdDelay := pu p 36 2, lambdaLow := pu p 38 2, lambdaHigh := pu p 40 2, lambdaStall := pu p 42 2
    encScale := pu p 44 3, limitPos := pu p 48 1, limitNeg := pu p 49 1, homeInput := pu p 50 1, inputLevel := pu p 51 1
    chatterEdges := pu p 52 1, chatterMs := pu p 54 2 }

/-- The ranges of SET_STEPPER's fields (R318 and the table of the command). -/
def StepperCfg.legal (c : StepperCfg) (isLocal : Bool) : Bool :=
  (if isLocal then c.mode = 1 || c.mode = 2 else c.mode = 3)
    && c.stepShift ≤ 8 && 10 ≤ c.stepWidth && 2 ≤ c.dirSetup && 1000 ≤ c.pwmPeriod && c.pwmPeriod ≤ 5000 && c.table ≤ 3
    && 1 ≤ c.iFs && c.iFs ≤ 20000 && 1 ≤ c.rCoil && 100 ≤ c.vbusNom && c.vbusNom ≤ 6000
    && (c.vbusInput ≤ 31 || c.vbusInput = 0xFF) && 1 ≤ c.stallCycles && 1 ≤ c.vbusFs
    && 0 ≤ c.iMin && c.iMin ≤ c.iMax && c.iMax < 2 ^ 23 && 0 ≤ c.iHold && c.iHold ≤ c.iMax && c.holdDelay ≤ 60000
    && c.lambdaLow ≤ 1023 && c.lambdaLow < c.lambdaHigh && c.lambdaHigh ≤ 1023 && 1 ≤ c.lambdaStall && c.lambdaStall ≤ 1023
    && c.encScale < 2 ^ 24 && c.inputLevel < 8 && 2 ≤ c.chatterEdges && 1 ≤ c.chatterMs && c.chatterMs ≤ 1000
    && [c.limitPos, c.limitNeg, c.homeInput].all fun n => n ≤ 23 || n = 0xFF

/-- SET_STEPPER (R317, R318, R321, R322, R327-R329, R334, R338). -/
def setStepperCmd : Command :=
  stepCommand 0x0A01 .configure 56 (fun a h => h.inMode [.commission] && a.state = .disabled)
    (fun a p h =>
      let c := stepSetting p
      c.legal a.localStep && pu p 11 1 < 8 && pz p 53 1
        && (!c.encoder || !a.localStep || h.channels.any fun f => f.cfg.use = 1 && f.cfg.owner = a.id))
    (fun a p h =>
      let c := stepSetting p
      let named (n : Nat) : Bool := h.axes.any fun x =>
        x.kind = .stepper && x.id ≠ a.id && (List.range 3).any fun k => x.step.inputOf k = n
      [([c.limitPos, c.limitNeg, c.homeInput].any fun n => n ≠ 0xFF && named n, Status.conflict)])
    fun a p h => { head := h.setStep a.id fun s => { s with cfg := stepSetting p } }
def execSetStepper (p : Packet) (s : State) : Host.Outcome State Fault Refusal := hostExec setStepperCmd p s

/-- A pulse rate that the STEP output can make: VMAX ÷ 2^STEP_SHIFT at most 1 ÷ (2 × STEP_WIDTH) (R321). -/
def StepperCfg.rateOk (c : StepperCfg) (vmax : Nat) : Bool :=
  c.mode ≠ 2 || vmax * 2 * c.stepWidth * 10 ≤ 1000000000 * 2 ^ c.stepShift

/-- SET_STEPPER_LIMITS (R321, Table 12-4). DEDUCED (log 30). -/
def setStepperLimitsCmd : Command :=
  stepCommand 0x0A02 .configure 16
    (fun a h => h.inMode [.commission] || (h.inMode [.service] && a.step.atRest))
    (fun a p _ => pu p 4 1 ≤ 2 && pz p 5 3
      && (pu p 4 1 = 1 || (1 ≤ pu p 8 4 && pu p 8 4 ≤ 40000000 && a.step.cfg.rateOk (pu p 8 4)))
      && 1 ≤ pu p 12 4 && pu p 12 4 ≤ 2147483647)
    (fun _ _ _ => [])
    fun a p h => { head := h.setStep a.id fun s => { s with limits := setAt (pu p 4 1) (fun _ => (pu p 8 4, pu p 12 4)) s.limits } }
def execSetStepperLimits (p : Packet) (s : State) : Host.Outcome State Fault Refusal := hostExec setStepperLimitsCmd p s

/-- MOVE_STEPPER (R330, R331, R333, R334, R338). -/
def moveStepperCmd : Command :=
  stepCommand 0x0A03 .operate 12 (fun a h => h.inMode [.commission, .service, .rescue] && h.stepMovable a)
    (fun a p h => pu p 4 1 ≤ 1 && pz p 5 3 && position32 (h.stepTarget a (pu p 4 1 = 1) (ps p 8 4)))
    (fun a p h => h.stepRefusals a (pu p 4 1 = 1) (h.stepTarget a (pu p 4 1 = 1) (ps p 8 4)))
    fun a p h => { head := h.startSteps a (h.stepTarget a (pu p 4 1 = 1) (ps p 8 4)) h.now, wait := some (.stepped a.id) }
def execMoveStepper (p : Packet) (s : State) : Host.Outcome State Fault Refusal := hostExec moveStepperCmd p s

/-- The members that MOVE_GROUP lists: axis, KIND, reserved byte, POSITION. -/
def groupParts (p : Packet) : List (Nat × Nat × Nat × Int) :=
  (List.range (pu p 0 1)).map fun i => (pu p (4 + 8 * i) 2, pu p (6 + 8 * i) 1, pu p (7 + 8 * i) 1, ps p (8 + 8 * i) 4)

/-- The members with their targets, in the command's order; those that are no stepper axes left out. -/
def groupMembers (p : Packet) (h : Head) : List (Axis × Int) :=
  (groupParts p).filterMap fun x =>
    ((if x.1 < 4096 then h.axis? x.1 else none).filter fun a => a.kind = .stepper).map fun a =>
      (a, h.stepTarget a (x.2.1 = 1) x.2.2.2)

def distinctNats : List Nat → Bool
  | [] => true
  | x :: rest => !rest.contains x && distinctNats rest

/-- MOVE_GROUP (R332-R334, R338). -/
def moveGroupCmd : Command :=
  { opcode := 0x0A04, cls := .operate
    len := fun b => 4 ≤ b.length && b.length = 4 + 8 * field b 0 1
    active := true
    shared := fun p h => !(groupMembers p h).all fun m => m.1.localStep
    stateOk := fun p h => h.inMode [.commission, .service, .rescue]
      && (groupMembers p h).all fun m => h.stepMovable m.1 && m.1.step.atRest
    paramOk := fun p h =>
      let ms := groupMembers p h
      noTarget p && 2 ≤ pu p 0 1 && pu p 0 1 ≤ 8 && pz p 1 3 && ms.length = pu p 0 1
        && ((groupParts p).all fun x => x.2.1 ≤ 1 && x.2.2.1 = 0)
        && distinctNats (ms.map fun m => m.1.id)
        && ms.all fun m => position32 m.2 && ms.all fun n => n.1.range = m.1.range
    refusals := fun p h =>
      let ms := groupMembers p h
      let relative (m : Axis × Int) : Bool := (groupParts p).any fun x => x.1 = m.1.id && x.2.1 = 1
      [(ms.any fun m => h.intoLimit m.1 m.2, Status.atLimit), (ms.any fun m => m.1.step.chatters, Status.inputChatter),
       (ms.any fun m => m.1.step.cfg.requireHome && !relative m && !m.1.step.flags.getLsbD 0, Status.notHomed)]
    effect := fun p h =>
      let (h, leader) := h.startGroup (groupMembers p h)
      { head := h, wait := some (.stepped leader) } }
def execMoveGroup (p : Packet) (s : State) : Host.Outcome State Fault Refusal := hostExec moveGroupCmd p s

/-- STOP_STEPPER (R333, R336): the set in force of a NORMAL stop is 0, of one while homing 2. -/
def stopStepperCmd : Command :=
  stepCommand 0x0A05 .operate 8 (fun _ h => h.inMode [.commission, .service, .rescue])
    (fun _ p _ => pu p 4 1 ≤ 1 && pz p 5 3) (fun _ _ _ => [])
    fun a p h =>
      let quick : Bool := pu p 4 1 = 1
      if a.step.atRest then { head := h }
      else { head := h.stopSteps a (if quick then 1 else if a.step.state = .homing then 2 else 0) quick false Status.stepStopped
             wait := some (.stepStopped a.id) }
def execStopStepper (p : Packet) (s : State) : Host.Outcome State Fault Refusal := hostExec stopStepperCmd p s

/-- The sequence that HOME_STEPPER asks for. -/
def homingOf (p : Packet) : Homing :=
  { mode := pu p 4 1, negative := pu p 5 1 = 1, vcreep := pu p 8 4, homePos := ps p 12 4, maxDist := pu p 16 4
    phase := .seek, start := 0, back := 0, since := 0, edge := none }

/-- HOME_STEPPER (R335, R336, R338). -/
def homeStepperCmd : Command :=
  stepCommand 0x0A06 .operate 20 (fun a h => h.inMode [.commission, .service] && h.stepMovable a && a.step.atRest)
    (fun a p _ =>
      let g := homingOf p
      g.mode ≤ 2 && pu p 5 1 ≤ 1 && pz p 6 2 && 1 ≤ g.vcreep && g.vcreep ≤ (a.step.limits.getD 2 (1, 1)).1
        && 1 ≤ g.maxDist && g.maxDist < 2 ^ 31
        && (if g.mode = 2 then a.localStep && a.step.cfg.encoder else a.step.inputOf g.input ≠ 0xFF))
    (fun a _ _ => [(a.step.chatters, Status.inputChatter)])
    fun a p h => { head := h.startHoming a (homingOf p), wait := some (.homed a.id) }
def execHomeStepper (p : Packet) (s : State) : Host.Outcome State Fault Refusal := hostExec homeStepperCmd p s

/-- SET_MOVE_DESC (Table 07-5): the change serves the firings after the reply. -/
def setMoveDescCmd : Command :=
  stepCommand 0x0A07 .configure 12 (fun _ h => h.inMode [.commission, .service])
    (fun _ p _ => pu p 4 1 ≤ 15 && pu p 5 1 ≤ 2 && pu p 6 1 = 0 && pz p 7 1) (fun _ _ _ => [])
    fun a p h => { head := h.setStep a.id fun s => { s with descs := setAt (pu p 4 1) (fun _ => (pu p 5 1, ps p 8 4)) s.descs } }
def execSetMoveDesc (p : Packet) (s : State) : Host.Outcome State Fault Refusal := hostExec setMoveDescCmd p s

/-- CLEAR_STEPPER_FLAGS (R338, R339). -/
def clearStepperFlagsCmd : Command :=
  stepCommand 0x0A08 .operate 8 (fun _ h => h.fromCommission) (fun _ p _ => pz p 6 2)
    (fun a p h => [(bit (pu p 4 2) 7 && a.step.chatters
        && (List.range 3).any (fun k => a.step.inputOf k < 32 && h.chattering (a.step.inputOf k)), Status.causePresent)])
    fun a p h => {
      head := h.setStep a.id fun s => { s with flags := s.flags &&& ~~~(BitVec.ofNat 16 (pu p 4 2) &&& 0x1FC0) }
      reply := pack [(2, h.stepFlags a), (2, 0)] }
def execClearStepperFlags (p : Packet) (s : State) : Host.Outcome State Fault Refusal := hostExec clearStepperFlagsCmd p s

end Sys2Proof.Machine
end

