-- ==== Sys2Proof/Machine/Pins.lean ====
section
/-! DEFINITION. Balls and pin functions: general-purpose balls (R465-R468), PPS (R463), field inputs (R17, R469, R470), field
outputs (R471), and the commands of block 0x11 (R472). -/
namespace Sys2Proof.Machine

/-! ### General-purpose balls -/

/-- Level that a committed setting drives, when the ball is neither parked nor at its safe level (Table 19-3).  An idle UART
line is high (PRESUMED, log 6). -/
def Pin.own (p : Pin) : Option Bool :=
  if p.set.func = 0 then (if p.set.output then some p.level else none)
  else if p.set.func = 1 then some false
  else if p.set.func = 2 then some true
  else none

/-- Write a level to a GPIO output: kept while the ball is parked, driven otherwise (R467). -/
def Pin.write (p : Pin) (level : Bool) : Pin :=
  { p with level, drives := if p.parked then p.drives else some level }

/-- PIN_PARK_END: PARK_CLKS clocks after the commit clock, an instant that has then come, the ball takes the level of its new
function (R466, R467). -/
def execPinParkEnd (pin : Nat) (s : State) : Host.Outcome State Fault Refusal :=
  eventExec (pin < 40) (fun h =>
    if (h.pin pin).parked then
      (h.reach (h.pin pin).parkEnd).setPin pin fun p => { p with parked := false, held := none, drives := p.own }
    else h) s

/-- A firing of TRIG(n) at an instant drives its TRIG_OUT balls high for TRIG_WIDTH, extending a pulse that runs; a parked
ball and a ball in belay ignore it (R465, R466, R468). -/
def Head.pulsePins (h : Head) (trigger t : Nat) : Head :=
  let fires (h : Head) (k : Nat) : Bool :=
    (h.pin k).set.func = 1 && k % 8 = trigger && !(h.pin k).parked && !h.outputBelayed (4 + k)
  (List.range 40).foldl (init := h) fun (h : Head) k =>
    if fires h k then
      let h := if (h.pin k).drives = some true then h else h.emit (.pinEdge k true)
      h.setPin k fun p => { p with drives := some true, pulseEnd := some (t + 10 * p.set.trigWidth) }
    else h

/-- Pulses whose width has passed end. -/
def Head.endPulses (h : Head) : Head :=
  (List.range 40).foldl (init := h) fun (h : Head) k =>
    if (h.pin k).pulseEnd.any fun t => t ≤ h.now then
      (h.emit (.pinEdge k false)).setPin k fun p => { p with drives := some false, pulseEnd := none }
    else h

/-- A level set by LOCAL_OUTPUT (Table 07-5): on field output 0-3, or on general-purpose 0-39 as 0x10-0x37.  A reason of
R197 where it cannot be: 2 at its safe level (R405), 3 not an output (R468). -/
def Head.localOutput (h : Head) (output : Nat) (level : Bool) : Except Nat Head :=
  if output < 4 then
    if h.outputBelayed output then .error 2
    else .ok (h.setFieldOut output fun o =>
      { o.switch (level && !o.short) with written := level, short := level && o.short })
  else
    let k := output - 0x10
    if !((h.pin k).set.func = 0 && (h.pin k).set.output) then .error 3
    else if h.outputBelayed (4 + k) then .error 2
    else .ok (h.setPin k fun p => p.write level)

/-! ### PPS -/

/-- PPS_OUT: high for the first 100 ms of each second of head time, from COMMISSION on (R463, Table 19-2). -/
def execPpsOut (s : State) : Host.Outcome State Fault Refusal :=
  eventExec true (fun h =>
    let level := h.fromCommission && h.now % 1000000000 < 100000000
    if h.pins.ppsOut = level then h
    else Head.emit { h with pins := { h.pins with ppsOut := level } } (.pinEdge 0x101 level)) s

/-- PPS_IN_EDGE: the stamp of a rising edge, on the 8 ns grid of the time base (R463). -/
def execPpsInEdge (time : Nat) (s : State) : Host.Outcome State Fault Refusal :=
  eventExec true (fun h => if h.fromBoot then { h with pins := { h.pins with ppsIn := time / 8 * 8 } } else h) s

/-! ### Field inputs -/

/-- The snapshot level of an input (R470). -/
def FieldInput.seen (f : FieldInput) : Bool := if f.isOpen || f.reversed then f.invalidLevel else f.voltage

/-- One sample of an input's raw level: its debounce and its snapshot level (R469, R470). -/
def FieldInput.sample (f : FieldInput) (raw : Bool) (time : Nat) : FieldInput :=
  let f := if raw = f.raw then f
    else { f with raw, rawSince := time, edges := time :: f.edges.filter fun t => t + 1000000000 > time }
  let f := if f.raw ≠ f.voltage && time ≥ f.rawSince + f.debounce * 1000 then { f with voltage := f.raw } else f
  { f with level := f.seen, sent := f.seen }

/-- FIELD_INPUT_SNAPSHOT (R17, R469, R470): the 32 levels at a sampling instant.  The units of source FIELD_INPUT fire on the
edges (R351), the named input's edge wakes the head (R55), and homing watches its inputs (R335). DESIGN CHOICE (log 89). -/
def execFieldInputSnapshot (levels time : Nat) (s : State) : Host.Outcome State Fault Refusal :=
  eventExec (levels < 2 ^ 32) (fun h =>
    if !h.fromCommission || !h.faults.dieLinkOk then h
    else
      let before := h.pins.fin
      let h : Head := { h with pins := { h.pins with
        fin := h.pins.fin.mapIdx fun n f => f.sample (bit levels n) time, snapTime := time } }
      let changed (n : Nat) (high : Bool) : Bool := (before.getD n {}).sent ≠ high && (h.fieldIn n).level = high
      let h := h.fireUnits (fun (c : UnitCfg) => c.source = 3 && changed (c.arg % 32) (!bit c.arg 5)) (time * 256)
      let h := if changed (h.sys.wakeInput % 32) (!bit h.sys.wakeInput 5) then h.wakeBy 0 else h
      ((h.axes.filter fun a => a.kind = .stepper).map fun a => a.id).foldl (init := h) fun (h : Head) id =>
        h.homingProgress time id) s

/-- FIELD_INPUT_OPEN: below 0.4 mA for 10 ms with OPEN_DETECT set (R470). -/
def execFieldInputOpen (input : Nat) (s : State) : Host.Outcome State Fault Refusal :=
  eventExec (input < 32) (fun h =>
    if !h.fromBoot || !(h.fieldIn input).openDetect || (h.fieldIn input).isOpen then h
    else (h.setFieldIn input fun f => { f with isOpen := true, level := f.invalidLevel }).raise (srcInput input) 0) s

/-- FIELD_INPUT_OPEN_END: at or above 0.6 mA for 10 ms (R470). -/
def execFieldInputOpenEnd (input : Nat) (s : State) : Host.Outcome State Fault Refusal :=
  eventExec (input < 32) (fun h => h.setFieldIn input fun f =>
    let f := { f with isOpen := false }
    { f with level := f.seen }) s

/-- FIELD_INPUT_REVERSED: below -3.0 V for 1 ms (R470). -/
def execFieldInputReversed (input : Nat) (s : State) : Host.Outcome State Fault Refusal :=
  eventExec (input < 32) (fun h =>
    if !h.fromBoot || (h.fieldIn input).reversed then h
    else (h.setFieldIn input fun f => { f with reversed := true, level := f.invalidLevel }).raise (srcInput input) 1) s

/-- FIELD_INPUT_REVERSED_END: 1 ms above -1.0 V (R470). -/
def execFieldInputReversedEnd (input : Nat) (s : State) : Host.Outcome State Fault Refusal :=
  eventExec (input < 32) (fun h => h.setFieldIn input fun f =>
    let f := { f with reversed := false }
    { f with level := f.seen }) s

/-! ### Field outputs (R471) -/

/-- FIELD_OUTPUT_SHORT: above 1.2 A the output is disconnected and SHORT latched. -/
def execFieldOutputShort (output : Nat) (s : State) : Host.Outcome State Fault Refusal :=
  eventExec (output < 4) (fun h =>
    if !(h.fieldOut output).on then h
    else (h.setFieldOut output fun o => { o.switch false with short := true, shortAt := h.now }).raise (srcOutput output) 0) s

/-- SHORT_RETRY: once SHORT_RETRY_MS have run since the disconnection the output is switched on once, and stays on when the
current stays below 1.2 A; otherwise the time starts again. -/
def execShortRetry (output : Nat) (short : Bool) (s : State) : Host.Outcome State Fault Refusal :=
  eventExec (output < 4) (fun h =>
    let o := h.fieldOut output
    if !o.short || o.retryMs = 0 || h.now < o.shortAt + o.retryMs * 1000000 then h
    else if short then (h.setFieldOut output fun o => { o with shortAt := h.now }).raise (srcOutput output) 0
    else h.setFieldOut output fun o => { o.switch o.written with short := false }) s

/-- FIELD_OUTPUT_OPEN_LOAD: the condition of an open load, on or off, begins or ends. -/
def execFieldOutputOpenLoad (output : Nat) (present : Bool) (s : State) : Host.Outcome State Fault Refusal :=
  eventExec (output < 4) (fun h =>
    let o := h.fieldOut output
    if !present then h.setFieldOut output fun o => { o with openLoad := false }
    else if !h.fromCommission || o.openLoad || !(o.on || (o.offDiag && !o.short)) then h
    else (h.setFieldOut output fun o => { o with openLoad := true }).raise (srcOutput output) 1) s

/-! ### Commands of block 0x11 -/

/-- A command of block 0x11, taken in every role (R472). -/
def pinCommand (opcode : Nat) (cls : Cls) (n : Nat) (state : Packet → Head → Bool) (param : Packet → Head → Bool)
    (refusals : Packet → Head → List (Bool × Nat)) (effect : Packet → Head → Effect) : Command :=
  { opcode, cls, len := lenIs n, stateOk := state, paramOk := param, refusals, effect }

/-- STATE of GET_PIN, with the level outside for a ball that drives nothing. -/
def Head.pinState (h : Head) (k : Nat) (outside : Bool) : Nat :=
  let p := h.pin k
  flag p.set.drivesBall 0 + flag p.parked 1 + flag (p.set.drivesBall && h.outputBelayed (4 + k)) 2 + flag (p.drives.getD outside) 3

/-- GET_PIN.  The level that the board drives onto a ball, and what the fields of PPS_IN's fixed function hold, are not
stated: free values (log 3). -/
def getPinCmd : Command :=
  pinCommand 0x1100 .observe 0 (fun _ h => h.fromBoot) (fun p _ => p.target < 40 || p.target = 0x100) (fun _ _ => []) fun p h =>
    let (n, h) := h.drawNat
    if p.target < 40 then
      let q := h.pin p.target
      { head := h
        reply := pack [(1, q.set.func), (1, match q.staged with | some s => s.func | none => 0xFF), (1, h.pinState p.target (bit n 0)),
          (1, 0), (8, 0)] }
    else { head := h, reply := pack [(1, n % 256), (1, 0xFF), (1, 8 * (n / 256 % 2)), (1, 0), (8, h.pins.ppsIn)] }
def execGetPin (p : Packet) (s : State) : Host.Outcome State Fault Refusal := hostExec getPinCmd p s

/-- The balls that carry a function (Table 19-3). -/
def funcOn (func pin : Nat) : Bool := func ≤ 1 || (func = 2 && pin = 38) || (func = 3 && pin = 39)

/-- SET_PIN: stages a setting (R465, R466). -/
def setPinCmd : Command :=
  pinCommand 0x1101 .configure 4 (fun _ h => h.inMode [.commission, .service])
    (fun p _ => p.target < 40 && pu p 1 1 < 32 && bits (pu p 1 1) 3 2 < 3 && 1 ≤ pu p 2 1 && pz p 3 1)
    (fun p _ => [(!funcOn (pu p 0 1) p.target, Status.funcUnavailable)])
    fun p h =>
      let f := pu p 1 1
      let s : PinSetting := { func := pu p 0 1, output := bit f 0, initLevel := bit f 1, pull := bits f 3 2, parkHold := bit f 4
                              trigWidth := pu p 2 1 }
      { head := h.setPin p.target fun x => { x with staged := some s } }
def execSetPin (p : Packet) (s : State) : Host.Outcome State Fault Refusal := hostExec setPinCmd p s

/-- COMMIT_PINS (R466): the head time of the next I/O clock is a free instant of the 10 ns that follow (log 3). -/
def commitPinsCmd : Command :=
  pinCommand 0x1102 .operate 4 (fun _ h => h.inMode [.commission, .service, .rescue, .safe])
    (fun p _ => noTarget p && 2 ≤ pu p 0 1 && pz p 1 3) (fun _ _ => []) fun p h =>
      let (n, h) := h.drawNat
      let clock := h.now + 1 + n % 10
      let (h, changed) := Head.commitPins { h with pins := { h.pins with parkClks := pu p 0 1 } } clock
      { head := h, reply := pack [(1, changed), (3, 0), (8, clock)] }
def execCommitPins (p : Packet) (s : State) : Host.Outcome State Fault Refusal := hostExec commitPinsCmd p s

/-- The balls of SET_GPIO's MASK. -/
def maskedPins (p : Packet) : List Nat := (List.range 40).filter fun k => bit (pu p 0 8) k

/-- SET_GPIO: every masked ball is written in the same I/O clock (R467, R468). DEDUCED (log 57). -/
def setGpioCmd : Command :=
  pinCommand 0x1103 .operate 16
    (fun p h => h.fromCommission && !(maskedPins p).any fun k => (h.pin k).set.drivesBall && h.outputBelayed (4 + k))
    (fun p _ => noTarget p && pu p 0 8 < 2 ^ 40)
    (fun p h => [((maskedPins p).any (fun k => !((h.pin k).set.func = 0 && (h.pin k).set.output)), Status.notOutput)])
    fun p h => { head := (maskedPins p).foldl (init := h) fun (h : Head) k => h.setPin k fun x => x.write (bit (pu p 8 8) k) }
def execSetGpio (p : Packet) (s : State) : Host.Outcome State Fault Refusal := hostExec setGpioCmd p s

/-- A mask over the field inputs. -/
def Head.finMask (h : Head) (f : FieldInput → Bool) : Nat := sumNat (h.pins.fin.mapIdx fun n x => flag (f x) n)
def Head.foutMask (h : Head) (f : FieldOutput → Bool) : Nat := sumNat (h.pins.fout.mapIdx fun n x => flag (f x) n)

/-- GET_FIELD_IO. -/
def getFieldIoCmd : Command :=
  pinCommand 0x1104 .observe 0 (fun _ h => h.fromCommission) (fun p _ => noTarget p) (fun _ _ => []) fun _ h =>
    { head := h
      reply := pack [(4, h.finMask fun x => x.level), (4, h.finMask fun x => x.isOpen), (4, h.finMask fun x => x.reversed),
        (1, h.foutMask (fun x => x.written) + 16 * h.foutMask fun x => x.on),
        (1, h.foutMask (fun x => x.short) + 16 * h.foutMask fun x => x.openLoad), (2, 0), (8, h.pins.snapTime)] }
def execGetFieldIo (p : Packet) (s : State) : Host.Outcome State Fault Refusal := hostExec getFieldIoCmd p s

/-- SET_FIELD_INPUT (R469, R470). -/
def setFieldInputCmd : Command :=
  pinCommand 0x1105 .configure 4 (fun _ h => h.inMode [.commission])
    (fun p _ => p.target < 32 && pu p 0 2 ≤ 50000 && pu p 2 1 < 4 && pz p 3 1) (fun _ _ => []) fun p h =>
      { head := h.setFieldIn p.target fun f =>
          let f := { f with debounce := pu p 0 2, openDetect := bit (pu p 2 1) 0, invalidLevel := bit (pu p 2 1) 1
                            isOpen := f.isOpen && bit (pu p 2 1) 0 }
          { f with level := f.seen } }
def execSetFieldInput (p : Packet) (s : State) : Host.Outcome State Fault Refusal := hostExec setFieldInputCmd p s

/-- SET_FIELD_OUTPUT: a write during a disconnection is kept, and writing off ends it (R471). -/
def setFieldOutputCmd : Command :=
  pinCommand 0x1106 .operate 4 (fun p h => h.fromCommission && !(p.target < 4 && h.outputBelayed p.target))
    (fun p _ => p.target < 4 && pu p 0 1 ≤ 1 && pz p 1 3) (fun _ _ => []) fun p h =>
      { head := match h.localOutput p.target (pu p 0 1 = 1) with
          | .ok h => h
          | .error _ => h }
def execSetFieldOutput (p : Packet) (s : State) : Host.Outcome State Fault Refusal := hostExec setFieldOutputCmd p s

/-- SET_FOUT_CONFIG (R471). -/
def setFoutConfigCmd : Command :=
  pinCommand 0x1107 .configure 4 (fun _ h => h.inMode [.commission])
    (fun p _ => p.target < 4 && (pu p 0 2 = 0 || (10 ≤ pu p 0 2 && pu p 0 2 ≤ 10000)) && pu p 2 1 < 2 && pz p 3 1)
    (fun _ _ => []) fun p h =>
      { head := h.setFieldOut p.target fun o =>
          { o with retryMs := pu p 0 2, offDiag := bit (pu p 2 1) 0, openLoad := o.openLoad && (o.on || bit (pu p 2 1) 0) } }
def execSetFoutConfig (p : Packet) (s : State) : Host.Outcome State Fault Refusal := hostExec setFoutConfigCmd p s

end Sys2Proof.Machine
end

