-- ==== Sys2Proof/Machine/Flags.lean ====
section
/-! DEFINITION. Status words that hardware keeps (R188, R411, R450, Table 03-5) and the write-one-to-clear rule (R11, R12). -/
namespace Sys2Proof.Machine

/-- TIME_STATUS.SERVO codes (Table 07-4). -/
def servoCode : Servo → Nat
  | .free => 0 | .acquiring => 1 | .tracking => 2 | .locked => 3 | .holdover => 4

/-- TIME_STATUS (Table 07-4). -/
def Head.timeStatus (h : Head) : Nat :=
  let overflow (i : Nat) := (h.time.ports.getD i {}).overflow
  servoCode h.time.servo + flag h.time.stepOpen 3 + flag h.time.stepped 4 + flag h.time.far 5 + flag h.time.clamped 6
    + flag (overflow 0) 7 + flag (overflow 1) 8 + h.time.source % 4 * 512 + flag h.backup.timeLost 11

/-- POWER_STATUS (Table 18-5). -/
def Head.powerStatus (h : Head) : Nat :=
  flag h.power.inputOpen 0 + flag h.power.vinLow 1 + flag h.power.ldLimit 2 + flag h.power.pfdLimit 3
    + flag h.power.bkupLow 4 + flag h.backup.retValid 5 + flag h.backup.timeLost 6 + flag h.backup.centuryWrap 7
    + flag h.backup.alarmFlag 8 + h.power.vin % 65536 * 65536

/-- The clock fraction of a droop domain: the safe clock, or the lowest that droop and temperature require (R448, R443).
Before the PLLs are started it reads its reset value, 0. -/
def Head.fraction (h : Head) (domain : Nat) : Nat :=
  let safe := if domain = 17 then h.power.pllM.safe else h.power.pllC.safe
  if h.sys.bootStep = .plls then 0
  else if domain < 16 && (h.compute.tiles.getD domain {}).state ≠ .up then 0
  else if safe then 3
  else max (h.power.droop.getD domain {}).level (if domain < 17 && h.power.ldLimit then 1 else 0)

/-- CLOCK_STATUS (Table 18-6). -/
def Head.clockStatus (h : Head) : Nat := sumNat ((List.range 16).map fun t => h.fraction t % 4 * 4 ^ t)

/-- PLL_STATUS (Table 18-7). -/
def Head.pllStatus (h : Head) : Nat :=
  h.fraction 16 + h.fraction 17 * 4 + flag h.power.pllC.lock 4 + flag h.power.pllC.safe 5 + flag h.power.pllM.lock 6
    + flag h.power.pllM.safe 7 + flag h.power.pllD.lock 8 + flag h.power.pllD.safe 9 + flag h.power.dFsp 10
    + flag h.power.ceiling 11 + h.power.relocks % 16 * 4096

/-- A write of 1 to a write-one-to-clear bit clears it; a write of 0 leaves it (R11). -/
def w1c (value i : Nat) (old : Bool) : Bool := old && !bit value i

end Sys2Proof.Machine
end

