-- ==== Sys2Proof/Machine/Terrain.lean ====
section
/-! DEFINITION. Terrain tables, their windows in tile SRAM and their interpolation (R207-R210, R303). -/
namespace Sys2Proof.Machine

/-- The two entries and the remainder of an interpolation: j, j + 1 and the low SPACING_LOG2 bits (R208). -/
def Terrain.locate (t : Terrain) (x : Int) : Nat × Nat × Nat :=
  let count := max t.entries.length 1
  let o := x - t.origin
  let size : Nat := 2 ^ t.spacingLog2
  let j := o / (size : Int)
  let r := (o % (size : Int)).toNat
  if t.periodic then ((j % count).toNat, ((j + 1) % count).toNat, r)
  else if o < 0 then (0, 0, 0)
  else if j ≥ (count : Int) - 1 then (count - 1, count - 1, 0)
  else (j.toNat, j.toNat + 1, r)

/-- The interpolated value as a Q9.47 accumulator, exactly (R208). -/
def Terrain.value (t : Terrain) (x : Int) : Int :=
  let (j, k, r) := t.locate x
  let a := t.entries.getD j 0
  let b := t.entries.getD k 0
  a * 2 ^ 24 + (b - a) * (r * 2 ^ (24 - t.spacingLog2) : Nat)

/-- The table of an identifier in the image. -/
def Head.terrain? (h : Head) (id : Nat) : Option Terrain := h.terrain.find? fun t => t.id = id

/-- Does a buffer hold entry `i` of a table of `count` entries? -/
def TerrainBuffer.covers (b : TerrainBuffer) (t : Terrain) (i : Nat) : Bool :=
  let d : Int := i - b.first
  let d := if t.periodic then d % (max t.entries.length 1 : Nat) else d
  0 ≤ d && d < (b.count : Int)

/-- Does an ACTIVE buffer cover what an interpolation at `x` reads (R210, R303, R487)? -/
def TerrainBuffer.serves (b : TerrainBuffer) (t : Terrain) (x : Int) : Bool :=
  let (j, k, _) := t.locate x
  b.state = .active && b.table = t.id && b.covers t j && b.covers t k

/-- The ACTIVE buffer of a slot. -/
def TerrainSlot.active? (s : TerrainSlot) : Option TerrainBuffer :=
  if s.a.state = .active then some s.a else if s.b.state = .active then some s.b else none

def Head.tile (h : Head) (t : Nat) : Tile := h.compute.tiles.getD t {}
def Head.setTile (h : Head) (t : Nat) (f : Tile → Tile) : Head :=
  { h with compute := { h.compute with tiles := setAt t f h.compute.tiles } }
def Head.setSlot (h : Head) (t k : Nat) (f : TerrainSlot → TerrainSlot) : Head :=
  h.setTile t fun x => { x with slots := setAt k f x.slots }

/-- A friction term read through a tile's windows: none on a miss (R210). -/
def Head.friction (h : Head) (tile id : Nat) (x : Int) : Option Int :=
  match h.terrain? id with
  | none => none
  | some t =>
    if (h.tile tile).slots.any fun s => s.active?.any fun b => b.serves t x then some (t.value x) else none

/-- A cogging term: the table is resident whole (Table 10-3, R271). -/
def Head.cogging (h : Head) (id : Nat) (x : Int) : Option Int := (h.terrain? id).map fun t => t.value x

/-- Linear interpolation in a blend table at the overlap fraction `n ÷ d` (R211). DEDUCED (log 25). -/
def blendAt (table : List Nat) (n d : Nat) : Nat :=
  let j := n * 256 / max d 1
  if j ≥ 256 then table.getD 256 0
  else
    let a := table.getD j 0
    let b := table.getD (j + 1) 0
    a + (roundDiv (((b - a) * (n * 256 - j * d) : Nat) : Int) (max d 1)).toNat

end Sys2Proof.Machine
end

