-- ==== Sys2Proof/Machine/Tor.lean ====
section
/-! DEFINITION. The Tor core: registers, instruction formats, hazards, repeats, macros and table loads (R290-R306), as a custom
operation runs on it (R312, R314). -/
namespace Sys2Proof.Machine

/-! ### Macros (R302, R487) -/

/-- √3 ÷ 2 as a Q1.23 value (log 10). -/
def halfSqrt3 : Int := 7264748

/-- A sum of two Q1.23 products, stored by R8. -/
def dot2 (a x b y : Int) : Int × Bool := sat24 (roundDiv (a * x + b * y) (2 ^ 23))

/-- CPARK: the d and q currents of two phase currents at an angle (R215). -/
def cpark (iu iv : Int) (theta : Nat) : (Int × Bool) × (Int × Bool) :=
  let beta := sat24 (roundDiv ((iu + 2 * iv) * invSqrt3) (2 ^ 23))
  let c := cosTurn theta
  let s := sinTurn theta
  let d := dot2 iu c beta.1 s
  let q := dot2 (-iu) s beta.1 c
  ((d.1, d.2 || beta.2), (q.1, q.2 || beta.2))

/-- IPARK: phase voltages of d and q voltages at an angle (R215). -/
def ipark (ud uq : Int) (theta : Nat) : (Int × Int × Int) × Bool :=
  let c := cosTurn theta
  let s := sinTurn theta
  let alpha := dot2 ud c (-uq) s
  let beta := dot2 ud s uq c
  let v := sat24 (roundDiv (beta.1 * halfSqrt3 * 2 - alpha.1 * 2 ^ 23) (2 ^ 24))
  let w := sat24 (roundDiv (-(beta.1 * halfSqrt3 * 2) - alpha.1 * 2 ^ 23) (2 ^ 24))
  ((alpha.1, v.1, w.1), alpha.2 || beta.2 || v.2 || w.2)

/-- SVT: the three duties of three phase voltages (R215, R486). -/
def svt (u v w : Int) : (Nat × Nat × Nat) × Bool :=
  let common := max u (max v w) + min u (min v w)
  let duty (x : Int) := clampTo 0 (2 ^ 24 - 1) (2 ^ 23 + roundDiv ((2 * x - common) * invSqrt3) (2 ^ 23))
  let (a, b, c) := (duty u, duty v, duty w)
  ((a.1.toNat, b.1.toNat, c.1.toNat), a.2 || b.2 || c.2)

/-! ### Registers -/

/-- What an operation runs with: its code, and its local slot of so many words (Table 11-3, R312). -/
structure CoreEnv where
  size    : Nat
  code    : List Nat
  consts  : List Nat
  /-- hook block words that do not read 0 -/
  hook    : List (Nat × Nat)
  /-- hook words that may be written -/
  rw      : List Nat
  priv    : List Nat
  terrain : List Terrain

/-! Causes of MODULE_FAULT (R314). -/
namespace CoreFault
abbrev illegal := 1
abbrev access := 2
abbrev hookWrite := 3
abbrev stack := 4
abbrev runaway := 5
end CoreFault

/-! ### Encodings (Tables 11-4 to 11-9, R295) -/

def moveLegal (f : Nat) : Bool := bit f 8 || f = 0

/-- Has the instruction no reserved encoding in any field? -/
def torLegal (w : Nat) : Bool :=
  if !bit w 31 then (let m := bits w 30 26; m ≤ 0x13 && m ≠ 7) && moveLegal (bits w 17 9) && moveLegal (bits w 8 0)
  else match bits w 30 28 with
    | 0 => true
    | 1 => bits w 21 18 = 0
    | 2 => bits w 27 24 ≤ 0xA && bits w 21 16 = 0
    | 3 => 1 ≤ bits w 11 0 && (bit w 27 || 1 ≤ bits w 23 12)
    | 6 => (let m := bits w 27 24
            if m = 1 then bits w 14 0 = 0 && !bit w 17 else 2 ≤ m && m ≤ 4 && bits w 23 0 = 0)
    | 7 => (let m := bits w 27 24
            if m = 1 then bits w 19 0 = 0 else if m = 2 then bits w 23 0 = 0 else m = 3)
    | _ => !bit w 18 && moveLegal (bits w 17 9) && moveLegal (bits w 8 0)

def torParallel (w : Nat) : Bool := !bit w 31
def torRep (w : Nat) : Bool := bits w 31 29 = 6
def torBranch (w : Nat) : Bool := bits w 31 28 = 0xA
def torLoop (w : Nat) : Bool := bits w 31 28 = 0xB
/-- DEDUCED (log 24). -/
def torLong (w : Nat) : Bool := bits w 31 28 = 9
def torMacro (w : Nat) : Bool := bits w 31 28 = 0xE
/-- DEDUCED (log 24). -/
def torTload (w : Nat) : Bool := bits w 31 24 = 0xF1
def torBreak (w : Nat) : Bool := bits w 31 24 = 0xF2

/-- What a delay slot must not hold (R296). -/
def slotForbids (w : Nat) : Bool :=
  torBranch w || torLoop w || torRep w || torMacro w || torTload w || torBreak w || torLong w

/-- Length in instructions of a LOOP's body (Table 11-4). -/
def loopLength (w : Nat) : Nat := bits w 11 0 + 1

/-! ### Views of the registers (Table 11-7) -/

/-- D as a MAC part sees it: the last instruction's loads do not show yet. -/
def TorState.macView (s : TorState) : List Int :=
  (s.recent.filter fun r => r.1).foldl (fun d r => d.set r.2.1 r.2.2) s.d
/-- D with every write of the instructions before: what a macro sees. -/
def TorState.full (s : TorState) : List Int := s.recent.foldl (fun d r => d.set r.2.1 r.2.2) s.d

def TorState.applyLate (s : TorState) : TorState :=
  let s := (s.late.filter fun w => w.1 = 0).foldl (init := s) fun (s : TorState) w => match w.2 with
    | .p i v => { s with p := s.p.set i v }
    | .n i v => { s with n := s.n.set i v }
    | .l i v => { s with l := s.l.set i v }
    | .adm v => { s with adm := v }
  { s with late := (s.late.filter fun w => w.1 ≠ 0).map fun w => (w.1 - 1, w.2) }

/-- A free value, and the next state. UNVERIFIED (log 15). -/
def TorState.draw (s : TorState) : Nat × TorState := (Config.freeNat s.drawn, { s with drawn := s.drawn + 1 })

/-! ### Local memory (Table 11-3, R292, R294) -/

/-- A word of the local slot, given the words written and the free values drawn so far; a scratch word that was not written is
free. DEDUCED (log 24). -/
def CoreEnv.localRead (e : CoreEnv) (mem : List (Nat × Nat)) (drawn addr : Nat) : Except Nat (Nat × Nat) :=
  if addr ≥ e.size then .error CoreFault.access
  else match mem.find? fun w => w.1 = addr with
    | some w => .ok (w.2, drawn)
    | none =>
      if addr < 0x40 then .ok (((e.hook.find? fun w => w.1 = addr).map fun w => w.2).getD 0, drawn)
      else if addr < 0x48 then
        (match e.priv[addr - 0x40]? with | some v => .ok (v, drawn) | none => .error CoreFault.access)
      else match (if addr < 0x148 then e.consts[addr - 0x48]? else none) with
        | some v => .ok (v, drawn)
        | none => .ok (Config.freeNat drawn % 2 ^ 24, drawn + 1)

/-- A write to the local slot: the words written after it. -/
def CoreEnv.localWrite (e : CoreEnv) (mem : List (Nat × Nat)) (addr v : Nat) : Except Nat (List (Nat × Nat)) :=
  if addr ≥ e.size then .error CoreFault.access
  else if addr < 0x40 && !e.rw.contains addr then .error CoreFault.hookWrite
  else if 0x40 ≤ addr && addr < 0x48 && addr - 0x40 ≥ e.priv.length then .error CoreFault.access
  else if 0x48 ≤ addr && addr < 0x148 then .error CoreFault.access
  else .ok (putKey (fun w => w.1) (addr, v) mem)

/-- DEDUCED (log 24). -/
def CoreEnv.read (e : CoreEnv) (s : TorState) (addr : Nat) : Except Nat (Nat × TorState) :=
  (e.localRead s.mem s.drawn addr).map fun r => (r.1, { s with drawn := r.2 })

def CoreEnv.write (e : CoreEnv) (s : TorState) (addr v : Nat) : Except Nat TorState :=
  (e.localWrite s.mem addr v).map fun mem => { s with mem }

/-- Reverse the low `b` bits. -/
def reverseBits : Nat → Nat → Nat
  | 0, _ => 0
  | b + 1, v => (v % 2) * 2 ^ b + reverseBits b (v / 2)

/-- A post-modify of a P register (R293). -/
def postModify (mode p : Nat) (step : Int) (l : Nat) : Except Nat Nat :=
  let len := if l = 0 then 2048 else l
  match mode with
  | 0 => .ok ((p + step) % 65536).toNat
  | 1 =>
    let size := 2 ^ (if len ≤ 1 then 0 else (len - 1).log2 + 1)
    let o : Int := (p % size : Nat) + step
    let o := if o ≥ len then o - len else if o < 0 then o + len else o
    .ok (((p - p % size : Nat) + o) % 65536).toNat
  | 2 =>
    let b := len.log2
    if 2 ^ b ≠ len then .error CoreFault.illegal
    else
      let low := reverseBits b (p % len) + reverseBits b (step % (len : Int)).toNat
      .ok (p - p % len + reverseBits b (low % len))
  | _ => .error CoreFault.illegal

/-! ### Parallel instructions (Tables 11-5 and 11-6) -/

/-- One move: what it does to a D register, and the state with its store and its P register. -/
def CoreEnv.move (e : CoreEnv) (s : TorState) (f base : Nat) (view : List Int) :
    Except Nat (Option (Nat × Int) × TorState) :=
  if !bit f 8 then .ok (none, s)
  else
    let i := base + bits f 3 2
    let addr := s.p.getD i 0
    let reg := bits f 6 4
    let step : Int := match bits f 1 0 with | 0 => 0 | 1 => 1 | 2 => s.n.getD i 1 | _ => -1
    let mode := bits s.adm (2 * i + 1) (2 * i)
    do
      let p ← if bits f 1 0 = 0 && mode < 2 then .ok addr else postModify mode addr step (s.l.getD i 0)
      if bit f 7 then
        let s ← e.write s addr (ofSigned 24 (view.getD reg 0))
        .ok (none, { s with p := s.p.set i p })
      else
        let (v, s) ← e.read s addr
        .ok (some (reg, toSigned 24 v), { s with p := s.p.set i p })

/-- Both moves of an instruction: M1, then M2, whose store wins (R292). -/
def CoreEnv.moves (e : CoreEnv) (s : TorState) (w : Nat) (view : List Int) :
    Except Nat (List (Bool × Nat × Int) × TorState) := do
  let before := s.mem
  let (r1, s1) ← e.move s (bits w 17 9) 0 view
  let load2 := bit w 8 && !bit w 7
  let (r2, s2) ← e.move (if load2 then { s1 with mem := before } else s1) (bits w 8 0) 4 view
  let s2 := if load2 then { s2 with mem := s1.mem } else s2
  .ok ((r1.toList ++ r2.toList).map fun r => (false, r.1, r.2), s2)

/-- What the MAC part does (Table 11-6, R295): accumulators, a write to D, flags, saturation. -/
def macPart (mop s1 s2 ad : Nat) (d a : List Int) :
    List Int × Option (Nat × Int) × Option (Bool × Bool × Bool) × Bool :=
  let x := d.getD s1 0
  let y := d.getD s2 0
  let acc := a.getD ad 0
  let flags (v : Int) (sat : Bool) : Option (Bool × Bool × Bool) := some (v = 0, v < 0, sat)
  let set (v : Int) :=
    let r := sat56 v
    (a.set ad r.1, (none : Option (Nat × Int)), flags r.1 r.2, r.2)
  let dual (f : Int → Int → Int) :=
    let r := sat56 (f acc (x * y * 2))
    let ad' := ad ^^^ 1
    let t := sat56 (f (a.getD ad' 0) (d.getD (s1 ^^^ 1) 0 * d.getD (s2 ^^^ 1) 0 * 2))
    ((a.set ad r.1).set ad' t.1, (none : Option (Nat × Int)), flags r.1 r.2, r.2 || t.2)
  match mop with
  | 0x01 => set (x * y * 2)
  | 0x02 => set (acc + x * y * 2)
  | 0x03 => set (acc - x * y * 2)
  | 0x04 => dual fun _ m => m
  | 0x05 => dual fun c m => c + m
  | 0x06 => dual fun c m => c - m
  | 0x08 => set (acc + x * 2 ^ 24)
  | 0x09 => set (acc - x * 2 ^ 24)
  | 0x0A => set 0
  | 0x0B => set (-acc)
  | 0x0C => set (if acc < 0 then -acc else acc)
  | 0x0D => set (x * 2 ^ 24)
  | 0x0E => let r := store24 acc; (a, some (s1, r.1), flags acc r.2, r.2)
  | 0x0F => let r := sat56 (acc - x * 2 ^ 24); (a, none, flags r.1 r.2, r.2)
  | 0x10 => set (max acc (x * 2 ^ 24))
  | 0x11 => set (min acc (x * 2 ^ 24))
  | 0x12 => set (acc / 2 ^ (s2 + 1))
  | 0x13 => set (acc * 2 ^ (s2 + 1))
  | _ => (a, none, none, false)

/-! ### One instruction -/

/-- The writes of this instruction become the last instruction's. -/
def TorState.retire (s : TorState) (writes : List (Bool × Nat × Int)) (flags : Option (Bool × Bool × Bool)) : TorState :=
  { s with d := s.full, recent := writes
           flags := (flags.getD (s.flags.getD 0 (false, false, false))) :: s.flags.take 2 }

/-- Where the next instruction comes from, after the one at `pc` (R296, R297). -/
def TorState.advance (s : TorState) : Except Nat TorState :=
  match s.slot with
  | some (1, j) =>
    let s := { s with slot := none }
    match j with
    | .to pc => .ok { s with pc }
    | .call pc back => if s.calls.length ≥ 4 then .error CoreFault.stack else .ok { s with pc, calls := back :: s.calls }
    | .ret => (match s.calls with
      | [] => .error CoreFault.stack
      | pc :: rest => .ok { s with pc, calls := rest })
    | .leave => (match s.loops with
      | [] => .error CoreFault.illegal
      | (_, stop, _) :: rest => .ok { s with pc := stop + 1, loops := rest })
    | .done => .ok { s with done := true }
  | some (k, j) => .ok { s with slot := some (k - 1, j), pc := s.pc + 1 }
  | none => match s.loops with
    | (start, stop, left) :: rest =>
      if s.pc = stop then
        (if left > 1 then .ok { s with pc := start, loops := (start, stop, left - 1) :: rest }
         else .ok { s with pc := s.pc + 1, loops := rest })
      else .ok { s with pc := s.pc + 1 }
    | [] => .ok { s with pc := s.pc + 1 }

/-- A branch condition (Table 11-8): flags of the MAC part three instructions back. -/
def TorState.holds (s : TorState) (c : Nat) : Bool :=
  let (z, n, v) := s.flags.getD 2 (false, false, false)
  match c with
  | 0 => true | 1 => z | 2 => !z | 3 => n | 4 => !n | 5 => !n && !z | 6 => n || z | 7 => v | 8 => !v | 9 => s.tmiss
  | _ => s.tlbusy

/-- A macro (Table 11-9). -/
def CoreEnv.macro_ (e : CoreEnv) (s : TorState) (w : Nat) : TorState :=
  let d := s.full
  let at_ (i : Nat) := d.getD i 0
  let turn (i : Nat) := ofSigned 24 (at_ i)
  let out (xs : List (Nat × Int)) (sat : Bool) (clocks : Nat) : TorState :=
    { s with d := xs.foldl (fun d x => d.set x.1 (toSigned 24 (ofSigned 24 x.2))) d, recent := []
             sat := s.sat || sat, clocks := s.clocks + clocks }
  match bits w 27 24 with
  | 1 =>
    let i := bits w 19 17
    let x := toSigned 32 (ofSigned 24 (at_ i) % 256 * 2 ^ 24 + ofSigned 24 (at_ (i + 1)))
    let found := ((s.slots.getD (bits w 23 20) {}).active?).bind fun b =>
      (e.terrain.find? fun t => t.id = b.table).bind fun t => if b.serves t x then some (t.value x) else none
    let s := out [] false 14
    { s with a := s.a.set (bits w 16 15) (found.getD 0), tmiss := s.tmiss || found.isNone }
  | 2 => let (x, y) := cpark (at_ 0) (at_ 1) (turn 2); out [(3, x.1), (4, y.1)] (x.2 || y.2) 12
  | 3 => let r := ipark (at_ 3) (at_ 4) (turn 5); out [(0, r.1.1), (1, r.1.2.1), (2, r.1.2.2)] r.2 12
  | _ => let r := svt (at_ 0) (at_ 1) (at_ 2); out [(5, r.1.1), (6, r.1.2.1), (7, r.1.2.2)] r.2 10

/-- The eight words of a table-load descriptor. -/
def CoreEnv.words (e : CoreEnv) (addr : Nat) : Nat → TorState → Except Nat (List Nat × TorState)
  | 0, s => .ok ([], s)
  | k + 1, s => do
    let (v, s) ← e.read s addr
    let (vs, s) ← e.words (addr + 1) k s
    .ok (v :: vs, s)

/-- The buffer that a table load fills. -/
def TorState.setBuffer (s : TorState) (x : TableLoad) (f : TerrainBuffer → TerrainBuffer) : TorState :=
  let slot := s.slots.getD x.slot {}
  { s with slots := s.slots.set x.slot (if x.useB then { slot with b := f slot.b } else { slot with a := f slot.a }) }

/-- TLOAD begins (R304, R305): the inactive buffer is LOADING.  The packing of the header's other fields is not stated, so FIRST
is a free value. DEDUCED (log 24). -/
def CoreEnv.tload (e : CoreEnv) (s : TorState) (w : Nat) : Except Nat TorState := do
  let (ws, s) ← e.words (s.p.getD (bits w 23 21) 0) 8 s
  let k := ws.getD 2 0
  let count := ws.getD 3 0
  if k ≥ 16 || count = 0 || count > 4096 then .error CoreFault.illegal
  else
    let slot := s.slots.getD k {}
    let useB := slot.a.state = .active
    let idle := if useB then slot.b else slot.a
    if idle.state = .loading && !bit w 20 then .ok { s with tlbusy := true, clocks := s.clocks + 1 }
    else
      let gen := (slot.active?.map fun b => (b.gen + 1) % 256).getD 0
      let (first, s) := s.draw
      let x : TableLoad := { slot := k, useB, count }
      .ok { s.setBuffer x fun _ => { table := ws.getD 4 0 % 4096, state := .loading, gen, first, count } with
        load := some x, tlp := 0, tlbusy := false, clocks := s.clocks + 32 }

/-- The copy goes on to its next checkpoint, after 64 entries, or to its end, when the buffer is COMPLETE (R304, R305). -/
def TorState.copy (s : TorState) (x : TableLoad) : TorState :=
  let n := min 64 (x.count - s.tlp)
  let s := { s with tlp := s.tlp + n, clocks := s.clocks + n + (if n = 64 then 2 else 0) }
  if s.tlp < x.count then s else { s.setBuffer x fun b => { b with state := .complete } with load := none }

/-- A register that an ALU or control move writes: what those operations compute, and how they number registers, is not
stated, so both are free values (log 15). -/
def TorState.freeWrite (s : TorState) : List (Bool × Nat × Int) × TorState :=
  let (which, s) := s.draw
  let (v, s) := s.draw
  let k := which % 33
  let i := k % 8
  if k < 8 then ([(true, i, toSigned 24 v)], s)
  else
    let x := if k < 16 then LateWrite.p i (v % 65536) else if k < 24 then .n i (toSigned 16 v)
      else if k < 32 then .l i (v % 4096) else .adm (v % 65536)
    ([], { s with late := s.late ++ [(2, x)] })

/-- Run the instruction at the program counter (R291-R298, R304). -/
def CoreEnv.step (e : CoreEnv) (s : TorState) : Except Nat TorState :=
  match e.code[s.pc]?, s.load with
  | none, _ => .error CoreFault.illegal
  | some _, some x =>
    let s := s.copy x
    if s.load.isSome then .ok s else (s.retire [] none).advance
  | some w, none =>
    let s := s.applyLate
    if !torLegal w || (s.slot.isSome && slotForbids w) || (s.rc > 0 && !torParallel w) then .error CoreFault.illegal
    else
      let one (s : TorState) : TorState := { s with clocks := s.clocks + 1 }
      let slots (j : Jump) : TorState := { (one (s.retire [] none)) with slot := some (2, j), pc := s.pc + 1 }
      if torParallel w then do
        let (a, dw, flags, sat) := macPart (bits w 30 26) (bits w 25 23) (bits w 22 20) (bits w 19 18) s.macView s.a
        let (loads, s') ← e.moves s w s.d
        let s'' : TorState := { s' with a, sat := s'.sat || sat }
        let s := one (s''.retire ((dw.map fun x => (true, x.1, x.2)).toList ++ loads) flags)
        if s.rc > 1 then .ok { s with rc := s.rc - 1 } else ({ s with rc := 0 } : TorState).advance
      else if torRep w then do
        let (loads, s') ← e.moves s w s.d
        .ok { (one (s'.retire loads none)) with rc := bits w 28 19 + 1, pc := s.pc + 1 }
      else match bits w 30 28 with
        | 0 => let (ws, s') := s.freeWrite; (one (s'.retire ws none)).advance
        | 1 =>
          if bit w 27 || bits w 23 22 ≠ 0 then .error CoreFault.access
          else
            let (v, s') := match e.consts[bits w 17 0]? with
              | some v => (v, s)
              | none => s.draw
            (one (s'.retire [(false, bits w 26 24, toSigned 24 v)] none)).advance
        | 2 =>
          let target := ((s.pc : Int) + toSigned 16 (bits w 15 0)).toNat
          if !s.holds (bits w 27 24) then (one (s.retire [] none)).advance
          else .ok (slots (match bits w 23 22 with
            | 0 => .to target | 1 => .call target (s.pc + 3) | 2 => .ret | _ => .done))
        | 3 =>
          let count := if bit w 27 then ofSigned 24 (s.macView.getD (bits w 26 24) 0) % 65536 else bits w 23 12
          let stop := s.pc + loopLength w
          if s.loops.length ≥ 3 then .error CoreFault.illegal
          else if count = 0 then .ok { (one (s.retire [] none)) with pc := stop + 1 }
          else .ok { (one (s.retire [] none)) with pc := s.pc + 1, loops := (s.pc + 1, stop, count) :: s.loops }
        | 6 => (e.macro_ s w).retire [] none |>.advance
        | _ =>
          if torTload w then do
            let s ← e.tload s w
            if s.load.isSome then .ok s else (s.retire [] none).advance
          else if torBreak w then (if s.loops.isEmpty then .error CoreFault.illegal else .ok (slots .leave))
          else let (ws, s') := s.freeWrite; (one (s'.retire ws none)).advance

/-- How an operation ends (R294, R314): at END, or with a cause at an instruction. -/
inductive TorEnd where
  | done (s : TorState)
  | fault (cause : Nat) (s : TorState)

/-- Run an operation until END, a fault, or more than `limit` clocks. -/
def CoreEnv.run (e : CoreEnv) (limit : Nat) : Nat → TorState → TorEnd
  | 0, s => .fault CoreFault.runaway s
  | k + 1, s => match e.step s with
    | .error cause => .fault cause s
    | .ok t =>
      if t.clocks > limit then .fault CoreFault.runaway t
      else if t.done then .done t
      else e.run limit k t

/-- Does R299 admit an interrupt in a state, which a level has just ended or not? -/
def TorState.admits (s : TorState) (ended : Bool) : Bool :=
  s.slot.isNone && s.rc = 0 && (s.load.isNone || s.tlp > 0) && (ended || match s.loops with
    | [] => true
    | l :: _ => s.pc = l.1 || s.load.isSome)

/-- Run on for a preemption (R299): until `clocks` have passed, and from there to the next boundary that admits it; the last
such boundary before the operation would end otherwise. -/
def CoreEnv.runTo (e : CoreEnv) (clocks : Nat) : Nat → (kept s : TorState) → TorState
  | 0, kept, _ => kept
  | k + 1, kept, s => match e.step s with
    | .error _ => kept
    | .ok t =>
      if t.done then kept
      else if t.admits (t.loops.length < s.loops.length) then (if t.clocks ≥ clocks then t else e.runTo clocks k t t)
      else e.runTo clocks k kept t

/-! ### The static check (R299, R300, R311) -/

/-- A point of a path: the instruction, the active repeats, the return addresses, what is pending. -/
structure PathPoint where
  pc     : Nat
  loops  : List (Nat × Nat)
  calls  : List Nat
  slot   : Option (Nat × Jump)
  /-- a level has just ended -/
  ended  : Bool
  deriving DecidableEq, Repr

/-- Where the path goes from an instruction that does not branch. -/
def PathPoint.onward (x : PathPoint) (n : Nat) : List PathPoint :=
  let last := x.pc + n - 1
  match x.loops with
  | (start, stop) :: rest =>
    if last = stop then [{ x with pc := start, ended := false }, { x with pc := stop + 1, loops := rest, ended := true }]
    else [{ x with pc := x.pc + n, ended := false }]
  | [] => [{ x with pc := x.pc + n, ended := false }]

/-- The points after a point, with the clocks between; none where the code breaks a rule of R295 to R298 or R311. -/
def pathNext (code : List Nat) (x : PathPoint) : Option (Nat × List PathPoint) :=
  match code[x.pc]? with
  | none => none
  | some w =>
    let lastOfBody := x.loops.any fun l => l.2 = x.pc
    if !torLegal w then none
    else match x.slot with
      | some (k, j) =>
        if slotForbids w || lastOfBody then none
        else if k > 1 then some (1, [{ x with pc := x.pc + 1, slot := some (k - 1, j) }])
        else match j with
          | .to pc => some (1, [{ x with pc, slot := none }])
          | .call pc back =>
            if x.calls.length ≥ 4 || x.calls.contains back then none
            else some (1, [{ x with pc, slot := none, calls := back :: x.calls }])
          | .ret => x.calls.head?.map fun pc => (1, [{ x with pc, slot := none, calls := x.calls.tail }])
          | .leave => x.loops.head?.map fun l => (1, [{ x with pc := l.2 + 1, slot := none, loops := x.loops.tail, ended := true }])
          | .done => some (1, [])
      | none =>
        if torBranch w then
          let target := (x.pc : Int) + toSigned 16 (bits w 15 0)
          let back := x.loops.any fun l => (l.1 : Int) ≤ target && target ≤ x.pc && bits w 23 22 = 0
          if lastOfBody || target < 0 || back then none
          else
            let slot (j : Jump) : PathPoint := { x with pc := x.pc + 1, slot := some (2, j), ended := false }
            let taken := slot (match bits w 23 22 with
              | 0 => .to target.toNat | 1 => .call target.toNat (x.pc + 3) | 2 => .ret | _ => .done)
            let through := if bits w 27 24 = 0 then [] else x.onward 1
            some (1, taken :: through)
        else if torBreak w then
          if lastOfBody || x.loops.isEmpty then none
          else some (1, [{ x with pc := x.pc + 1, slot := some (2, .leave), ended := false }])
        else if torLoop w then
          let stop := x.pc + loopLength w
          if lastOfBody || x.loops.length ≥ 3 || x.loops.any (fun l => l.2 = stop) then none
          else
            let skip := if bit w 27 then [{ x with pc := stop + 1, ended := true }] else []
            some (1, { x with pc := x.pc + 1, loops := (x.pc + 1, stop) :: x.loops, ended := false } :: skip)
        else if torRep w then
          match code[x.pc + 1]? with
          | none => none
          | some r =>
            if lastOfBody || x.loops.any (fun l => l.2 = x.pc + 1) || !torParallel r || !torLegal r then none
            else some (2 + bits w 28 19, x.onward 2)
        else
          let clocks := if torLong w then 4
            else if torTload w then 80
            else if torMacro w then (match bits w 27 24 with | 1 => 14 | 4 => 10 | _ => 12)
            else 1
          some (clocks, x.onward 1)

/-- Does R299 admit an interrupt before this point? -/
def PathPoint.admits (x : PathPoint) : Bool :=
  x.slot.isNone && (x.ended || match x.loops with
    | [] => true
    | l :: _ => x.pc = l.1)

/-- Is every run from a point to the next admissible boundary at most `limit` clocks long (R300)? -/
def runWithin {Point : Type} (next : Point → Option (Nat × List Point)) (admits : Point → Bool) : Nat → Nat → Point → Bool
  | 0, _, _ => false
  | fuel + 1, limit, x => match next x with
    | none => false
    | some (clocks, ys) => clocks ≤ limit && ys.all fun y => admits y || runWithin next admits fuel (limit - clocks) y

/-- Every point that paths from the entries reach; none when a rule is broken on the way. -/
def reachPoints {Point : Type} [DecidableEq Point] (next : Point → Option (Nat × List Point)) :
    Nat → List Point → List Point → Option (List Point)
  | _, seen, [] => some seen
  | 0, _, _ => none
  | fuel + 1, seen, x :: rest =>
    if seen.contains x then reachPoints next fuel seen rest
    else match next x with
      | none => none
      | some (_, ys) => reachPoints next fuel (x :: seen) (ys ++ rest)

/-- The static check of code from its entries (R311): none when it passes, else the refusing status. -/
def staticCheck {Point : Type} [DecidableEq Point] (next : Point → Option (Nat × List Point)) (admits : Point → Bool)
    (entries : List Point) (holdoff : Nat) : Option Nat :=
  match reachPoints next 1000000 [] entries with
  | none => some Status.moduleFormat
  | some points =>
    if points.all fun x => !admits x || runWithin next admits (holdoff + 1) holdoff x then none else some Status.holdoffLimit

/-- The static check of Tor code. -/
def torCheck (code : List Nat) (entries : List Nat) (holdoff : Nat) : Option Nat :=
  staticCheck (pathNext code) PathPoint.admits
    (entries.map fun e => { pc := e, loops := [], calls := [], slot := none, ended := false }) holdoff

end Sys2Proof.Machine
end

