-- ==== Sys2Proof/Machine/Massif.lean ====
section
/-! DEFINITION. The Massif core: its instructions, latencies, rotating registers and modulo loop (R307-R310), as a custom
operation runs on it (R312, R314), and the static check of its code (R311). -/
namespace Sys2Proof.Machine

/-! ### Encodings (Table 11-13): the numbers of the operations are not stated. UNVERIFIED (log 15). -/

/-- What a vector operation is (R307). -/
inductive MassifKind where
  | nop | mul | mac | fma | rnd | add | compare | select
  /-- one that the spec does not name -/
  | other
  | reserved
  deriving DecidableEq, Repr

/-- The kind of an operation number. UNVERIFIED (log 15). -/
def massifKind (n : Nat) : MassifKind :=
  [MassifKind.nop, .mul, .mac, .fma, .rnd, .add, .compare, .select, .other].getD (Config.massifKind n % 10) .reserved

/-- A control form. -/
inductive MassifControl where
  /-- kind 0 BRA, 1 CALL, 2 RET, 3 END; on a condition that the spec does not give, or always -/
  | branch (kind : Nat) (always : Bool) (offset : Int)
  /-- II, STAGES, and COUNT: an immediate, or the S register that holds it -/
  | mloop (length stages : Nat) (count : Nat ⊕ Nat)
  | scalar (s : Nat) (value : Int)
  | address (q value : Nat)
  | reserved
  deriving DecidableEq, Repr

/-- The control form of an instruction. UNVERIFIED (log 15). -/
def massifControl (w : Nat) : MassifControl :=
  let f (i : Nat) := Config.massifField (w % 2 ^ 56) i
  match f 0 % 5 with
  | 0 => .branch (f 1 % 4) (f 2 % 2 = 0) (toSigned 16 (f 3))
  | 1 =>
    let count := f 3 % 65536
    if f 1 % 128 < 1 || f 1 % 128 > 64 || f 2 % 32 < 1 || f 2 % 32 > 16 || (f 4 % 2 = 0 && count = 0) then .reserved
    else .mloop (f 1 % 128) (f 2 % 32) (if f 4 % 2 = 0 then .inl count else .inr (f 3 % 16))
  | 2 => .scalar (f 1 % 16) (toSigned 24 (f 2))
  | 3 => .address (f 1 % 8) (f 2 % 2 ^ 24)
  | _ => .reserved

def massifIsControl (w : Nat) : Bool := bits w 55 50 = 0x3F
def massifVstage (w : Nat) : Nat := bits w 63 60
def massifMstage (w : Nat) : Nat := bits w 59 56

/-- Has the instruction no reserved encoding in any field? -/
def massifLegal (w : Nat) : Bool :=
  if massifIsControl w then massifControl w ≠ .reserved
  else massifKind (bits w 55 50) ≠ .reserved && bits w 28 26 ≤ 4 && bits w 14 12 = 0
    && (bits w 28 26 < 3 || bits w 25 20 < 16)

/-- A branch or MLOOP, which a delay slot must not hold (R307). -/
def massifTurns (w : Nat) : Bool := massifIsControl w && (match massifControl w with
  | .branch _ _ _ => true
  | .mloop _ _ _ => true
  | _ => false)

/-! ### Registers (R307, R308) -/

/-- The physical register of a name V0 to V63. -/
def massifPhysical (ring n : Nat) : Nat := if n < 32 then n else 32 + (n - ring) % 32

def MassifState.vec (m : MassifState) (n : Nat) : List Int := m.v.getD (massifPhysical m.ring n) []
/-- K0 reads 0xFF. -/
def MassifState.mask (m : MassifState) (i : Nat) : Nat := if i = 0 then 0xFF else m.k.getD i 0

/-- Lanes written over a register's lanes. -/
def overLanes (old : List Int) (lanes : List (Option Int)) : List Int := old.mapIdx fun i x => (lanes.getD i none).getD x

/-- A write lands; K0 ignores it. -/
def MassifState.land (m : MassifState) : MassifWrite → MassifState
  | .v i lanes => { m with v := setAt i (fun old => overLanes old lanes) m.v }
  | .va i lanes => { m with va := setAt i (fun old => overLanes old lanes) m.va }
  | .s i x => { m with s := m.s.set i x }
  | .q i x => { m with q := m.q.set i x }
  | .k i x => if i = 0 then m else { m with k := m.k.set i x }

/-- The writes whose latency has passed land, the oldest first (R307). -/
def MassifState.landDue (m : MassifState) : MassifState :=
  let due := m.late.filter fun w => w.1 ≤ m.clocks
  due.foldl (fun (m : MassifState) w => m.land w.2) { m with late := m.late.filter fun w => w.1 > m.clocks }

/-- A write issued now, that lands after a latency. UNVERIFIED (log 15). -/
def MassifState.issue (m : MassifState) (latency : Nat) (w : MassifWrite) : MassifState :=
  { m with late := m.late ++ [(m.clocks + latency, w)] }

/-- A free value, and the next state. UNVERIFIED (log 15). -/
def MassifState.draw (m : MassifState) : Nat × MassifState := (Config.freeNat m.drawn, { m with drawn := m.drawn + 1 })

/-! ### Vector operations -/

/-- Lanes of a result: those that the mask keeps are left as they are. -/
def maskedLanes (mask : Nat) (f : Nat → Int) : List (Option Int) :=
  (List.range 8).map fun i => if bit mask i then some (f i) else none

/-- Does a lane that the mask writes saturate? -/
def lanesSat (mask : Nat) (f : Nat → Bool) : Bool := (List.range 8).any fun i => bit mask i && f i

/-- A comparison of two lanes; which one an operation makes is not stated. UNVERIFIED (log 15). -/
def compareLanes (relation : Nat) (a b : Int) : Bool := match relation % 6 with
  | 0 => a = b | 1 => a ≠ b | 2 => a < b | 3 => a ≥ b | 4 => a > b | _ => a ≤ b

/-- Eight free values. UNVERIFIED (log 15). -/
def MassifState.drawLanes (m : MassifState) : List Int × MassifState :=
  (List.range 8).foldl (init := ([], m)) fun (acc : List Int × MassifState) _ =>
    let (x, m) := acc.2.draw
    (acc.1 ++ [toSigned 24 x], m)

/-- The vector operation of an instruction, with its destination resolved as it issues (R307, R308).  The accumulators hold
Q9.47 lanes, saturated as R295; results in V are stored by R8. -/
def MassifState.vectorOp (m : MassifState) (w : Nat) : MassifState :=
  let dest := bits w 49 44
  let mask := m.mask (bits w 31 29)
  let a (i : Nat) := (m.vec (bits w 43 38)).getD i 0
  let b (i : Nat) := (m.vec (bits w 37 32)).getD i 0
  let extra := Config.massifField w 0
  let acc (i : Nat) := (m.va.getD (dest % 4) []).getD i 0
  let accumulate (f : Nat → Int) : MassifState :=
    { m.issue 4 (.va (dest % 4) (maskedLanes mask fun i => (sat56 (f i)).1)) with
      sat := m.sat || lanesSat mask fun i => (sat56 (f i)).2 }
  let store (latency : Nat) (f : Nat → Int × Bool) : MassifState :=
    { m.issue latency (.v (massifPhysical m.ring dest) (maskedLanes mask fun i => (f i).1)) with
      sat := m.sat || lanesSat mask fun i => (f i).2 }
  match massifKind (bits w 55 50) with
  | .mul => accumulate fun i => a i * b i * 2
  | .mac => accumulate fun i => acc i + a i * b i * 2
  | .fma => accumulate fun i => a i * m.s.getD (extra % 16) 0 * 2 + b i * 2 ^ 24
  | .rnd => store 3 fun i => store24 ((m.va.getD (bits w 43 38 % 4) []).getD i 0)
  | .add => store 2 fun i => sat24 (a i + b i)
  | .compare => m.issue 2 (.k (dest % 8) (sumNat ((List.range 8).map fun i =>
      if bit mask i then flag (compareLanes extra (a i) (b i)) i else flag (bit (m.mask (dest % 8)) i) i)))
  | .select => store 2 fun i => (if bit (m.mask (extra % 8)) i then a i else b i, false)
  | .other =>
    let (lanes, m) := m.drawLanes
    m.issue (1 + extra % 5) (.v (massifPhysical m.ring dest) (maskedLanes mask fun i => lanes.getD i 0))
  | _ => m

/-! ### Memory and scalar operations -/

/-- A word at an address of a Q register: of the local slot, or of Massif SRAM, whose contents there are free.
UNVERIFIED (log 15). -/
def CoreEnv.massifRead (e : CoreEnv) (m : MassifState) (addr : Nat) : Except Nat (Nat × MassifState) :=
  if addr < e.size then (e.localRead m.mem m.drawn addr).map fun r => (r.1, { m with drawn := r.2 })
  else let (x, m) := m.draw; .ok (x % 2 ^ 24, m)

/-- Words from an address on. -/
def CoreEnv.massifReads (e : CoreEnv) (addr : Nat) : Nat → MassifState → Except Nat (List Nat × MassifState)
  | 0, m => .ok ([], m)
  | k + 1, m => do
    let (x, m) ← e.massifRead m addr
    let (xs, m) ← e.massifReads (addr + 1) k m
    .ok (x :: xs, m)

/-- Words stored from an address on, in the local slot only. UNVERIFIED (log 15). -/
def CoreEnv.massifWrites (e : CoreEnv) (addr : Nat) : List Int → MassifState → Except Nat MassifState
  | [], m => .ok m
  | x :: xs, m => do
    let mem ← e.localWrite m.mem addr (ofSigned 24 x)
    e.massifWrites (addr + 1) xs { m with mem }

/-- The memory operation of an instruction: eight words of a vector, or one, with the update of Q after it.  A scalar load is as
late as a vector load. UNVERIFIED (log 15). -/
def CoreEnv.massifMem (e : CoreEnv) (m : MassifState) (w : Nat) : Except Nat MassifState := do
  let reg := bits w 25 20
  let q := bits w 19 17
  let addr := m.q.getD q 0
  let step : Int := match bits w 16 15 with | 0 => 0 | 1 => 8 | 2 => 1 | _ => -8
  let update (m : MassifState) : MassifState := m.issue 1 (.q q ((addr + step) % 2 ^ 24).toNat)
  match bits w 28 26 with
  | 1 =>
    let (xs, m) ← e.massifReads addr 8 m
    .ok (update (m.issue 5 (.v (massifPhysical m.ring reg) (xs.map fun x => some (toSigned 24 x)))))
  | 2 => (e.massifWrites addr (m.vec reg) m).map update
  | 3 =>
    let (x, m) ← e.massifRead m addr
    .ok (update (m.issue 5 (.s (reg % 16) (toSigned 24 x))))
  | 4 => (e.massifWrites addr [m.s.getD (reg % 16) 0] m).map update
  | _ => .ok m

/-- The scalar operation of an instruction: which S register it writes and what are not stated. UNVERIFIED (log 15). -/
def MassifState.scalarOp (m : MassifState) (w : Nat) : MassifState :=
  if bits w 11 0 = 0 then m
  else
    let (x, m) := m.draw
    m.issue 1 (.s (Config.massifField w 1 % 16) (toSigned 24 x))

/-! ### The modulo loop (R309) -/

/-- Does an operation of a stage belong to an iteration in this pass? -/
def MassifState.acts (m : MassifState) (stage : Nat) : Bool :=
  m.body.isNone || (stage ≤ m.pass && m.pass - stage < m.iter)

/-- The last instruction of the body has run. -/
def MassifState.bodyEnds (m : MassifState) : Bool := m.body.any fun b => m.pc + 1 = b.start + b.length

/-- The modulo loop ends: PASS and ITER read 0. -/
def MassifState.endLoop (m : MassifState) : MassifState := { m with body := none, pass := 0, iter := 0 }

/-- The next instruction in order; the last one of a body ends a pass, which turns the ring, and the last pass ends the loop. -/
def MassifState.onward (m : MassifState) : MassifState := match m.body with
  | some b =>
    if m.bodyEnds then
      let m := { m with ring := (m.ring + 1) % 32, pass := m.pass + 1 }
      if m.pass < m.iter + b.stages - 1 then { m with pc := b.start } else { m.endLoop with pc := m.pc + 1 }
    else { m with pc := m.pc + 1 }
  | none => { m with pc := m.pc + 1 }

/-- Where the next instruction comes from, after the delay slot of a branch or in order. -/
def MassifState.advance (m : MassifState) : Except Nat MassifState := match m.slot with
  | none => .ok m.onward
  | some j =>
    let m := { m with slot := none }
    match j with
    | .to pc => .ok { m with pc }
    | .call pc back => if m.calls.length ≥ 4 then .error CoreFault.stack else .ok { m with pc, calls := back :: m.calls }
    | .ret => (match m.calls with
      | [] => .error CoreFault.stack
      | pc :: rest => .ok { m with pc, calls := rest })
    | _ => .ok { m with done := true }

/-- A branch is taken: its delay slot comes next, and a loop that it leaves ends with its pass. -/
def MassifState.branch (m : MassifState) (kind : Nat) (offset : Int) : MassifState :=
  let target := ((m.pc : Int) + offset).toNat
  let back := m.pc + 2
  let m := if m.body.isSome then { m.endLoop with ring := (m.ring + 1) % 32 } else m
  { m with pc := m.pc + 1, slot := some (match kind with | 0 => .to target | 1 => .call target back | 2 => .ret | _ => .done) }

/-- May an instruction stand where it stands: the tags of its stages, its delay slot, its place in a body (R307, R309)? -/
def massifPlaced (w pc : Nat) (slot : Bool) (body : Option ModuloLoop) : Bool :=
  massifLegal w && !(slot && massifTurns w) && (match body with
    | none => massifVstage w = 0 && massifMstage w = 0
    | some b => massifVstage w < b.stages && massifMstage w < b.stages && (!massifIsControl w || (match massifControl w with
      | .branch kind _ offset =>
        let target := (pc : Int) + offset
        pc + 1 = b.start + b.length && (kind ≥ 2 || target < b.start || target ≥ (b.start + b.length : Nat))
      | .mloop _ _ _ => false
      | _ => true)))

/-- Run the instruction at the program counter (R307-R309). -/
def CoreEnv.massifStep (e : CoreEnv) (m : MassifState) : Except Nat MassifState :=
  match e.code[m.pc]? with
  | none => .error CoreFault.illegal
  | some w =>
    let m := m.landDue
    let one (m : MassifState) : MassifState := { m with clocks := m.clocks + 1 }
    if !massifPlaced w m.pc m.slot.isSome m.body then .error CoreFault.illegal
    else if massifIsControl w then match massifControl w with
      | .branch kind always offset =>
        let (x, m) := if always then (0, m) else m.draw
        if x % 2 = 0 then .ok (one (m.branch kind offset)) else (one m).advance
      | .mloop length stages count =>
        let n := match count with | .inl n => n | .inr s => ofSigned 24 (m.s.getD s 0) % 65536
        if n = 0 then .ok { one m with pc := m.pc + 1 + length }
        else .ok { one m with pc := m.pc + 1, pass := 0, iter := n, body := some { start := m.pc + 1, length, stages } }
      | .scalar s x => (one (m.issue 1 (.s s x))).advance
      | .address q x => (one (m.issue 1 (.q q x))).advance
      | .reserved => .error CoreFault.illegal
    else do
      let t := if m.acts (massifVstage w) then m.vectorOp w else m
      let t ← if m.acts (massifMstage w) then e.massifMem t w else .ok t
      (one (t.scalarOp w)).advance

/-! ### Running (R310, R314) -/

/-- How a Massif operation ends. -/
inductive MassifEnd where
  | done (m : MassifState)
  | fault (cause : Nat) (m : MassifState)

/-- Run an operation until END, a fault, or more than `limit` clocks. -/
def CoreEnv.massifRun (e : CoreEnv) (limit : Nat) : Nat → MassifState → MassifEnd
  | 0, m => .fault CoreFault.runaway m
  | k + 1, m => match e.massifStep m with
    | .error cause => .fault cause m
    | .ok t =>
      if t.clocks > limit then .fault CoreFault.runaway t
      else if t.done then .done t
      else e.massifRun limit k t

/-- Is an interrupt admitted: not in a delay slot, and inside a modulo loop only at a pass boundary (R310)? -/
def MassifState.admits (m : MassifState) : Bool := m.slot.isNone && m.body.all fun b => m.pc = b.start

/-- Run on for a preemption, as `CoreEnv.runTo` does on a Tor core. -/
def CoreEnv.massifRunTo (e : CoreEnv) (clocks : Nat) : Nat → (kept m : MassifState) → MassifState
  | 0, kept, _ => kept
  | k + 1, kept, m => match e.massifStep m with
    | .error _ => kept
    | .ok t =>
      if t.done then kept
      else if t.admits then (if t.clocks ≥ clocks then t else e.massifRunTo clocks k t t)
      else e.massifRunTo clocks k kept t

/-! ### The static check (R310, R311) -/

/-- A point of a path: the instruction, the loop that runs, the return addresses, the jump that waits. -/
structure MassifPoint where
  pc    : Nat
  body  : Option ModuloLoop
  calls : List Nat
  slot  : Option Jump
  deriving DecidableEq, Repr

/-- Where the path goes from an instruction in order. -/
def MassifPoint.onward (x : MassifPoint) : List MassifPoint := match x.body with
  | some b =>
    if x.pc + 1 = b.start + b.length then [{ x with pc := b.start }, { x with pc := x.pc + 1, body := none }]
    else [{ x with pc := x.pc + 1 }]
  | none => [{ x with pc := x.pc + 1 }]

/-- The points after a point, with the clocks between; none where the code breaks a rule of R307, R309 or R311. -/
def massifNext (code : List Nat) (x : MassifPoint) : Option (Nat × List MassifPoint) :=
  match code[x.pc]? with
  | none => none
  | some w =>
    if !massifPlaced w x.pc x.slot.isSome x.body then none
    else match x.slot with
      | some (.to pc) => some (1, [{ x with pc, slot := none }])
      | some (.call pc back) =>
        if x.calls.length ≥ 4 || x.calls.contains back then none
        else some (1, [{ x with pc, slot := none, calls := back :: x.calls }])
      | some .ret => x.calls.head?.map fun pc => (1, [{ x with pc, slot := none, calls := x.calls.tail }])
      | some _ => some (1, [])
      | none =>
        if !massifIsControl w then some (1, x.onward)
        else match massifControl w with
          | .branch kind always offset =>
            let target := (x.pc : Int) + offset
            if kind < 2 && target < 0 then none
            else
              let taken : MassifPoint := { x with
                pc := x.pc + 1, body := none
                slot := some (match kind with
                  | 0 => .to target.toNat | 1 => .call target.toNat (x.pc + 2) | 2 => .ret | _ => .done) }
              some (1, taken :: (if always then [] else x.onward))
          | .mloop length stages count =>
            let skip := match count with | .inl _ => [] | .inr _ => [{ x with pc := x.pc + 1 + length }]
            some (1, { x with pc := x.pc + 1, body := some { start := x.pc + 1, length, stages } } :: skip)
          | _ => some (1, x.onward)

/-- Does R310 admit an interrupt before this point? -/
def MassifPoint.admits (x : MassifPoint) : Bool := x.slot.isNone && x.body.all fun b => x.pc = b.start

/-- The static check of Massif code; the hold-off is that of the pass boundaries, whatever a count (R310, R311). -/
def massifCheck (code : List Nat) (entries : List Nat) (holdoff : Nat) : Option Nat :=
  staticCheck (massifNext code) MassifPoint.admits (entries.map fun e => { pc := e, body := none, calls := [], slot := none }) holdoff

end Sys2Proof.Machine
end

