-- ==== Sys2Proof/Machine/Graph.lean ====
section
/-! DEFINITION. The control graphs of the axes, stage by stage, and their commit (R200-R216, R229, R279, R291, R312-R315). -/
namespace Sys2Proof.Machine

/-! ### Coverage (R211) -/

/-- Blend coverage of a segment under a mover (R211), in doubled units so that LENGTH ÷ 2 is exact. DEDUCED (log 25). -/
def Head.coverageOf (h : Head) (m : Mover) (s : Axis) : Nat :=
  let x := m.centre
  let lo := 2 * x - m.length + 2 * m.magInset
  let hi := 2 * x + m.length - 2 * m.magInset
  let n := min hi (2 * s.segEnd) - max lo (2 * s.segStart)
  blendAt (h.blends.getD m.blend []) n.toNat (2 * s.segLength)

/-- Every segment bound to a mover takes its coverage from the estimate of this cycle (R211, R114). DEDUCED (log 26). -/
def Head.coverMover (h : Head) (id : Nat) : Head :=
  match h.mover? id with
  | none => h
  | some m => h.setAxes (fun s => s.linear && (s.mover = some id || s.moverNow = some id)) fun s =>
      let c := h.coverageOf m s
      { s with coverage := c, zeroRun := if c = 0 then satInc 2 s.zeroRun else 0 }

/-- MOVER_CUTOFF: the readings of the cycle are in, or its cut-off has come (R201).  After the last mover's the calendar
evaluates (R190). DEDUCED (log 21). -/
def execMoverCutoff (mover : Nat) (s : State) : Host.Outcome State Fault Refusal :=
  eventExec (mover < 256) (fun h =>
    match h.mover? mover with
    | none => h
    | some m => match h.axis? m.axis with
      | none => h
      | some a =>
        if m.cut || !h.inTurn a then h
        else
          let h := (h.observeMover mover).coverMover mover
          let h := h.setAxis a.id fun a => if a.graph = .waiting then { a with graph := .ready } else a
          if !h.cal.evaluated && h.movers.all (fun m => m.cut || (h.axis? m.axis).all fun a => !h.inTurn a) then
            h.evaluateCalendar
          else h) s

/-- The segments that share a mover's force: bound, ENABLED and not in BELAY (R212). -/
def Head.pushers (h : Head) (m : Mover) : List Axis :=
  h.axes.filter fun s => s.linear && s.state = .enabled && !h.recordBelay s && (h.nextBinding s).2 = some m.id

/-- Σc (R212). -/
def Head.coverSum (h : Head) (m : Mover) : Nat := sumNat ((h.pushers m).map fun s => s.coverage)

/-- 0.25 in Q1.23 (R213). -/
def quarter : Nat := 2 ^ 21

/-! ### Stages (Table 08-1, R279, R315) -/

/-- The operations of a graph, in their order. -/
inductive Stage where
  | unpack | hook (n : Nat) | terrain | share | foc | pack | profile | engine | cover | stepper
  deriving DecidableEq, Repr

/-- Where an operation runs (Table 10-1). -/
inductive UnitKind where
  | tor | engine | massif
  deriving DecidableEq, Repr

def Axis.hookStage (a : Axis) (n : Nat) : List Stage := if a.hooks.any fun x => x.hook = n then [.hook n] else []

/-- The stages of an axis's graph (Table 08-1, Table 11-16). -/
def Axis.stages (a : Axis) : List Stage := match a.kind with
  | .stepper => [.stepper]
  | .mover => [.profile, .engine] ++ a.hookStage 4 ++ [.cover]
  | .segment =>
    [.unpack] ++ a.hookStage 1 ++ (if a.rotary then [.profile, .engine] else []) ++ [.terrain, .share] ++ a.hookStage 2
      ++ [.foc] ++ a.hookStage 3 ++ [.pack]

def Stage.unit : Stage → UnitKind
  | .profile => .massif | .cover => .massif | .hook 4 => .massif | .engine => .engine | _ => .tor

def Head.module? (h : Head) (id : Nat) : Option Module := h.compute.modules.find? fun m => m.id = id

/-- The entry that an attachment names. -/
def Head.entry? (h : Head) (x : Attachment) : Option (Module × ModuleEntry) :=
  (h.module? x.moduleId).bind fun m => (m.entries[x.entry]?).map fun e => (m, e)

/-- The planned cost of an operation in clocks (Tables 01-6 and 10-2, R280). -/
def Head.stageCost (h : Head) (a : Axis) : Stage → Nat
  | .unpack => 15
  | .terrain => 30
  | .share => 20
  | .foc => 200
  | .pack => 10
  | .profile => 24
  | .engine => 68
  | .cover => 16
  | .stepper => if a.localStep then 40 else 90
  | .hook n => ((a.hooks.find? fun x => x.hook = n).bind fun x => (h.entry? x).map fun e => e.2.cost).getD 0

/-- The group of an axis's operations (R279). -/
def Axis.group (a : Axis) : Nat := a.range

/-! ### Readiness (R201, R216, R279) -/

/-- The reading of a segment or remote stepper axis can no longer come in this cycle: its window has passed, or it has
none. DEDUCED (log 28). -/
def Head.readingLate (h : Head) (a : Axis) : Bool :=
  let node := a.location % 1024
  match h.schedule?, h.branchEntry? (node / 32), (h.branch (node / 32)).positions[node % 32]? with
  | some s, some e, some x =>
    (h.now - h.time.cycleStart) * 10 ≥ (windowOf s e (node % 32) x h.ownChannel).2
  | _, _, _ => true

/-- The estimates and readings with which an axis's graph starts exist (R201, R216). -/
def Head.inputsExist (h : Head) (a : Axis) : Bool := match a.kind with
  | .mover => a.graph = .ready
  | .segment => a.graph = .ready || (a.graph = .waiting && h.readingLate a)
  | .stepper => a.localStep || a.graph = .ready || (a.graph = .waiting && h.readingLate a)

/-- The mover that a linear segment's record serves. -/
def Head.driverMover? (h : Head) (a : Axis) : Option Mover := ((h.nextBinding a).2).bind fun m => h.mover? m

/-- Every input of a stage exists: its mover's estimate for the terrain, its mover's force command for the share (R201). -/
def Head.stageReady (h : Head) (a : Axis) (st : Stage) : Bool :=
  if !a.linear then true
  else match st with
    | .terrain => (h.driverMover? a).any fun m => m.cut || !((h.axis? m.axis).any fun x => h.inTurn x)
    | .share => (h.driverMover? a).any fun m => m.force.isSome
    | _ => true

/-- Is the axis's state in a tile that computes it (R260, R276)? -/
def Axis.placed (a : Axis) : Bool := a.place.state = .placed || a.place.state = .prepare

/-- The axis has a place in a tile (R266). -/
def Axis.located (a : Axis) : Bool := a.place.state ≠ .notPlaced

/-- The graph of an axis may run in this cycle. -/
def Head.graphOpen (h : Head) (a : Axis) : Bool :=
  h.runs a && a.placed && a.graph ≠ .complete && a.graph ≠ .abandoned && (a.work.isSome || h.inputsExist a)

/-- A graph begins: the values of the last cycle, and for a rotary axis whose reading has not come a prediction. -/
def Head.beginGraph (h : Head) (a : Axis) : Head :=
  let h := if a.rotary && a.graph = .waiting then h.observeRotary a.id none else h
  h.setAxis a.id fun a => { a with
    graph := .ready
    work := some { since := h.now, loop := a.loop, current := a.current } }

/-! ### The loop-engine instances (R203) -/

/-- −1, 0 or 1. -/
def signOf (x : Int) : Int := if x < 0 then -1 else if x = 0 then 0 else 1

/-- The integrator of an instance, in Q1.31, kept within ±limit also while it is held (R228); `true` when it stands at its
limit (Table 08-4). -/
def integrate (held : Bool) (state : Int) (gain : Nat) (error limit : Int) : Int × Bool :=
  let moved := if held then state else state + roundDiv (gainMul gain error) (2 ^ 12)
  let kept := (limitTo moved (limit * 256)).1
  (kept, kept.natAbs ≥ (limit * 256).natAbs)

/-- Position and velocity instance of a mover or rotary axis: the force command and what the loop holds (R203, R204).  Every
product and difference is stored by R8; one that saturates on the way sets SAT_OTHER. DEDUCED (log 25). -/
def Head.runInstances (h : Head) (a : Axis) (w : Work) : Work :=
  let o := h.obsOf a
  let xs := h.xShift a
  let vs := h.vShift a
  let c := h.coeffQ a
  let g := h.coeff a
  let shifts := h.coeff a 0x0D
  let l := w.loop
  let ex := sat24 (a.difference (roundDiv w.xSet 65536) o.units * 2 ^ xs)
  let vff := speedWord w.vSet vs
  let vh := speedWord o.speed vs
  let ix := integrate (bit shifts 8 && l.satX && signOf ex.1 = signOf l.vref) l.ix (g 0x01) ex.1 (c 0x03)
  let kp := gainStore (g 0x00) ex.1
  let lead := sat24 (vff.1 - vh.1)
  let kd := gainStore (g 0x02) lead.1
  let raw := sat24 (roundDiv ((vff.1 + kp.1 + kd.1) * 2 ^ 8 + ix.1) (2 ^ 8))
  let vref := limitTo raw.1 (c 0x04)
  let satX := raw.2 || vref.2
  let ev := sat24 (vref.1 - vh.1)
  let dv := sat24 (vh.1 - l.s)
  let ds := mulStore (c 0x08) dv.1
  let s := sat24 (l.s + ds.1)
  let iv := integrate (bit shifts 9 && l.satV && signOf ev.1 = signOf l.lastCmd) l.iv (g 0x06) ev.1 (c 0x09)
  let aq := sat24 (roundDiv w.aSet (2 ^ vs))
  let kv := gainStore (g 0x05) ev.1
  let kdv := gainStore (g 0x07) dv.1
  let ka := gainStore (g 0x0A) aq.1
  let fraw := sat24 (roundDiv ((kv.1 - kdv.1 + ka.1 + c 0x0B) * 2 ^ 8 + iv.1) (2 ^ 8))
  let f := limitTo fraw.1 (c 0x0C)
  let satV := fraw.2 || f.2
  let flags := flag ex.2 0 + flag (ev.2 || dv.2) 1 + flag ix.2 2 + flag iv.2 3 + flag satX 4 + flag satV 5
    + flag (vff.2 || vh.2 || ds.2 || s.2 || aq.2 || kp.2 || lead.2 || kd.2 || kv.2 || kdv.2 || ka.2) 13
  { w with
    force := f.1, sticky := w.sticky ||| BitVec.ofNat 16 flags
    loop := { l with ix := ix.1, iv := iv.1, s := s.1, lastCmd := f.1, satX, satV, vref := vref.1 } }

/-! ### Terrain, share and the force loop (R208-R216) -/

/-- The estimate that a segment axis works with: its mover's, or its own. -/
def Head.segmentObs (h : Head) (a : Axis) : Observer :=
  if a.linear then ((h.driverMover? a).map fun m => m.obs).getD {} else a.obs

/-- VSHIFT for a segment's velocities: its mover's, or its own. DEDUCED (log 26). -/
def Head.segmentShift (h : Head) (a : Axis) : Nat :=
  if a.linear then ((h.driver? a).map fun d => h.vShift d).getD 0 else h.vShift a

/-- θ and θ_out, each rounded once as it is stored (R214, R486). DEDUCED (log 26). -/
def Head.angles (h : Head) (a : Axis) : Nat × Nat :=
  let o := h.segmentObs a
  let pitch := max (h.coeff a 0x27) 1
  let theta := storeTurn (o.units - a.segStart - h.coeff a 0x28) pitch
  let d := 1000000000 * pitch
  (theta, (roundDiv (theta * d + o.speed * 6 * h.cycleNs * 2 ^ 24) d % 2 ^ 24).toNat)

/-- The first miss after 64 cycles without one is reported (R210). -/
def Head.missTerrain (h : Head) (a : Axis) (table : Nat) : Head :=
  let h := if a.loop.cleanRun ≥ 64 then (h.raise (srcAxis a.id) 21).post 0x0603 0 a.id [(2, table)] else h
  h.setAxis a.id fun a => { a with loop := { a.loop with cleanRun := 0 } }

/-- Friction and cogging terms (R208-R210). -/
def Head.runTerrain (h : Head) (a : Axis) (w : Work) : Head × Work :=
  let o := h.segmentObs a
  let word := h.coeff a 0x29
  let fricId := bits word 11 0
  let cogId := bits word 23 12
  let fricAt := if fricId = 0xFFF then some 0 else h.friction a.place.tile fricId o.units
  let cogAt := if cogId = 0xFFF then some 0 else
    h.cogging cogId (if a.linear then o.units - a.segStart - h.coeff a 0x28 else o.units)
  let direction := sat24 (roundDiv (o.speed * 2 ^ 23) (max (h.coeff a 0x0F) 1))
  let fric := match fricAt with
    | some v => mulStore (store24 v).1 direction.1
    | none => (0, false)
  let cog := match cogAt with
    | some v => (store24 v).1
    | none => 0
  let missed := if fricAt.isNone then some fricId else if cogAt.isNone then some cogId else none
  let h := match missed with
    | some t => h.missTerrain a t
    | none => h
  let clean := if missed.isSome then 0 else satInc 64 w.loop.cleanRun
  let other : Bool := (fricAt.isSome && fricId ≠ 0xFFF && direction.2) || fric.2
  (h, { w with fric := fric.1, cog, loop := { w.loop with cleanRun := clean }
               sticky := w.sticky ||| BitVec.ofNat 16 (flag missed.isSome 10 + flag other 13) })

/-- The q-current set-point of a segment (R209, R211-R213). DEDUCED (log 25). -/
def Head.runShare (h : Head) (a : Axis) (w : Work) : Work :=
  let force := if a.linear then ((h.driverMover? a).bind fun m => m.force).getD 0 else w.force
  let total := sat24 (force + w.fric)
  let raw :=
    if a.linear then match h.driverMover? a with
      | none => 0
      | some m =>
        let sum := h.coverSum m
        if sum < quarter then w.cog
        else if a.coverage = 0 then 0
        else roundDiv (gainMul (h.coeff a 0x23) total.1 * 8) sum + w.cog
    else total.1 + w.cog
  let iq := limitTo raw (h.coeffQ a 0x24)
  { w with force, iqRef := iq.1, idRef := h.coeffQ a 0x25
           sticky := w.sticky ||| BitVec.ofNat 16 (flag iq.2 7 + flag total.2 9) }

/-- One of the two current regulators of R215: integrator, output, saturation. -/
def regulate (used limited : Bool) (kp ki : Nat) (ref i int before : Int) : Int × Int × Bool :=
  let e := sat24 (ref - i)
  let moved := sat24 (int + roundDiv (gainMul ki e.1) (2 ^ 20))
  let held := !used || (limited && signOf e.1 = signOf before)
  let int' := if held then (int, false) else moved
  let u := sat24 (roundDiv (gainMul kp e.1) (2 ^ 20) + int'.1)
  (int'.1, u.1, e.2 || int'.2 || u.2)

/-- circle_limit: magnitude at most VLIM, the q share first (R215). -/
def circleLimit (ud uq : Int) (vlim : Nat) : Int × Int × Bool :=
  if ud.natAbs * ud.natAbs + uq.natAbs * uq.natAbs ≤ vlim * vlim then (ud, uq, false)
  else
    let q := (limitTo uq vlim).1
    let d := (limitTo ud (isqrt (vlim * vlim - q.natAbs * q.natAbs))).1
    (d, q, true)

/-- The bus correction VNOM ÷ v_dc, at most 2 (R215), and whether the corrected voltage saturates (R8). -/
def busCorrect (u : Int) (vnom : Nat) (aux : Int) : Int × Bool :=
  if aux * 2 < vnom then sat24 (u * 2) else sat24 (roundDiv (u * vnom) aux.toNat)

/-- The field-oriented force loop (R214-R216); no bus correction while AUX is not valid. -/
def Head.runFoc (h : Head) (a : Axis) (w : Work) : Work :=
  let (theta, thetaOut) := h.angles a
  let c := w.current
  let park := cpark w.iU w.iV theta
  let (id, iq) := if w.used then (park.1.1, park.2.1) else (c.idRef, c.iqRef)
  let kp := h.coeff a 0x20
  let ki := h.coeff a 0x21
  let (intD, ud, satD) := regulate w.used c.limited kp ki w.idRef id c.intD c.uD
  let (intQ, uq, satQ) := regulate w.used c.limited kp ki w.iqRef iq c.intQ c.uQ
  let (ud, uq, circle) := circleLimit ud uq (h.coeff a 0x22)
  let vnom := h.coeff a 0x26
  let bus : Bool := w.auxValid && w.aux * 2 < vnom
  let (vd, vq) := if w.auxValid then (busCorrect ud vnom w.aux, busCorrect uq vnom w.aux) else ((ud, false), (uq, false))
  let phases := ipark vd.1 vq.1 thetaOut
  let duties := svt phases.1.1 phases.1.2.1 phases.1.2.2
  let flags := flag satD 6 + flag satQ 7 + flag (circle || bus) 8 + flag (!w.used) 12
    + flag ((w.used && (park.1.2 || park.2.2)) || vd.2 || vq.2 || phases.2 || duties.2) 13
  { w with
    dutyU := duties.1.1, dutyV := duties.1.2.1, dutyW := duties.1.2.2
    sticky := w.sticky ||| BitVec.ofNat 16 flags
    current := { intD, intQ, uD := ud, uQ := uq, limited := circle || bus, iD := id, iQ := iq, iqRef := w.iqRef, idRef := w.idRef } }

/-! ### Unpack, profile, cover -/

/-- The fields of the uplink record that is used (Table 06-7, R216). -/
def Axis.runUnpack (a : Axis) (w : Work) : Work := match a.uplink with
  | none => { w with used := false, auxValid := false }
  | some r => { w with
      used := bit (field r 0 3) 15, auxValid := bit (field r 0 3) 17, iU := sfield r 3 3, iV := sfield r 6 3, aux := sfield r 13 3 }

/-- Every carrier with coverage reports its brake released (R220). -/
def Head.brakesOff (h : Head) (a : Axis) : Bool :=
  (h.carriers a).all fun s => bit s.status 1 || (s.linear && s.coverage = 0)

/-- The profile generator at the cycle's sample instant; a move that waits for its brakes starts once they are off (R218,
R220). -/
def Head.runProfile (h : Head) (a : Axis) (w : Work) : Head × Work :=
  let t := h.time.cycleStart
  let h := match a.motion.waitTarget with
    | some target =>
      if a.motion.brakeWait.isSome && h.brakesOff a then
        h.setAxis a.id fun a => { a with motion := { a.motion with
          plan := some (planMove t (a.motion.at t) (a.goal (a.motion.at t).x target) (a.motion.limits.getD a.motion.set ⟨1, 1, 1⟩))
          brakeWait := none, waitTarget := none } }
      else h
    | none => h
  let m := ((h.axis? a.id).map fun a => a.motion).getD a.motion
  let k := m.at t
  (h, { w with xSet := k.x, vSet := k.v, aSet := k.a })

/-! ### Custom operations (R291, R294, R312, R314) -/

/-- What a stage comes to: the head and the graph's values, or a fault of a custom operation. -/
inductive Ran where
  | went (h : Head) (w : Work)
  | broke (h : Head) (x : Attachment) (cause offset clocks : Nat)

/-- The hook block of a hook and its writable words (Table 11-16). -/
def Head.hookBlock (h : Head) (a : Axis) (w : Work) (n : Nat) : List (Nat × Nat) × List Nat :=
  let q (v : Int) := ofSigned 24 v
  match n with
  | 1 =>
    let r := a.uplink.getD []
    ([(0, q w.iU), (1, q w.iV), (2, q w.aux), (3, field r 9 3), (4, field r 12 1), (5, field r 16 2)], [0, 1, 2])
  | 2 => ([(0, q w.iqRef), (1, q w.idRef), (2, (h.angles a).1),
      (3, q (speedWord (h.segmentObs a).speed (h.segmentShift a)).1)], [0, 1])
  | 3 => ([(0, w.dutyU), (1, w.dutyV), (2, w.dutyW), (3, (h.angles a).2), (4, q w.current.iD), (5, q w.current.iQ)], [0, 1, 2])
  | _ => ([(0, q w.force), (1, q (speedWord (h.obsOf a).speed (h.vShift a)).1),
      (2, q (sat24 (roundDiv w.aSet (2 ^ h.vShift a))).1)], [0])

/-- A hook block's words back in the graph. -/
def Work.takeHook (w : Work) (n : Nat) (word : Nat → Nat) : Work :=
  let s (i : Nat) := toSigned 24 (word i)
  match n with
  | 1 => { w with iU := s 0, iV := s 1, aux := s 2 }
  | 2 => { w with iqRef := s 0, idRef := s 1 }
  | 3 => { w with dutyU := word 0, dutyV := word 1, dutyW := word 2 }
  | _ => { w with force := s 0, loop := { w.loop with lastCmd := s 0 } }

/-- What a custom operation runs with (R312): Tor and Massif slots differ in their size alone. -/
def Head.coreEnv (h : Head) (a : Axis) (w : Work) (x : Attachment) (m : Module) : CoreEnv :=
  let (block, rw) := h.hookBlock a w x.hook
  { size := if m.massif then 8192 else 2048
    code := m.code, consts := m.consts, hook := block ++ (if x.fresh then [(0x3F, 1)] else []), rw, priv := x.priv
    terrain := h.terrain }

/-- The Tor registers at which an operation starts, or goes on after it was displaced (R290, R299). -/
def Head.torStart (h : Head) (a : Axis) (w : Work) (e : ModuleEntry) : TorState :=
  let slots := (h.tile a.place.tile).slots
  match w.ctx with
  | some (.tor s) => { s with slots, drawn := h.drawn }
  | _ => { pc := e.offset, slots, drawn := h.drawn }

/-- The same of a Massif core (R290, R310). -/
def Head.massifStart (h : Head) (w : Work) (e : ModuleEntry) : MassifState := match w.ctx with
  | some (.massif m) => { m with drawn := h.drawn }
  | _ => { pc := e.offset, drawn := h.drawn }

/-- What a Tor operation leaves outside its registers: the terrain buffers that it loads, the free values drawn. -/
def Head.keepTor (h : Head) (a : Axis) (s : TorState) : Head :=
  ({ h with drawn := s.drawn } : Head).setTile a.place.tile fun t => { t with slots := s.slots }

/-- An operation has reached END: its hook block and private words go back to the graph, and its saturation to SAT_OTHER
(R291, R294). -/
def Head.endHook (h : Head) (a : Axis) (w : Work) (x : Attachment) (mem : List (Nat × Nat)) (sat tmiss : Bool)
    (clocks : Nat) : Work :=
  let block := (h.hookBlock a w x.hook).1
  let written (i : Nat) : Option Nat := (mem.find? fun y => y.1 = i).map fun y => y.2
  let word (i : Nat) : Nat := (written i).getD (((block.find? fun y => y.1 = i).map fun y => y.2).getD 0)
  { w.takeHook x.hook word with
    took := clocks
    priv := w.priv ++ [(x.hook, x.priv.mapIdx fun i v => (written (0x40 + i)).getD v)]
    sticky := w.sticky ||| BitVec.ofNat 16 (flag sat 13 + flag tmiss 10) }

/-- Run a custom operation to its end on the core of its module (R294, R314). -/
def Head.runHook (h : Head) (a : Axis) (w : Work) (x : Attachment) (m : Module) (e : ModuleEntry) : Ran :=
  let env := h.coreEnv a w x m
  let limit := 4 * e.cost
  if m.massif then match env.massifRun limit (limit + 2) (h.massifStart w e) with
    | .fault cause s => .broke { h with drawn := s.drawn } x cause s.pc s.clocks
    | .done s => .went { h with drawn := s.drawn } (h.endHook a w x s.mem s.sat false s.clocks)
  else match env.run limit (limit + 2) (h.torStart a w e) with
    | .fault cause s => .broke (h.keepTor a s) x cause s.pc s.clocks
    | .done s => .went (h.keepTor a s) (h.endHook a w x s.mem s.sat s.tmiss s.clocks)

/-- A custom operation is displaced after so many clocks: its core saves the context at a boundary that admits the interrupt
(R282, R299, R310); a standard operation has run as far as its results show. DEDUCED (log 36). -/
def Head.saveContext (h : Head) (id clocks : Nat) : Head := match h.axis? id with
  | none => h
  | some a => match a.work with
    | none => h
    | some w => match a.stages[w.step]? with
      | some (.hook n) => match (a.hooks.find? fun x => x.hook = n).bind fun x => (h.entry? x).map fun y => (x, y) with
        | none => h
        | some (x, m, e) =>
          let env := h.coreEnv a w x m
          if m.massif then
            let s := h.massifStart w e
            let s := env.massifRunTo (s.clocks + clocks) (clocks + 258) s s
            ({ h with drawn := s.drawn } : Head).setAxis id fun a => { a with work := some { w with ctx := some (.massif s) } }
          else
            let s := h.torStart a w e
            let s := env.runTo (s.clocks + clocks) (clocks + 258) s s
            (h.keepTor a s).setAxis id fun a => { a with work := some { w with ctx := some (.tor s) } }
      | _ => h

/-! ### Running and committing (R229, R279) -/

/-- Run one stage. -/
def Head.runStage (h : Head) (a : Axis) (w : Work) : Stage → Ran
  | .unpack => .went h (a.runUnpack w)
  | .terrain => let (h, w) := h.runTerrain a w; .went h w
  | .share => .went h (h.runShare a w)
  | .foc => .went h (h.runFoc a w)
  | .pack => .went h w
  | .profile => let (h, w) := h.runProfile a w; .went h w
  | .engine => .went h (h.runInstances a w)
  | .cover => .went h w
  | .stepper => .went h w
  | .hook n => match a.hooks.find? fun x => x.hook = n with
    | none => .went h w
    | some x => match h.entry? x with
      | none => .went h w
      | some (m, e) => h.runHook a w x m e

/-- MODULE_FAULT: nothing of the graph is committed (R294, R314). -/
def Head.moduleFault (h : Head) (a : Axis) (x : Attachment) (cause offset : Nat) : Head :=
  let h := h.setAxis a.id fun a => { a with work := none, graph := .abandoned }
  let h := { h with compute := { h.compute with
    modules := h.compute.modules.map fun (m : Module) =>
      if m.id = x.moduleId then { m with faults := satInc (2 ^ 32 - 1) m.faults } else m } }
  (h.raise (srcAxis a.id) 12).post 0x0902 0 a.id [(2, x.moduleId), (1, x.entry), (1, cause), (4, offset)]

/-- The next stage of a graph runs to its end; with it the clocks it used: a standard operation its planned ones, a custom one
those it ran (R280, R283). DESIGN CHOICE (log 27). -/
def Head.runNext (h : Head) (id : Nat) : Head × Nat :=
  match h.axis? id with
  | none => (h, 0)
  | some a => match a.work with
    | none => (h, 0)
    | some w => match a.stages[w.step]? with
      | none => (h, 0)
      | some st => match h.runStage a { w with took := h.stageCost a st } st with
        | .broke h x cause offset clocks => (h.moduleFault a x cause offset, clocks)
        | .went h w =>
          (h.setAxis id fun a => { a with work := some { w with step := w.step + 1, since := h.now, ctx := none } }, w.took)
/-- DESIGN CHOICE (log 27). -/
def Head.stepGraph (h : Head) (id : Nat) : Head := (h.runNext id).1

/-- The stages that are left, one after another, as long as their inputs exist. DESIGN CHOICE (log 27). -/
def Head.finishGraph : Nat → Nat → Head → Head
  | 0, _, h => h
  | n + 1, id, h => match h.axis? id with
    | none => h
    | some a => match a.work.bind fun w => a.stages[w.step]? with
      | none => h
      | some st => if h.stageReady a st then Head.finishGraph n id (h.stepGraph id) else h

/-- The counts that a committed instance moves: following, in position, at rest (R206, R219, R221). -/
def Head.countMotion (h : Head) (a : Axis) (w : Work) : Axis :=
  let o := h.obsOf a
  let x := roundDiv w.xSet 65536
  let far : Bool := (a.difference x o.units).natAbs > h.coeff a 0x0E
  let still : Bool := w.vSet = 0 && w.aSet = 0
  let there : Bool := a.motion.move = .moving && (a.motion.plan.any fun p => p.ends ≤ h.time.cycleStart && (a.difference p.target o.units).natAbs ≤ a.motion.inPos)
  let slow : Bool := still && o.speed.natAbs < 1000
  { a with
    loop := { w.loop with
      followRun := if far then satInc 8 a.loop.followRun else 0
      sticky := a.loop.sticky ||| w.sticky, overruns := a.loop.overruns, holdRun := a.loop.holdRun }
    motion := { a.motion with
      xSet := w.xSet, vSet := w.vSet, aSet := w.aSet
      inPosRun := if there then satInc 32 a.motion.inPosRun else 0
      restRun := if slow then satInc 8 a.motion.restRun else 0 } }

/-- A graph commits: state, private words, the packed record or the force command, and its mirror (R229, R294, R381). -/
def Head.commitGraph (h : Head) (a : Axis) (w : Work) : Head :=
  let keep (a : Axis) : Axis := { a with
    work := none, done := some w, graph := .complete
    hooks := a.hooks.map fun x => match w.priv.find? fun y => y.1 = x.hook with
      | some y => { x with priv := y.2, fresh := false }
      | none => x }
  match a.kind with
  | .mover => match h.moverOfAxis? a.id with
    | none => h.setAxis a.id keep
    | some m =>
      let low : Bool := h.coverSum m < quarter
      let h := h.setAxis a.id fun a =>
        let a := keep (h.countMotion a w)
        { a with
          loop := { a.loop with holdRun := if m.force.isNone then 0 else a.loop.holdRun }
          motion := { a.motion with coverRun := if low then satInc 4 a.motion.coverRun else 0 } }
      let h := h.setMover m.id fun m => { m with force := some w.force }
      match h.axis? a.id with
      | some a => h.mirrorMover a
      | none => h
  | .segment =>
    let values := leBytes 3 w.dutyU ++ leBytes 3 w.dutyV ++ leBytes 3 w.dutyW
    let packed := downRecord 0 RecordMode.phaseDuty 0 false false false false values
    let h := h.setAxis a.id fun a =>
      let a := if a.rotary then h.countMotion a w
        else { a with loop := { a.loop with
          lastCmd := w.iqRef, sticky := a.loop.sticky ||| w.sticky, cleanRun := w.loop.cleanRun } }
      { keep a with current := w.current, packed := some packed }
    match h.axis? a.id with
    | some a => if a.rotary then h.mirrorMover a else h
    | none => h
  | .stepper =>
    let h := h.stepCommandOf a
    let a := (h.axis? a.id).getD a
    let packed := downRecord 0 RecordMode.microstep 0 false false false false
      (a.step.recordValues (h.time.cycleStart + h.cycleNs) h.cycleNs a.step.amplitude)
    h.setAxis a.id fun a => { keep a with
      packed := if a.localStep then none else some packed
      loop := { a.loop with holdRun := if a.localStep then 0 else a.loop.holdRun } }

/-- The axis's operations leave the cores, and their contexts with them (R279); a core that is then free takes its staged
operation (R282). -/
def Core.drop (id : Nat) (c : Core) : Core :=
  let staged := c.staged.filter fun o => o.axis ≠ id
  let saved := c.saved.filter fun o => o.axis ≠ id
  match c.active.filter fun o => o.axis ≠ id with
  | some o => { active := some o, staged, saved }
  | none => { active := staged, staged := none, saved }
def Head.dropOperations (h : Head) (id : Nat) : Head :=
  let list (l : ReadyList) : ReadyList := { l with cores := l.cores.map (Core.drop id) }
  let h := h.setAxis id fun a => { a with work := a.work.map fun w => { w with ctx := none } }
  { h with compute := { h.compute with
      massif := list h.compute.massif
      tiles := h.compute.tiles.map fun (t : Tile) =>
        { t with list := list t.list, engine := t.engine.filter fun o => o.axis ≠ id } } }

/-- AXIS_GRAPH_COMPLETE (R229): the stages that are left run, and the graph commits. DESIGN CHOICE (log 27). -/
def execAxisGraphComplete (axis : Nat) (s : State) : Host.Outcome State Fault Refusal :=
  eventExec (axis < 4096) (fun h => match h.axis? axis with
    | none => h
    | some a =>
      if !h.commands || !h.graphOpen a then h
      else
        let h := if a.work.isNone then h.beginGraph a else h
        let h := (Head.finishGraph 16 axis h).dropOperations axis
        match h.axis? axis with
        | none => h
        | some a => match a.work with
          | none => h
          | some w => if w.step ≥ a.stages.length then h.commitGraph a w else h) s

end Sys2Proof.Machine
end

