-- ==== Sys2Proof/Machine/Loops.lean ====
section
/-! DEFINITION. The commands of block 0x06 and the events of the loops, profiles and holds (R206, R213, R217-R234). -/
namespace Sys2Proof.Machine

/-! ### Holds and loop faults -/

/-- MOVER_FORCE_TIMEOUT (R230): the segments compute with LAST_CMD; the mover axis counts the overrun. -/
def execMoverForceTimeout (mover : Nat) (s : State) : Host.Outcome State Fault Refusal :=
  eventExec (mover < 256) (fun h => match h.mover? mover with
    | none => h
    | some m => match h.axis? m.axis with
      | none => h
      | some a =>
        if h.commands && m.cut && m.force.isNone && h.runs a then
          (h.setMover mover fun m => { m with force := some a.loop.lastCmd }).noteHold a.id
        else h) s

/-- A graph that has not completed is abandoned: nothing is committed, and the axis holds (R229, R232). -/
def Head.abandonGraphOf (h : Head) (axis : Nat) : Head := match h.axis? axis with
  | none => h
  | some a =>
    if a.graph = .complete || a.graph = .abandoned || !h.commands || h.supervised || !(h.runs a || a.work.isSome) then h
    else
      let h := (h.setAxis axis fun a => { a with work := none, graph := .abandoned }).dropOperations axis
      h.noteHold axis

/-- GRAPH_ABANDONED (R229). -/
def execGraphAbandoned (axis : Nat) (s : State) : Host.Outcome State Fault Refusal :=
  eventExec (axis < 4096) (fun h => h.abandonGraphOf axis) s

/-- HOLD_FAULT (R232): three holds in a row. -/
def execHoldFault (axis : Nat) (s : State) : Host.Outcome State Fault Refusal :=
  eventExec (axis < 4096) (fun h => match h.axis? axis with
    | none => h
    | some a =>
      if a.loop.holdRun ≥ 3 then
        let h := h.setAxis axis fun a => { a with loop := { a.loop with holdRun := 0 } }
        let h := h.setRange a.range fun r => { r with holdFaults := satInc 0xFFFF r.holdFaults }
        (h.raise (srcAxis axis) 2).post 0x0604 0 axis []
      else h) s

/-- Axis-cycles of a range held in the last second. -/
def Head.heldLastSecond (h : Head) (r : Nat) : Nat :=
  sumNat (((h.range r).heldLog.filter fun x => x.1 + 1000000000 > h.now).map fun x => x.2)

/-- L of R233, 0 for a range that is not G0. -/
def Head.holdLimit (h : Head) (r : Nat) : Nat :=
  if (h.range r).cls = 0 then axesOf h.axes r * 1000000000 / (h.rangeNs r * 100) else 0

/-- RANGE_OVERRUN (R233). -/
def execRangeOverrun (range : Nat) (s : State) : Host.Outcome State Fault Refusal :=
  eventExec (range < 8) (fun h =>
    if (h.range range).cls = 0 && (h.range range).state = .running && h.heldLastSecond range > h.holdLimit range then
      (h.raise (srcRange range) 0).post 0x0605 0 range []
    else h) s

/-- FOLLOWING_ERROR (R206). -/
def execFollowingError (axis : Nat) (s : State) : Host.Outcome State Fault Refusal :=
  eventExec (axis < 4096) (fun h => match h.axis? axis with
    | none => h
    | some a =>
      if a.profiled && a.loop.followRun ≥ 8 then
        let h := h.setAxis axis fun a => { a with loop := { a.loop with followRun := 0 } }
        (h.raise (srcAxis axis) 0).post 0x0606 0 axis []
      else h) s

/-- NO_COVERAGE (R213). -/
def execNoCoverage (mover : Nat) (s : State) : Host.Outcome State Fault Refusal :=
  eventExec (mover < 256) (fun h => match (h.mover? mover).bind fun m => h.axis? m.axis with
    | none => h
    | some a =>
      if a.motion.coverRun ≥ 4 then
        let h := h.setAxis a.id fun a => { a with motion := { a.motion with coverRun := 0 } }
        (h.raise (srcAxis a.id) 1).post 0x0607 0 a.id []
      else h) s

/-! ### Profiles, brakes and stops -/

/-- TARGET of the commands that concern an axis's motion: its mover, or 0x1000 + the rotary axis (R234). -/
def Head.motionObject (h : Head) (a : Nat) : Nat := match h.moverOfAxis? a with
  | some m => m.id
  | none => 0x1000 + a

/-- BRAKE_STUCK (R220); the event names the item whose move waited (R488). DEDUCED (log 95). -/
def execBrakeStuck (axis : Nat) (s : State) : Host.Outcome State Fault Refusal :=
  eventExec (axis < 4096) (fun h => match h.axis? axis with
    | none => h
    | some a =>
      if (a.motion.brakeWait.any fun t => t ≤ h.now) && !h.brakesOff a then
        (h.raise (srcAxis axis) 3).postFor 0x0608 (h.motionObject axis) (.moved axis)
      else h) s

/-- HOLD_DWELL_EXPIRED (R220): the brakes apply. -/
def execHoldDwellExpired (axis : Nat) (s : State) : Host.Outcome State Fault Refusal :=
  eventExec (axis < 4096) (fun h => match h.axis? axis with
    | none => h
    | some a =>
      if (a.motion.dwellEnd.any fun t => t ≤ h.now) && a.motion.move = .idle then
        h.setAxis axis fun a => { a with motion := { a.motion with brakeRelease := false, dwellEnd := none } }
      else h) s

/-- The set-point has reached the end of its plan by the sample instant of this cycle. -/
def Head.planOver (h : Head) (a : Axis) : Bool := a.motion.plan.all fun p => p.ends ≤ h.time.cycleStart

/-- MOVE_DONE (R219, R220). -/
def execMoveDone (axis : Nat) (s : State) : Host.Outcome State Fault Refusal :=
  eventExec (axis < 4096) (fun h => match h.axis? axis with
    | none => h
    | some a =>
      if a.profiled && a.motion.move = .moving && a.motion.plan.isSome && h.planOver a && a.motion.inPosRun ≥ 32 then
        let h := h.postFor 0x0601 (h.motionObject axis) (.moved axis)
        let h := h.finish (.moved axis) Status.ok
        h.setAxis axis fun a => { a with motion := { a.motion with
          plan := none, move := .idle, xSet := (a.motion.at h.time.cycleStart).x, vSet := 0, aSet := 0
          dwellEnd := some (h.now + a.motion.holdDwell * 1000000) } }
      else h) s

/-- STOP_DONE (R221): the item of the stop completes; a stop for a disable or a fault applies the brakes next, and a stop of
the rescue looks for its landing (R59). -/
def execStopDone (axis : Nat) (s : State) : Host.Outcome State Fault Refusal :=
  eventExec (axis < 4096) (fun h => match h.axis? axis with
    | none => h
    | some a =>
      if a.profiled && (a.motion.move = .stopping || a.motion.move = .faultStop) && h.planOver a && a.motion.restRun ≥ 8
          && a.motion.dropAt = none then
        let h := h.postFor 0x0602 (h.motionObject axis) (.stopped axis)
        let h := h.finish (.stopped axis) Status.ok
        if a.motion.move = .faultStop || a.motion.after = .disable || a.motion.after = .belay then
          h.setAxis axis fun a => { a with motion := { a.motion with
            brakeRelease := false, dropAt := some (h.now + 100000000) } }
        else
          let h := h.setAxis axis fun a => { a with motion := { a.motion with
            plan := none, move := .idle, after := .rest, xSet := (a.motion.at h.time.cycleStart).x, vSet := 0, aSet := 0
            brakeRelease := a.motion.dwellEnd.any fun t => t > h.now } }
          match a.motion.after, h.moverOfAxis? axis with
          | .rescue, some m => h.rescueAtRest m true
          | _, _ => h
      else h) s

/-- STOP_OVERTIME (R222): a controlled stop that has not ended 0.5 s after its planned end belays at once. -/
def execStopOvertime (axis : Nat) (s : State) : Host.Outcome State Fault Refusal :=
  eventExec (axis < 4096) (fun h => match h.axis? axis with
    | none => h
    | some a =>
      if a.motion.move = .faultStop && a.motion.dropAt = none && (a.motion.plan.all fun p => p.ends + 500000000 ≤ h.now) then
        h.belayAxis a
      else h) s

/-- SEGMENT_DEENERGISE (R101, R221, R222): the brakes are applied, or 100 ms have passed: the axis is disabled or belayed. -/
def execSegmentDeenergise (axis : Nat) (s : State) : Host.Outcome State Fault Refusal :=
  eventExec (axis < 4096) (fun h => match h.axis? axis with
    | none => h
    | some a =>
      if a.motion.dropAt.any fun t => t ≤ h.now || h.braked a then
        if a.motion.move = .faultStop || a.motion.after = .belay then h.belayAxis a
        else
          let h := h.finish (.disabled axis) Status.ok
          ((h.setAxis axis fun a => { a with state := .disabled }).dropMotion axis).freeHandover axis
      else h) s

/-! ### Commands (R234) -/

/-- A read of an axis with its reference. -/
def axisRead (opcode : Nat) (reply : Axis → Head → List Byte) : Command :=
  observeCommand opcode 4 Head.fromCommission (fun p h => (targetAxis? p h).isSome && axisRefOk p true)
    (fun p h => [((targetAxis? p h).any fun a => epochStale p a, Status.epochStale)]) fun p h =>
      match targetAxis? p h with
      | none => []
      | some a => reply a h

/-- GET_LOOP: set-point and estimate of the last cycle that was evaluated. DEDUCED (log 92). -/
def getLoopCmd : Command :=
  axisRead 0x0600 fun a h =>
    let o := h.obsOf a
    let m := a.motion
    let p := a.profiled
    let or0 (v : Int) : Int := if p then v else 0
    leInt 4 (or0 (roundDiv m.xSet 65536)) ++ leInt 4 (if a.kind = .stepper then 0 else if a.linear then (h.segmentObs a).used else o.used)
      ++ leInt 4 (or0 m.vSet) ++ leInt 4 (if a.kind = .stepper then 0 else if a.linear then (h.segmentObs a).speed else o.speed)
      ++ leInt 4 (or0 m.aSet) ++ leInt 3 a.loop.lastCmd ++ leInt 3 a.current.iD ++ leInt 3 a.current.iQ
      ++ pack [(1, moveCode a.motion.move)] ++ a.loopBytes ++ pack [(4, a.loop.overruns), (2, 0)]
def execGetLoop (p : Packet) (s : State) : Host.Outcome State Fault Refusal := hostExec getLoopCmd p s

/-- The words of a SET_COEFF: index and value. -/
def coeffWords (p : Packet) : List (Nat × Nat) :=
  (List.range (pu p 4 1)).map fun j => (pu p (8 + 4 * j) 1, pu p (9 + 4 * j) 3)

/-- Every word is defined for the axis kind and in its range, given the pole pitch of its set (Table 08-6). -/
def coeffWordsOk (a : Axis) : Nat → Nat → List (Nat × Nat) → Bool
  | _, _, [] => true
  | pitch, rescue, (i, v) :: rest =>
    let mine := if i < 64 then pitch else rescue
    i < 128 && ((coeffRow a.kind a.rotary (i % 64)).any fun r => coeffLegal mine v r.1)
      && coeffWordsOk a (if i = 0x27 then v else pitch) (if i = 0x67 then v else rescue) rest

/-- The words of an axis after every pending one has landed. -/
def Axis.settled (a : Axis) : Axis := a.pending.foldl (fun a w => a.setCoeff w.1 w.2) a

/-- Cycle in which the first word of a new list lands: after the pending ones, one in each cycle of the range (R227).
DEDUCED (log 81). -/
def Head.firstLanding (h : Head) (a : Axis) : Nat :=
  let d := if h.supervised then 1 else max (h.divisorOf a.range) 1
  let k := ((List.range d).find? fun k => (h.time.cycle + 1 + k) % d = a.place.phase % d).getD 0
  h.time.cycle + 1 + k + a.pending.length * d

/-- SET_COEFF (R227, R109). -/
def setCoeffCmd : Command :=
  { opcode := 0x0601, cls := .configure, active := true, mirrored := true
    len := fun b => 8 ≤ b.length && b.length = 8 + 4 * field b 4 1
    stateOk := fun _ h => h.inMode [.commission, .service, .rescue]
    paramOk := fun p h => axisRefOk p false && 1 ≤ pu p 4 1 && pu p 4 1 ≤ 64 && pz p 5 3 && match targetAxis? p h with
      | none => false
      | some a =>
        let s := a.settled
        coeffWordsOk a (s.coeff.getD 0x27 0) (s.coeffRescue.getD 0x27 0) (coeffWords p)
    refusals := fun p h => match targetAxis? p h with
      | none => []
      | some a => [(epochStale p a, Status.epochStale), (a.pending.length + pu p 4 1 > 64, Status.busy)]
    effect := fun p h => match targetAxis? p h with
      | none => { head := h }
      | some a =>
        { head := h.setAxis a.id fun a => { a with pending := a.pending ++ coeffWords p }
          reply := leBytes 6 (h.firstLanding a)
          wait := some (.coefficients a.id (a.pending.length + pu p 4 1)) } }
def execSetCoeff (p : Packet) (s : State) : Host.Outcome State Fault Refusal := hostExec setCoeffCmd p s

/-- One word of an axis lands, and the items whose last word it was complete (R227). -/
def Head.landWord (h : Head) (id : Nat) : Head :=
  match h.axis? id with
  | none => h
  | some a => match a.pending with
    | [] => h
    | w :: rest =>
      let h := h.setAxis id fun a => { a.setCoeff w.1 w.2 with pending := rest, landed := true }
      { h with queues := h.queues.map fun (q : Queue) => { q with async := q.async.map fun (i : AsyncItem) =>
          match i.await, i.final with
          | .coefficients x left, none =>
            if x ≠ id then i
            else if left ≤ 1 then { i with await := .coefficients x 0, final := some (Status.ok, []) }
            else { i with await := .coefficients x (left - 1) }
          | _, _ => i } }

/-- A word in its 32-bit container: a signed quantity is extended by its sign, any other by zeros (R5). -/
def coeffContainer (v : Nat) : CoeffFormat → List Byte
  | .signed => leInt 4 (toSigned 24 v)
  | _ => leBytes 4 (v % 2 ^ 24)

/-- GET_COEFF: the words in force, 0 for an index the kind does not use. -/
def getCoeffCmd : Command :=
  axisRead 0x0602 fun a _ =>
    (List.range 128).foldl (init := []) fun acc i =>
      let words := if i < 64 then a.coeff else a.coeffRescue
      acc ++ match coeffRow a.kind a.rotary (i % 64) with
        | some r => coeffContainer (words.getD (i % 64) 0) r.1
        | none => leBytes 4 0
def execGetCoeff (p : Packet) (s : State) : Host.Outcome State Fault Refusal := hostExec getCoeffCmd p s

/-- CLEAR_LOOP_FLAGS (R224). -/
def clearLoopFlagsCmd : Command :=
  { blockCommand 0x0603 .operate 8 [] false
      (fun p h => (targetAxis? p h).isSome && axisRefOk p false && pz p 6 2)
      (fun p h => [((targetAxis? p h).any fun a => epochStale p a, Status.epochStale)])
      (fun p h => match targetAxis? p h with
        | none => { head := h }
        | some a =>
          { head := h.setAxis a.id fun a => { a with loop := { a.loop with
              sticky := a.loop.sticky &&& ~~~(BitVec.ofNat 16 (pu p 4 2) &&& 0x3FFF) } }
            reply := pack [(2, a.loop.sticky.toNat), (2, 0)] }) with
    stateOk := fun _ h => h.fromCommission }
def execClearLoopFlags (p : Packet) (s : State) : Host.Outcome State Fault Refusal := hostExec clearLoopFlagsCmd p s

/-- The axis that a motion TARGET names: a mover's, or a rotary one. -/
def motionAxis? (p : Packet) (h : Head) : Option Axis :=
  (subject? p.target h).bind fun s => match s with
    | .channel _ => none
    | s => s.axis? h

/-- A mover axis or rotary axis that may take a move. -/
def Head.movable (h : Head) (a : Axis) : Bool := a.state = .enabled && (h.range a.range).state = .running

/-- A target within the travel limits of its mover's track; a rotary axis has none (R219). DEDUCED (log 32). -/
def Head.inTravel (h : Head) (a : Axis) (x : Int) : Bool := match h.moverOfAxis? a.id with
  | none => true
  | some m => (h.track m.track).travel.all fun t => t.1 ≤ x && x ≤ t.2

/-- The limit set of a move: 1 in COMMISSION, else 0 (Table 08-3). -/
def Head.moveSet (h : Head) : Nat := if h.sys.mode = .commission then 1 else 0

/-- MOVE_TO and MOVE_LANDING: their target, none when there is no such landing (R218, R219, R223). -/
def moveCommand (opcode n setOff rsv : Nat) (target : Axis → Packet → Head → Option Int) (param : Packet → Bool) : Command :=
  { blockCommand opcode .operate n [] false
      (fun p h => (motionAxis? p h).isSome && (h.sys.mode = .commission || pu p setOff 1 = 0) && pz p (setOff + 1) rsv && param p)
      (fun p h => match motionAxis? p h with
        | none => []
        | some a =>
          [(a.motion.move = .stopping || a.motion.move = .faultStop, Status.stopping),
           ((target a p h).isNone, Status.noLanding),
           ((target a p h).any fun x => !h.inTravel a x, Status.outOfTravel)])
      (fun p h => match motionAxis? p h with
        | none => { head := h }
        | some a => match target a p h with
          | none => { head := h }
          | some x => { head := h.startMove a x h.moveSet, wait := some (.moved a.id) }) with
    stateOk := fun p h => h.inMode [.commission, .service] && (motionAxis? p h).all fun a => h.movable a }

def moveToCmd : Command := moveCommand 0x0610 8 4 3 (fun _ p _ => some (ps p 0 4)) fun _ => true
def execMoveTo (p : Packet) (s : State) : Host.Outcome State Fault Refusal := hostExec moveToCmd p s

/-- A landing of the mover's track (R219). -/
def moveLandingCmd : Command :=
  moveCommand 0x0611 4 1 2
    (fun a p h => (h.moverOfAxis? a.id).bind fun m => (h.track m.track).landings[pu p 0 1]?) fun p => pu p 0 1 < 128
def execMoveLanding (p : Packet) (s : State) : Host.Outcome State Fault Refusal := hostExec moveLandingCmd p s

/-- STOP_MOVER (R221, R223): a mover at rest returns OK. -/
def stopMoverCmd : Command :=
  blockCommand 0x0612 .operate 4 [.commission, .service, .rescue] false
    (fun p h => (motionAxis? p h).isSome && pu p 0 1 ≤ 1 && pz p 1 3) (fun _ _ => [])
    fun p h => match motionAxis? p h with
      | none => { head := h }
      | some a =>
        if a.atRest then { head := h }
        else { head := h.startStop a (pu p 0 1 = 1) false .rest, wait := some (.stopped a.id) }
def execStopMover (p : Packet) (s : State) : Host.Outcome State Fault Refusal := hostExec stopMoverCmd p s

/-- SET_LIMITS (Table 08-3). -/
def setLimitsCmd : Command :=
  { blockCommand 0x0613 .configure 16 [] true
      (fun p h => (motionAxis? p h).isSome && pu p 0 1 ≤ 3 && pz p 1 3
        && (pu p 0 1 = 3 || (1 ≤ pu p 4 4 && pu p 4 4 ≤ 20000000))
        && 1 ≤ pu p 8 4 && pu p 8 4 ≤ 20000000 && 1 ≤ pu p 12 4 && pu p 12 4 ≤ 100000000)
      (fun _ _ => [])
      (fun p h => match motionAxis? p h with
        | none => { head := h }
        | some a => { head := h.setAxis a.id fun a => { a with motion := { a.motion with
            limits := setAt (pu p 0 1) (fun _ => ⟨pu p 4 4, pu p 8 4, pu p 12 4⟩) a.motion.limits } } }) with
    stateOk := fun p h => h.inMode [.commission] || (h.inMode [.service] && (pu p 0 1 = 0 || pu p 0 1 ≥ 3)) }
def execSetLimits (p : Packet) (s : State) : Host.Outcome State Fault Refusal := hostExec setLimitsCmd p s

/-- SET_BLEND (R211). -/
def setBlendCmd : Command :=
  blockCommand 0x0614 .configure 8 [.commission] true
    (fun p h => pu p 0 1 ≤ 15 && pz p 1 3 && (h.mover? p.target).any fun m => pu p 4 4 * 4 ≤ m.length) (fun _ _ => [])
    fun p h => { head := h.setMover p.target fun m => { m with blend := pu p 0 1, magInset := pu p 4 4 } }
def execSetBlend (p : Packet) (s : State) : Host.Outcome State Fault Refusal := hostExec setBlendCmd p s

/-- GET_OVERRUN (R233). -/
def getOverrunCmd : Command :=
  observeCommand 0x0620 0 Head.fromCommission (fun p _ => p.target < 8) (fun _ _ => []) fun p h =>
    let r := h.range p.target
    pack [(4, h.heldLastSecond p.target), (4, h.holdLimit p.target), (4, r.peak), (2, r.holdFaults), (2, 0)]
def execGetOverrun (p : Packet) (s : State) : Host.Outcome State Fault Refusal := hostExec getOverrunCmd p s

end Sys2Proof.Machine
end

