-- ==== Sys2Proof/Machine/Placer.lean ====
section
/-! DEFINITION. The Watershed placer (R260-R278), the windows and buffers of the terrain slots (R270, R271, R303-R306), lost
tiles (R276, R403), shedding (R283-R287) and the commands of block 0x08 (R289). -/
namespace Sys2Proof.Machine

/-! ### Cost and capacity (Table 10-2, R261, R262) -/

/-- Cost of the attached entries of one core kind (R315). -/
def Head.hookCost (h : Head) (a : Axis) (massif : Bool) : Nat :=
  sumNat (a.hooks.map fun x => match h.entry? x with
    | some (m, e) => if m.massif = massif then e.cost else 0
    | none => 0)

/-- Planned Tor clocks of an axis. DEDUCED (log 36). -/
def Head.plannedTor (h : Head) (a : Axis) : Nat :=
  (match a.kind with | .segment => 275 | .mover => 0 | .stepper => if a.localStep then 40 else 90) + h.hookCost a false
def Axis.plannedEngine (a : Axis) : Nat := if a.profiled then 68 else 0
def Head.plannedMassif (h : Head) (a : Axis) : Nat :=
  (if a.kind = .mover then 40 else if a.rotary then 24 else 0) + h.hookCost a true

/-- Opening and close of the compute window in tenths of a ns from T_k (R26). -/
def Schedule.windowEdges (s : Schedule) : Nat × Nat :=
  let opens (b : BranchEntry) := (b.positions.mapIdx fun p x => (s.upStart + b.slot * p + b.hop * (p + 1)) * 10 + upTime x.axes).foldl min (10 ^ 9)
  ((s.branches.map opens).foldl min (10 ^ 9),
    (s.branches.map fun b => (s.upStart + s.pipe - 400 + b.slot * (b.positions.length - 1)) * 10).foldl max 0)

/-- W, in whole clocks at 600 MHz (R262); the whole cycle while no schedule gives a window. DEDUCED (log 33). -/
def Head.window (h : Head) : Nat := match h.schedule? with
  | some s => if s.branches.isEmpty then h.cycleNs * 6 / 10 else (s.windowEdges.2 - s.windowEdges.1) * 6 / 100
  | none => h.cycleNs * 6 / 10

/-- PLACE_CAP × W (R262). -/
def Head.loadLimit (h : Head) : Nat := h.compute.placeCap * h.window / 100

/-- The axis is computed in the base cycles of this residue modulo 8 (R28). -/
def Head.inPhase (h : Head) (a : Axis) (c : Nat) : Bool :=
  let d := max (h.divisorOf a.range) 1
  a.place.phase % d = c % d

/-- The largest, over the phases, of a load that some axes put on a unit. -/
def Head.phaseLoad (h : Head) (axes : List Axis) (cost : Axis → Nat) : Nat :=
  ((List.range 8).map fun c => sumNat ((axes.filter fun a => h.inPhase a c).map cost)).foldl max 0

/-- The axes whose state a tile holds, or will hold. -/
def Head.onTile (h : Head) (t : Nat) : List Axis := h.axes.filter fun a => a.place.tile = t && a.place.state ≠ .notPlaced
def Head.coreLoad (h : Head) (t c : Nat) : Nat := h.phaseLoad ((h.onTile t).filter fun a => a.place.core = c) h.plannedTor
def Head.engineLoad (h : Head) (t : Nat) : Nat := h.phaseLoad (h.onTile t) Axis.plannedEngine
/-- The axes whose Massif operations have their home on a core of the cluster. -/
def Head.onMassif (h : Head) (k : Nat) : List Axis := h.axes.filter fun a => a.place.massif = k && a.place.state ≠ .notPlaced
/-- DEDUCED (log 33). -/
def Head.massifLoad (h : Head) (k : Nat) : Nat := h.phaseLoad (h.onMassif k) h.plannedMassif

/-- The home Massif core of an axis: the least loaded that has room, none needed where nothing of it runs there (R262, R280).
DEDUCED (log 33). -/
def Head.massifCore (h : Head) (a : Axis) : Option Nat :=
  if h.plannedMassif a = 0 then some 0xFF
  else
    let load (k : Nat) := h.phaseLoad ((h.onMassif k).filter fun x => x.id ≠ a.id) h.plannedMassif
    let best := (List.range 4).foldl (fun b k => if load k < load b then k else b) 0
    if h.phaseLoad (a :: (h.onMassif best).filter fun x => x.id ≠ a.id) h.plannedMassif ≤ h.loadLimit then some best else none

/-- Hops between two tiles of the mesh (R265). -/
def hops (t u : Nat) : Nat :=
  (max (t % 4) (u % 4) - min (t % 4) (u % 4)) + (max (t / 4) (u / 4) - min (t / 4) (u / 4))

/-- Words of the cogging tables that a tile's segments need under either coefficient set, each table once (Table 10-3,
R265). -/
def Head.coggingWords (h : Head) (axes : List Axis) : Nat :=
  let named (words : List Nat) : Nat := bits (words.getD 0x29 0xFFFFFF) 23 12
  let segments := axes.filter fun a => a.kind = .segment
  let ids := segments.map (fun a => named a.coeff) ++ segments.map fun a => named a.coeffRescue
  sumNat ((h.terrain.filter fun t => t.cogging && ids.contains t.id).map fun t => t.entries.length)

/-- The core of a tile that takes an axis: the least loaded, when the tile has room (R262, R265, R266). -/
def Head.roomOn (h : Head) (a : Axis) (t : Nat) : Option Nat :=
  let there := (h.onTile t).filter fun x => x.id ≠ a.id
  let limit := h.loadLimit
  let load (c : Nat) := h.phaseLoad (there.filter fun x => x.place.core = c) h.plannedTor
  let after (c : Nat) := h.phaseLoad (a :: there.filter fun x => x.place.core = c) h.plannedTor
  if (h.tile t).state ≠ .up || there.length ≥ 256 || h.coggingWords (a :: there) > 65536
      || h.phaseLoad (a :: there) Axis.plannedEngine > limit || (h.massifCore a).isNone then none
  else if a.kind = .mover then some 0xFF
  else
    let best := (List.range 4).foldl (fun b c => if load c < load b then c else b) 0
    if after best ≤ limit then some best else none

/-! ### Home tiles and the search (R266) -/

/-- The segment of a track whose interval holds a coordinate, else the nearest, the lower index on a tie. -/
def Head.segmentNear (h : Head) (t : Nat) (x : Int) : Option Axis :=
  let gap (s : Axis) : Nat := if x < s.segStart then (s.segStart - x).toNat else if x < s.segEnd then 0 else (x - s.segEnd).toNat + 1
  (h.line t).foldl (init := none) fun (b : Option Axis) (s : Axis) => match b with
    | none => some s
    | some y => if gap s < gap y || (gap s = gap y && s.segIndex < y.segIndex) then some s else b

/-- Home tile of an axis (R266), or the one that an honoured NEAR_BRANCH gives it (R268). -/
def Head.homeTile (h : Head) (a : Axis) : Nat :=
  if a.place.hintKind = 3 && a.place.hintState = 1 then a.place.hintOther / 2
  else match a.kind with
  | .mover => match (h.moverOfAxis? a.id).bind fun m => h.segmentNear m.track m.centre with
    | some s => if s.place.tile < 16 then s.place.tile else 0
    | none => 0
  | _ => if a.localStep then 15 else a.location % 1024 / 64

/-- Tiles by hops from a tile, the lower number first among equals. -/
def tilesFrom (home : Nat) : List Nat :=
  (List.range 7).foldl (fun acc k => acc ++ (List.range 16).filter fun t => hops home t = k) []

/-- The place of an axis by R266, on the tiles a test admits. -/
def Head.findPlace (h : Head) (a : Axis) (home : Nat) (allowed : Nat → Bool) : Option (Nat × Nat) :=
  (tilesFrom home).findSome? fun t => if allowed t then (h.roomOn a t).map fun c => (t, c) else none

/-- Size of a phase group at a divisor. -/
def groupSize (phases : List Nat) (d g : Nat) : Nat := (phases.filter fun p => p % d = g % d).length

/-- The groups at every divisor differ in size by at most one (R28). -/
def phasesEven (phases : List Nat) : Bool :=
  [2, 4, 8].all fun d => (List.range d).all fun g => (List.range d).all fun k => groupSize phases d g ≤ groupSize phases d k + 1

/-- Phases that one more axis of a range may take: at every divisor its group is a smallest one, so that the sizes stay within
one of each other at both divisors of the range (R28). DEDUCED (log 33). -/
def Head.freePhases (h : Head) (a : Axis) : List Nat :=
  let taken := (h.axes.filter fun x => x.range = a.range && x.id ≠ a.id && x.place.state ≠ .notPlaced).map fun x => x.place.phase
  (List.range 8).filter fun p => [2, 4, 8].all fun d => (List.range d).all fun k => groupSize taken d p ≤ groupSize taken d k

def Axis.inGroup (a : Axis) (phase : Nat) : Axis := { a with place := { a.place with phase } }

/-- Of some phases the one in whose cycles the axis's unit is planned least, the lower on a tie (R262). -/
def Head.quietPhase (h : Head) (a : Axis) (tile core : Nat) (phases : List Nat) : Nat :=
  let d := max (h.divisorOf a.range) 1
  let there := (h.onTile tile).filter fun x => x.id ≠ a.id && (a.kind = .mover || x.place.core = core)
  let cost (x : Axis) : Nat := if a.kind = .mover then x.plannedEngine else h.plannedTor x
  let at_ (c : Nat) : Nat := sumNat ((there.filter fun x => h.inPhase x c).map cost)
  let load (p : Nat) : Nat := (((List.range 8).filter fun c => c % d = p % d).map at_).foldl max 0
  phases.foldl (fun b p => if load p < load b then p else b) (phases.headD 0)

def Head.setPlace (h : Head) (id : Nat) (f : Place → Place) : Head := h.setAxis id fun a => { a with place := f a.place }

/-- Place one axis by R266; one that has room nowhere stays without a place. DEDUCED (log 34). -/
def Head.placeAxis (h : Head) (id : Nat) : Head :=
  match h.axis? id with
  | none => h
  | some a =>
    let phases := h.freePhases a
    match phases.findSome? fun p => h.findPlace (a.inGroup p) (h.homeTile a) fun _ => true with
    | some (tile, core) =>
      let phase := h.quietPhase a tile core phases
      h.setPlace id fun p => { p with
        tile, core, state := .placed, phase, massif := (h.massifCore (a.inGroup phase)).getD 0xFF, moving := none }
    | none => h.setPlace id fun p => { p with tile := 0xFF, core := 0xFF, massif := 0xFF, state := .notPlaced, moving := none }

/-- The phase groups of a range whose sizes have come apart are made even again, at a boundary of the range, so that every axis
is still computed once in each of its cycles (R28). DEDUCED (log 33). -/
def Head.evenRange (h : Head) (r : Nat) : Head :=
  let placed := h.axes.filter fun a => a.range = r && a.place.state ≠ .notPlaced
  if h.time.cycle % max (h.divisorOf r) 1 ≠ 0 || phasesEven (placed.map fun a => a.place.phase) then h
  else ((placed.map fun a => a.id).zipIdx).foldl (fun (h : Head) x => h.setPlace x.1 fun p => { p with phase := x.2 % 8 }) h

/-- Every range's phase groups (R28). DEDUCED (log 33). -/
def Head.evenPhases (h : Head) : Head := (List.range 8).foldl Head.evenRange h

/-! ### The timing check (R263, R264) -/

/-- Largest planned load of a Tor core or loop engine. -/
def Head.largestLoad (h : Head) : Nat :=
  ((List.range 16).map fun t => max (h.engineLoad t) (((List.range 4).map fun c => h.coreLoad t c).foldl max 0)).foldl max 0

/-- SAG_FACTOR in 1/64 (R263). -/
def Head.sagFactor (h : Head) : Nat := (h.largestLoad * 64 + h.window - 1) / max h.window 1

/-- Completion of an axis's uplink record and its record-ready deadline, in tenths of a ns (R23, R26). -/
def Head.recordTimes (h : Head) (a : Axis) : Option (Nat × Nat) :=
  if a.kind = .mover || a.localStep then none
  else
    let node := a.location % 1024
    let p := node % 32
    match h.schedule?, h.branchEntry? (node / 32) with
    | some s, some b => some ((s.upStart + b.slot * p + b.hop * (p + 1)) * 10 + upTime (b.axes p),
        (s.upStart + s.pipe - 400 + b.slot * p) * 10)
    | _, _ => none

def insertByTime (x : Nat × Nat × Axis) : List (Nat × Nat × Axis) → List (Nat × Nat × Axis)
  | [] => [x]
  | y :: rest => if x.1 < y.1 || (x.1 = y.1 && x.2.2.id < y.2.2.id) then x :: y :: rest else y :: insertByTime x rest

/-- The first axis of a core that does not finish by its deadline at the clock fraction SAG_FACTOR (R264, R265). -/
def Head.lateOn (h : Head) (t c : Nat) : Option Nat :=
  let sag := max h.sagFactor 1
  let check (phase : Nat) : Option Nat :=
    let xs := ((h.onTile t).filter fun a => a.place.core = c && h.inPhase a phase).filterMap fun a =>
      (h.recordTimes a).map fun x => (x.1 + 200 * hops (a.location % 1024 / 64) t, x.2, a)
    ((xs.foldl (fun acc x => insertByTime x acc) []).foldl (init := (0, (none : Option Nat))) fun acc x =>
      let start := max acc.1 x.1
      let stop := start + (h.plannedTor x.2.2 * 6400 + 6 * sag - 1) / (6 * sag)
      (stop, acc.2.or (if stop + 200 * hops (x.2.2.location % 1024 / 64) t > x.2.1 then some x.2.2.id else none))).2
  (List.range 8).findSome? check

/-- A place for an axis that fails the check, where the check passes after the move. -/
def Head.movePassing (h : Head) (a : Axis) (t c : Nat) : Option Head :=
  (tilesFrom (h.homeTile a)).findSome? fun u => (List.range 4).findSome? fun d =>
    if (u = t && d = c) || (h.roomOn a u).isNone then none
    else
      let h' := h.setPlace a.id fun p => { p with tile := u, core := d }
      if h'.coreLoad u d ≤ h.loadLimit && (h'.lateOn u d).isNone then some h' else none

/-- The axis to move when one of a core fails the check: that one, or, as only a migration moves an axis that has its place, one
of the core that is being placed (R26, R264, R267). -/
def Head.mendable (h : Head) (fresh : Nat → Bool) (t c id : Nat) : Option Axis :=
  if fresh id then h.axis? id else (h.onTile t).find? fun a => a.place.core = c && fresh a.id

/-- Move the failing axes of one core away; what fails everywhere is named (R264). -/
def Head.mendCore (fresh : Nat → Bool) : Nat → Nat → Nat → Head → Head × Option Nat
  | 0, t, c, h => (h, h.lateOn t c)
  | n + 1, t, c, h => match h.lateOn t c with
    | none => (h, none)
    | some id => match (h.mendable fresh t c id).bind fun a => h.movePassing a t c with
      | some h => Head.mendCore fresh n t c h
      | none => (h, some id)

/-- A short placement is reported on its tile (R264). DEDUCED (log 34). -/
def Head.placeShort (h : Head) (t : Nat) (axis : Nat) : Head :=
  let h := h.setTile t fun x => { x with placeShort := true }
  (h.raise (srcTile t) 1).post 0x0804 0 axis []

/-- Weight of a range's group (R281). -/
def Head.weight (h : Head) (r : Nat) : Nat :=
  (h.compute.weights.getD r none).getD (match (h.range r).cls with | 0 => 128 | 1 => 32 | 2 => 8 | _ => 2)

/-- Weight of a group in one tile's list: SYS 4, and the raised one of G0 groups (R281). -/
def Head.groupWeight (h : Head) (t g : Nat) : Nat :=
  if g ≥ 8 then 4
  else if (h.range g).cls = 0 then max (h.weight g) ((h.tile t).raised.getD 0) else h.weight g

/-- The weight check of a tile's G0 groups (R281): the least weight that passes, or a short placement.
DEDUCED (log 34). -/
def Head.checkWeights (h : Head) (t : Nat) : Head :=
  let there := h.onTile t
  let groups := (List.range 8).filter fun r => there.any fun a => a.range = r && a.kind ≠ .mover
  let w := h.window
  let need (r : Nat) : Option Nat :=
    let load := ((List.range 4).map fun c =>
      h.phaseLoad (there.filter fun a => a.range = r && a.place.core = c) h.plannedTor).foldl max 0
    let others := 4 + sumNat ((groups.filter fun g => g ≠ r).map h.weight)
    if h.weight r * w ≥ load * (h.weight r + others) then none
    else if load ≥ w then some 256
    else some ((load * others + (w - load) - 1) / (w - load))
  let needs := (groups.filter fun r => (h.range r).cls = 0).filterMap fun r => (need r).map fun n => (r, n)
  let worst := (needs.map fun x => x.2).foldl max 0
  let h := h.setTile t fun x => { x with
    weightRaised := !needs.isEmpty, raised := if needs.isEmpty then none else some (min worst 255) }
  if worst > 255 then
    let r := ((needs.find? fun x => x.2 > 255).map fun x => x.1).getD 0
    h.placeShort t (((there.find? fun a => a.range = r).map fun a => a.id).getD 0xFFFF)
  else h

/-! ### Hints (R268) -/

/-- Where an axis's hint leads, when the tile has room and the check still passes. -/
def Head.hinted (h : Head) (a : Axis) : Option Head :=
  let home := h.homeTile a
  let other := (h.axis? a.place.hintOther).map fun x => x.place.tile
  let place : Option (Nat × Nat) := match a.place.hintKind with
    | 1 => other.bind fun t => h.findPlace a home fun u => u = t
    | 2 => if other ≠ some a.place.tile then some (a.place.tile, a.place.core)
           else h.findPlace a home fun u => some u ≠ other
    | _ => h.findPlace a (a.place.hintOther / 2) fun _ => true
  place.bind fun (tile, core) =>
    let h' := h.setPlace a.id fun p => { p with tile, core }
    -- SAG_FACTOR may change with the move, and with it the check of every core
    if (List.range 64).all fun n => (h'.lateOn (n / 4) (n % 4)).isNone || (h.lateOn (n / 4) (n % 4)).isSome then some h' else none

def Head.applyHint (h : Head) (id : Nat) : Head :=
  match h.axis? id with
  | none => h
  | some a =>
    if a.place.hintKind = 0 || a.place.state = .notPlaced then h.setPlace id fun p => { p with hintState := 0 }
    else match h.hinted a with
      | some h => h.setPlace id fun p => { p with hintState := 1 }
      | none => h.setPlace id fun p => { p with hintState := 2 }

/-! ### Placements (R266, R267) -/

/-- Identifiers of a list of axes, in the order of a key. -/
def idsBy (key : Axis → Nat) (axes : List Axis) : List Nat :=
  (axes.foldl (fun acc a => insertByTime (key a, 0, a) acc) []).map fun x => x.2.2.id

/-- The order of a full placement (R266). -/
def Head.placeOrder (h : Head) : List Nat :=
  let mine (k : Nat) (a : Axis) : Bool := (h.range a.range).cls = k
  let trackOf (a : Axis) : Option Nat := if a.linear then some a.track else (h.moverOfAxis? a.id).map fun m => m.track
  (List.range 4).foldl (init := []) fun acc k =>
    let onTrack := (List.range 64).foldl (init := []) fun acc t =>
      acc ++ idsBy (fun a => a.segIndex) ((h.line t).filter (mine k))
        ++ ((h.movers.filter fun m => m.track = t).filterMap fun m => ((h.axis? m.axis).filter (mine k)).map fun a => a.id)
    acc ++ onTrack ++ idsBy (fun a => a.id) (h.axes.filter fun a => mine k a && trackOf a = none)

/-- After any placement: hints, timing check, weights, SAG_FACTOR (R263, R264, R268, R281).  Only the axes that are being placed
move (R26). -/
def Head.finishPlacement (h : Head) (fresh : Nat → Bool) : Head :=
  let h := ((h.axes.map fun a => a.id).filter fresh).foldl (fun (h : Head) id => h.applyHint id) h
  let h : Head := { h with compute := { h.compute with tiles := h.compute.tiles.map fun (t : Tile) => { t with placeShort := false } } }
  let (h, short) := (List.range 64).foldl (init := (h, ([] : List (Nat × Nat)))) fun (acc : Head × List (Nat × Nat)) n =>
    let (h, s) := Head.mendCore fresh h.axes.length (n / 4) (n % 4) acc.1
    (h, match s with | some id => acc.2 ++ [(n / 4, id)] | none => acc.2)
  let h := short.foldl (fun (h : Head) x => h.placeShort x.1 x.2) h
  let h := (List.range 16).foldl (fun (h : Head) t => h.checkWeights t) h
  let h : Head := { h with compute := { h.compute with sagFactor := h.sagFactor } }
  match h.axes.find? fun a => a.place.state = .notPlaced with
  | some a => h.placeShort (h.homeTile a) a.id
  | none => h

/-- A full placement: no state moves, each axis starts in its new place (R267). -/
def Head.fullPlacement (h : Head) : Head :=
  let c := h.compute
  let h : Head := { h with compute := { c with
    placeCap := c.placeCapNext.getD c.placeCap, placeCapNext := none, changed := false, afterBuild := false } }
  let h := h.setAxes (fun _ => true) fun a => { a with place := { a.place with
    tile := 0xFF, core := 0xFF, massif := 0xFF, state := .notPlaced, hintState := 0, moving := none, phase := 0 } }
  (h.placeOrder.foldl (fun (h : Head) id => h.placeAxis id) h).finishPlacement fun _ => true

/-- The head time lies in the gap between compute windows (R26, R272). -/
def Head.inGap (h : Head) : Bool := match h.schedule? with
  | some s => s.branches.isEmpty || (h.now - h.time.cycleStart) * 10 ≥ s.windowEdges.2 || (h.now - h.time.cycleStart) * 10 < s.windowEdges.1
  | none => true

/-- Cycle k of the gap after cycle k: it lasts into the next cycle, until that one's window opens (R26, R272). -/
def Head.gapCycle (h : Head) : Nat := match h.schedule? with
  | some s => if !s.branches.isEmpty && (h.now - h.time.cycleStart) * 10 < s.windowEdges.1 then h.time.cycle - 1 else h.time.cycle
  | none => h.time.cycle

/-- The counts of the current gap: those of an earlier one are over (R272, R276). -/
def Head.openGap (h : Head) : Head :=
  if h.compute.gapOf = h.gapCycle then h
  else { h with compute := { h.compute with gapOf := h.gapCycle, gapCommits := 0, gapRestores := 0 } }

/-- The axes without a place take one by R266 alone. DEDUCED (log 34). -/
def Head.placeNew (h : Head) : Head :=
  let ids := h.placeOrder.filter fun id => (h.axis? id).any fun a => a.place.state = .notPlaced
  (ids.foldl (fun (h : Head) id => h.placeAxis id) h).finishPlacement ids.contains

/-- The d and q voltages of a segment's last record, taken as its integrators (R226): the inverse of R215's last steps.
DEDUCED (log 37). -/
def Head.rebuildCurrent (h : Head) (a : Axis) : Current :=
  if recordMode a.record ≠ RecordMode.phaseDuty then { a.current with intD := 0, intQ := 0, uD := 0, uQ := 0, limited := false }
  else
    let u : Int := field a.record 3 3
    let v : Int := field a.record 6 3
    let w : Int := field a.record 9 3
    let alpha := roundDiv ((2 * u - v - w) * invSqrt3) (2 ^ 24)
    let beta := roundDiv (v - w) 2
    let theta := (h.angles a).2
    let d := roundDiv (alpha * cosTurn theta + beta * sinTurn theta) (2 ^ 23)
    let q := roundDiv (beta * cosTurn theta - alpha * sinTurn theta) (2 ^ 23)
    let vnom := max (h.coeff a 0x26) 1
    let aux : Int := match a.uplink with
      | some r => if bit (field r 0 3) 17 then sfield r 13 3 else vnom
      | none => vnom
    let undo (x : Int) : Int := (sat24 (roundDiv (x * max aux (vnom / 2 : Nat)) vnom)).1
    { a.current with intD := undo d, intQ := undo q, uD := undo d, uQ := undo q, limited := false }

/-- Private words read 0 and word 0x3F reads 1 again (R312). -/
def Axis.freshHooks (a : Axis) : Axis :=
  { a with hooks := a.hooks.map fun x => { x with priv := x.priv.map fun _ => 0, fresh := true } }

/-- An axis starts again from the copy of the last completed cycle (R226, R276, R312). -/
def Head.restoreAxis (h : Head) (id : Nat) : Head :=
  match h.axis? id with
  | none => h
  | some a =>
    let a' := { (a.freshHooks) with
      loop := { a.kept.loop with sticky := a.loop.sticky, overruns := a.loop.overruns, holdRun := a.loop.holdRun }
      motion := if a.profiled then a.kept.motion else a.motion
      obs := if a.rotary then a.kept.obs else a.obs
      current := if a.kind = .segment then h.rebuildCurrent a else a.current
      place := { a.place with state := .placed } }
    h.setAxis id fun _ => a'

/-- The wake from Moraine: a full placement, and every axis restored from its copy; the tiles' SRAM was off (R277). -/
def Head.unpark (h : Head) : Head :=
  let h : Head := { h with compute := { h.compute with
    parked := false, tiles := h.compute.tiles.map fun (t : Tile) => { t with slots := List.replicate 16 {}, list := {}, engine := none } } }
  let h := h.fullPlacement
  (h.axes.map fun a => a.id).foldl (fun (h : Head) id => if (h.axis? id).any Axis.located then h.restoreAxis id else h) h

/-- The placement that is due: a full one at the end of the network build, or while no range runs and something has changed;
else the new axes alone (R267). -/
def execFullPlacement (s : State) : Host.Outcome State Fault Refusal :=
  eventExec true (fun h =>
    let idle := h.ranges.all fun r => r.state ≠ .running
    if !h.fromBoot then h
    else if (idle && h.compute.changed) || (h.compute.afterBuild && h.inGap) then h.fullPlacement
    else if h.axes.any fun a => a.place.state = .notPlaced then h.placeNew
    else h) s

/-! ### Following the movers and migration (R269, R272-R275) -/

/-- The tile on which a mover whose centre is `x` belongs: that of the segment that holds it, when its loop engine has room
(R269). -/
def Head.targetAt (h : Head) (a : Axis) (m : Mover) (x : Int) : Option Nat :=
  ((h.line m.track).find? fun s => s.segStart ≤ x && x < s.segEnd).bind fun s =>
    if s.place.tile < 16 && (s.place.tile = a.place.tile || (h.roomOn a s.place.tile).isSome) then some s.place.tile else none

/-- The target tile of a mover, by x₁ (R190, R269). -/
def Head.moverTarget (h : Head) (a : Axis) : Option Nat :=
  (h.moverOfAxis? a.id).bind fun m => h.targetAt a m (roundDiv (h.moverPath m).1 256)

/-- May a migration of a mover to a tile be prepared: the tile is the target of some cycle of the next 64, by the present
speed (R269, R272). DEDUCED (log 98). -/
def Head.nearTarget (h : Head) (a : Axis) (t : Nat) : Bool := match h.moverOfAxis? a.id with
  | none => false
  | some m =>
    let x := roundDiv (h.moverPath m).1 256
    let ahead := roundDiv ((h.obsOf a).speed * 4 * (64 * h.cycleNs : Nat)) 1000000000
    let lo := min x (x + ahead)
    let hi := max x (x + ahead)
    ((h.line m.track).filter fun s => s.place.tile = t && s.segStart ≤ hi && lo < s.segEnd).any fun s =>
      h.targetAt a m (max s.segStart (min x (s.segEnd - 1))) = some t

/-- RESCUE keeps four tiles (R277, Table 02-6). -/
def Head.consolidates (h : Head) : Bool :=
  h.sys.mode = .rescue || (h.sys.transition.any fun t => t.target = .rescue)

/-- Does a move take an axis off a tile that RESCUE gates (R275, R277)? -/
def Head.leavesGated (h : Head) (a : Axis) (t : Nat) : Bool :=
  h.consolidates && !h.keptTiles.contains a.place.tile && h.keptTiles.contains t

/-- Is the axis's tile one with the highest U, so that an axis may leave it while the shed level is above 0 (R285)? -/
def Head.relieves (h : Head) (a : Axis) : Bool :=
  h.compute.shedLevel > 0 && (List.range 16).all fun t =>
    (h.tile t).state ≠ .up || (h.onTile t).isEmpty || (h.tile t).uLast ≤ (h.tile a.place.tile).uLast

/-- Has the placer a reason to move an axis to a tile (R269, R275, R285)?. DEDUCED (log 98). -/
def Head.mayMigrate (h : Head) (a : Axis) (t : Nat) : Bool :=
  h.leavesGated a t
    || (a.kind = .mover && h.nearTarget a t
        && (a.place.lastCommit = 0 || h.time.cycle + 64 ≥ a.place.lastCommit + h.compute.rehomeGap))
    || h.relieves a

/-- MIGRATION_PREPARE (R272); the core of the destination is that of R266. -/
def execMigrationPrepare (axis : Nat) (tile : Nat) (core : Nat) (s : State) : Host.Outcome State Fault Refusal :=
  eventExec (axis < 4096 && tile < 16) (fun h => match h.axis? axis with
    | none => h
    | some a =>
      if a.place.state = .placed && a.place.tile ≠ tile && h.roomOn a tile = some core && h.mayMigrate a tile then
        h.setPlace axis fun p => { p with state := .prepare, moving := some (tile, core, h.time.cycle) }
      else h) s

/-- Is a commit of the axis due: a mover's once x₁ lies on its target and REHOME_GAP has passed, any other's at once (R269)? -/
def Head.commitDue (h : Head) (a : Axis) (t : Nat) : Bool :=
  a.kind ≠ .mover || h.consolidates
    || (h.moverTarget a = some t && (a.place.lastCommit = 0 || h.gapCycle ≥ a.place.lastCommit + h.compute.rehomeGap))

/-- May a prepared migration commit in the gap that is open (R269, R272, R274)? -/
def Head.commitOpen (h : Head) (a : Axis) : Bool := a.place.moving.any fun (tile, _, since) =>
  a.place.state = .prepare && (h.tile tile).state = .up && h.gapCycle ≤ since + 64 && a.place.retry ≤ h.gapCycle && h.commitDue a tile

/-- The order in which commits of one gap are taken: consolidation for RESCUE, mover migrations, relief; G0 first within a
kind, then the lower identifier (R275). -/
def Head.commitRank (h : Head) (a : Axis) : Nat :=
  let kind : Nat := if a.place.moving.any fun m => h.leavesGated a m.1 then 0 else if a.kind = .mover then 1 else 2
  (kind * 2 + if (h.range a.range).cls = 0 then 0 else 1) * 4096 + a.id

/-- The commit of an axis is among those that the gap's 32 places still take (R275). -/
def Head.commitTaken (h : Head) (a : Axis) : Bool :=
  (h.axes.filter fun x => h.commitOpen x && h.commitRank x < h.commitRank a).length + h.compute.gapCommits < 32

/-- MIGRATION_COMMIT (R272, R273, R275, R313): the state moves, at most 32 in one gap, at most 64 cycles after PREPARE. -/
def execMigrationCommit (axis : Nat) (s : State) : Host.Outcome State Fault Refusal :=
  eventExec (axis < 4096) (fun h => match h.axis? axis with
    | none => h
    | some a => match a.place.moving with
      | none => h
      | some (tile, core, _) =>
        let h := h.openGap
        if h.inGap && h.commitOpen a && h.commitTaken a then
          let h := h.setPlace axis fun p => { p with
            tile, core, state := .placed, moving := none, migrations := satInc (2 ^ 32 - 1) p.migrations, lastCommit := h.gapCycle }
          let h := h.setTile tile fun x => { x with commits := satInc 0xFFFF x.commits }
          { h with compute := { h.compute with gapCommits := h.compute.gapCommits + 1 } }
        else h) s

/-- MIGRATION_ABORTED (R274): the source keeps computing, and the next gap is the first that may commit again. -/
def Head.abortMigration (h : Head) (id : Nat) : Head :=
  (h.setPlace id fun p => { p with state := .placed, moving := none, retry := h.gapCycle + 1 }).post 0x0803 0 id []
def execMigrationAborted (axis : Nat) (s : State) : Host.Outcome State Fault Refusal :=
  eventExec (axis < 4096) (fun h =>
    if (h.axis? axis).any fun a => a.place.state = .prepare then h.abortMigration axis else h) s

/-! ### Terrain windows (R270, R271, R303-R306) -/

/-- The buffer of a slot that a load writes: the one that is not ACTIVE. -/
def TerrainSlot.loadB (s : TerrainSlot) : Bool := s.a.state = .active || (s.b.state ≠ .active && s.a.state = .loading)
def TerrainSlot.inactive (s : TerrainSlot) : TerrainBuffer := if s.a.state = .active then s.b else s.a
def TerrainSlot.setInactive (s : TerrainSlot) (b : TerrainBuffer) : TerrainSlot :=
  if s.a.state = .active then { s with b } else { s with a := b }
def TerrainBuffer.inUse (b : TerrainBuffer) : Bool := b.state ≠ .empty
def TerrainSlot.inUse (s : TerrainSlot) : Bool := s.a.inUse || s.b.inUse

/-- The load of R304 as the placer orders it, with RESTART (R306). -/
def TerrainSlot.load (s : TerrainSlot) (table : Nat) (first : Int) (count : Nat) : TerrainSlot :=
  let gen := match s.active? with
    | some b => (b.gen + 1) % 256
    | none => 0
  s.setInactive { table, state := .loading, gen, first, count, ordered := true }

/-- Distance from what the movers need within LEAD_TIME to a window; 0 when one needs it (R270). DEDUCED (log 35). -/
def Head.windowNeed (h : Head) (t : Nat) (b : TerrainBuffer) : Nat :=
  match h.terrain? b.table with
  | none => 2 ^ 64
  | some tab =>
    let lo := tab.origin + b.first * (2 ^ tab.spacingLog2 : Nat)
    let hi := lo + (b.count * 2 ^ tab.spacingLog2 : Nat)
    (h.movers.map fun m =>
      let serves := (h.onTile t).any fun a => a.linear && a.track = m.track && bits (h.coeff a 0x29) 11 0 = b.table
      if !serves then 2 ^ 64
      else match h.axis? m.axis with
        | none => 2 ^ 64
        | some a =>
          let ahead := a.motion.at (h.now + h.compute.leadTime * 1000000)
          let (l1, h1) := m.span m.centre (ahead.v < 0)
          let (l2, h2) := m.span (roundDiv ahead.x 65536) (ahead.v < 0)
          let l := min l1 l2
          let u := max h1 h2
          if u < lo then (lo - u).toNat else if hi < l then (l - hi).toNat else 0).foldl min (2 ^ 64)

/-- The slot that takes a window: that of the neighbouring window of its table, a free one, or the one needed last (R270).
DEDUCED (log 35). -/
def Head.windowSlot (h : Head) (t : Nat) (table : Nat) (first : Int) (count : Nat) : Option Nat :=
  let slots := (h.tile t).slots
  let joins (s : TerrainSlot) : Bool := s.active?.any fun b => b.table = table && b.first < first + count && first < b.first + b.count
  let need (s : TerrainSlot) : Nat := min (if s.a.inUse then h.windowNeed t s.a else 2 ^ 64) (if s.b.inUse then h.windowNeed t s.b else 2 ^ 64)
  match slots.findIdx? joins, slots.findIdx? fun s => !s.inUse with
  | some k, _ => some k
  | none, some k => some k
  | none, none =>
    let best := (List.range slots.length).foldl (fun b k => if need (slots.getD k {}) > need (slots.getD b {}) then k else b) 0
    if need (slots.getD best {}) > 0 then some best else none

/-- First entry of the window that begins at a coordinate. -/
def Head.windowFirst (h : Head) (tab : Terrain) (coordinate : Int) : Int :=
  let count := min h.compute.windowWords (max tab.entries.length 1)
  let j := (coordinate - tab.origin) / (2 ^ tab.spacingLog2 : Nat)
  if tab.periodic then j % (max tab.entries.length 1 : Nat) else max 0 (min j (tab.entries.length - count : Nat))

/-- Order the window of a table that begins at a coordinate into a tile, unless it is held there (R270, R271). -/
def Head.loadWindow (h : Head) (t : Nat) (table : Nat) (coordinate : Int) : Head :=
  match h.terrain? table with
  | none => h
  | some tab =>
    let count := min h.compute.windowWords (max tab.entries.length 1)
    let first := h.windowFirst tab coordinate
    let same (b : TerrainBuffer) : Bool := b.table = table && b.first = first && b.count = count
    let held (b : TerrainBuffer) : Bool := b.inUse && same b
    let held (b : TerrainBuffer) : Bool := held b && (b.state ≠ .loading || b.ordered)
    if tab.cogging || (h.tile t).slots.any fun s => held s.a || held s.b then h
    else match h.windowSlot t table first count with
      | some k => h.setSlot t k fun s => s.load table first count
      | none => h

/-- Does the placer want the window of a table that begins at a coordinate for a mover?  The span that the mover claims within
LEAD_TIME reaches segments of the tile that use the table, and the window lies with a quarter of it behind the planned centre of
some instant until then (R270). DEDUCED (log 35). -/
def Head.windowWanted (h : Head) (tile : Nat) (tab : Terrain) (coordinate : Int) (m : Mover) : Bool :=
  (h.axis? m.axis).any fun a =>
    let now := a.motion.at h.now
    let ahead := a.motion.at (h.now + h.compute.leadTime * 1000000)
    let (x1, x2) := (roundDiv now.x 65536, roundDiv ahead.x 65536)
    let down : Bool := x2 < x1
    let (l1, h1) := m.span m.centre down
    let (l2, h2) := m.span x2 down
    let serves := (h.onTile tile).any fun s => s.linear && s.track = m.track && bits (h.coeff s 0x29) 11 0 = tab.id
      && (s.mover = some m.id || (s.segStart < max h1 h2 && min l1 l2 < s.segEnd))
    let spacing := 2 ^ tab.spacingLog2
    let behind := if down then 3 * h.compute.windowWords / 4 else h.compute.windowWords / 4
    let at_ (x : Int) : Int := (x - behind * spacing - tab.origin) / (spacing : Nat)
    let j := (coordinate - tab.origin) / (spacing : Nat)
    serves && min (at_ x1) (at_ x2) ≤ j + 1 && j ≤ max (at_ x1) (at_ x2) + 1

/-- WINDOW_LOAD (R270): a tile takes the window that the placer positions for a mover, ordered in its SYS group. -/
def execWindowLoad (tile : Nat) (table : Nat) (coordinate : Int) (s : State) : Host.Outcome State Fault Refusal :=
  eventExec (tile < 16) (fun h =>
    if (h.tile tile).state = .up && (h.terrain? table).any fun t => h.movers.any (h.windowWanted tile t coordinate) then
      h.loadWindow tile table coordinate
    else h) s

/-- Clocks of a table load (R305). DEDUCED (log 35). -/
def loadClocks (count : Nat) : Nat := 32 + count + 2 * (count / 64)

/-- The placer's load that a slot waits for (R271, R306). -/
def TerrainSlot.loading? (s : TerrainSlot) : Option TerrainBuffer :=
  let waits (b : TerrainBuffer) : Bool := b.state = .loading && b.ordered
  if waits s.a then some s.a else if waits s.b then some s.b else none

/-- The operation of the SYS group that loads a slot bears this in place of an axis (R279). DEDUCED (log 36). -/
def sysOperation (slot : Nat) : Nat := 4096 + slot

/-- The copy of a load is complete; the buffer waits for the next boundary (R303, R304). -/
def Head.completeLoad (h : Head) (tile slot : Nat) : Head := h.setSlot tile slot fun s =>
  let finish (b : TerrainBuffer) : TerrainBuffer :=
    if b.state = .loading && b.ordered then { b with state := .complete, done := h.time.cycle } else b
  { a := finish s.a, b := finish s.b }

/-- TABLE_LOAD_DONE (R304, R305): the buffer is COMPLETE; its routine's clocks are charged to the SYS group and count in the
tile's busy time, on the core that ran it (R280, R283); staging traffic waits while LPDDR4X changes its set point (R447).
DEDUCED (log 35). -/
def execTableLoadDone (tile : Nat) (slot : Nat) (s : State) : Host.Outcome State Fault Refusal :=
  eventExec (tile < 16 && slot < 16) (fun h =>
    match ((h.tile tile).slots.getD slot {}).loading? with
    | none => h
    | some b =>
      if !h.power.fspChange.isEmpty then h
      else (h.completeLoad tile slot).setTile tile fun t =>
        let clocks := loadClocks b.count
        let least := (List.range 4).foldl (fun b c => if t.busy.getD c 0 < t.busy.getD b 0 then c else b) 0
        let core := (t.list.cores.findIdx? fun c => c.active.any fun o => o.axis = sysOperation slot).getD least
        { t with
          busy := setAt core (fun n => n + clocks) t.busy
          list := { t.list with
            deficit := setAt 8 (fun d => d - clocks) t.list.deficit
            cores := t.list.cores.map (Core.drop (sysOperation slot)) } }) s

/-- BUFFER_SWITCH (R303): at the first cycle boundary after COMPLETE the buffer is ACTIVE and the other EMPTY. -/
def execBufferSwitch (tile : Nat) (slot : Nat) (s : State) : Host.Outcome State Fault Refusal :=
  eventExec (tile < 16 && slot < 16) (fun h => h.setSlot tile slot fun s =>
    let turns (b : TerrainBuffer) : Bool := b.state = .complete && b.done < h.time.cycle
    if turns s.a then { a := { s.a with state := .active }, b := { s.b with state := .empty } }
    else if turns s.b then { a := { s.a with state := .empty }, b := { s.b with state := .active } }
    else s) s

/-! ### Lost tiles (R276, R403) -/

/-- A tile is removed: gated, its axes placed elsewhere by R266 and to be restored there (R276, R403). -/
def Head.loseTile (h : Head) (t : Nat) : Head :=
  let lost := h.placeOrder.filter fun id => (h.onTile t).any fun a => a.id = id
  let h := h.setTile t fun x => { x with
    state := .lost, slots := List.replicate 16 {}, list := {}, engine := none }
  let h := (h.axes.filter fun a => a.place.state = .prepare && a.place.moving.any fun m => m.1 = t).foldl
    (fun (h : Head) (a : Axis) => h.abortMigration a.id) h
  let h := (h.raise (srcTile t) 0).post 0x0802 0 t []
  let h := lost.foldl (init := h) fun (h : Head) id =>
    (h.setAxis id fun a => { a with work := none, packed := none, graph := .abandoned
                                    place := { a.place with state := .notPlaced, tile := 0xFF, core := 0xFF, massif := 0xFF, moving := none } }).dropOperations id
  let h := lost.foldl (init := h) fun (h : Head) id => match h.axis? id with
    | none => h
    | some a => match h.findPlace a (h.homeTile a) fun _ => true with
      | some (tile, core) => h.setPlace id fun p => { p with tile, core, massif := (h.massifCore a).getD 0xFF, state := .awaiting }
      | none => h
  h.finishPlacement lost.contains

/-- TILE_REMOVED (R403). -/
def execTileRemoved (tile : Nat) (s : State) : Host.Outcome State Fault Refusal :=
  eventExec (tile < 16) (fun h => if (h.tile tile).state = .lost || !h.fromBoot then h else h.loseTile tile) s

/-- AXIS_RESTORE (R275, R276): at most 64 in one gap, G0 first, then the lower identifier. -/
def execAxisRestore (s : State) : Host.Outcome State Fault Refusal :=
  eventExec true (fun h =>
    if !h.inGap then h
    else
    let h := h.openGap
    let awaiting := h.axes.filter fun a => a.place.state = .awaiting
    let order := (List.range 4).foldl (init := []) fun (acc : List Axis) k => acc ++ awaiting.filter fun a => (h.range a.range).cls = k
    let now := order.take (64 - h.compute.gapRestores)
    let h := now.foldl (fun (h : Head) (a : Axis) => h.restoreAxis a.id) h
    { h with compute := { h.compute with gapRestores := h.compute.gapRestores + now.length } }) s

/-! ### Shedding (R283-R287) -/

/-- Reciprocal of a tile's clock fraction, as numerator and denominator (R448). -/
def Head.stretch (h : Head) (t : Nat) : Nat × Nat := match h.fraction t % 4 with
  | 0 => (1, 1)
  | 1 => (4, 3)
  | 2 => (2, 1)
  | _ => (6, 1)

/-- Utilisation in % of clocks busy on a tile, at the fraction in force (R283). DEDUCED (log 36). -/
def Head.utilisation (h : Head) (t clocks : Nat) : Nat :=
  let (n, d) := h.stretch t
  clocks * n * 100 / (d * max h.window 1)

/-- The ranges computed at a shed level, and the share of their cycles (R284). -/
def Head.levelCost (h : Head) (level : Nat) (a : Axis) (cost : Nat) : Nat :=
  let r := h.range a.range
  if r.state ≠ .running || (r.cls = 3 && level ≥ 1) || (r.cls = 1 && level ≥ 3) then 0
  else if r.cls = 2 && level ≥ 2 then cost / 2 else cost

/-- The placer's projection of a tile's U with a shed level in force (R283). -/
def Head.projected (h : Head) (t level : Nat) : Nat :=
  let there := h.onTile t
  let core (c : Nat) := h.phaseLoad (there.filter fun a => a.place.core = c) fun a => h.levelCost level a (h.plannedTor a)
  let engine := h.phaseLoad there fun a => h.levelCost level a a.plannedEngine
  h.utilisation t (max engine (((List.range 4).map core).foldl max 0))

/-- The end of a cycle for the shed level (R283): U of every tile, the run of overloaded cycles, the projection. -/
def Head.measureLoad (h : Head) : Head :=
  let idle (t c : Nat) : Nat := 25 * ((h.onTile t).filter fun a => a.kind = .segment && a.place.core = c && h.inTurn a && !h.due a).length
  let u (t : Nat) : Nat :=
    let x := h.tile t
    h.utilisation t (max x.engineBusy (((List.range 4).map fun c => x.busy.getD c 0 + idle t c).foldl max 0))
  let us := (List.range 16).map u
  let up := (List.range 16).filter fun t => (h.tile t).state = .up
  let above : Bool := h.compute.heldInTime || up.any fun t => us.getD t 0 ≥ h.compute.shedHigh
  let low : Bool := h.compute.shedLevel > 0 && up.all fun t => h.projected t (h.compute.shedLevel - 1) ≤ h.compute.shedLow
  { h with compute := { h.compute with
      tiles := h.compute.tiles.mapIdx fun t (x : Tile) =>
        { x with uLast := us.getD t 0, uPeak := max x.uPeak (us.getD t 0), busy := [0, 0, 0, 0], engineBusy := 0 }
      massifBusy := 0
      overRun := if above then satInc 8 h.compute.overRun else 0
      heldInTime := false
      lowSince := if low then some (h.compute.lowSince.getD h.now) else none } }

/-- SHED_LEVEL_RISE (R283, R284): level 3 belays every G1 range. -/
def execShedLevelRise (s : State) : Host.Outcome State Fault Refusal :=
  eventExec true (fun h =>
    if h.compute.overRun ≥ 8 && h.compute.shedLevel < 3 then
      let level := h.compute.shedLevel + 1
      let h : Head := { h with compute := { h.compute with shedLevel := level, overRun := 0, lowSince := none } }
      let h := (h.raise 0 14).post 0x0801 0 0xFFFF []
      if level = 3 then
        ((List.range 8).filter fun r => (h.range r).cls = 1 && (h.range r).state ≠ .unused).foldl
          (fun (h : Head) r => h.raise (srcRange r) 1) h
      else h
    else h) s

/-- SHED_LEVEL_FALL (R283). -/
def execShedLevelFall (s : State) : Host.Outcome State Fault Refusal :=
  eventExec true (fun h =>
    if h.compute.shedLevel > 0 && h.compute.lowSince.any fun t => t + h.compute.restoreMs * 1000000 ≤ h.now then
      ({ h with compute := { h.compute with shedLevel := h.compute.shedLevel - 1, lowSince := none } } : Head).post 0x0801 0 0xFFFF []
    else h) s

/-! ### Commands (R289) -/

def placeStateCode : PlaceState → Nat
  | .placed => 0 | .prepare => 1 | .awaiting => 2 | .notPlaced => 3
def tileStateCode : TileState → Nat
  | .up => 0 | .gated => 1 | .lost => 2

/-- GET_PLACEMENT. -/
def getPlacementCmd : Command :=
  axisRead 0x0800 fun a h =>
    let p := a.place
    pack [(1, p.tile), (1, p.core), (1, placeStateCode p.state), (1, if p.tile < 16 then hops (h.homeTile a) p.tile else 0),
      (1, p.hintKind), (1, p.hintState), (2, h.plannedTor a), (4, p.migrations), (6, p.lastCommit), (2, 0)]
def execGetPlacement (p : Packet) (s : State) : Host.Outcome State Fault Refusal := hostExec getPlacementCmd p s

/-- GET_TILE_LOAD: reading it clears U_PEAK and PREEMPTS; SAG_FACTOR is that of the loads and the window in force (R263). -/
def getTileLoadCmd : Command :=
  { observeCommand 0x0801 0 Head.fromCommission (fun p _ => noTarget p) (fun _ _ => []) (fun _ _ => []) with
    effect := fun _ h =>
      let tile (t : Nat) : List Byte :=
        let x := h.tile t
        pack [(1, tileStateCode x.state), (1, 0), (1, (x.slots.filter TerrainSlot.inUse).length),
          (1, flag x.weightRaised 0 + flag x.placeShort 1), (2, ((List.range 4).map fun c => h.coreLoad t c).foldl max 0),
          (2, h.engineLoad t), (1, x.uLast), (1, x.uPeak), (2, x.preempts), (2, x.commits), (2, (h.onTile t).length)]
      let h : Head := { h with compute := { h.compute with sagFactor := h.sagFactor } }
      { head := { h with compute := { h.compute with tiles := h.compute.tiles.map fun (x : Tile) => { x with uPeak := 0, preempts := 0 } } }
        reply := pack [(4, h.window), (1, h.compute.sagFactor), (1, h.compute.shedLevel), (2, 0)]
          ++ (List.range 16).foldl (init := []) fun acc t => acc ++ tile t } }
def execGetTileLoad (p : Packet) (s : State) : Host.Outcome State Fault Refusal := hostExec getTileLoadCmd p s

/-- SET_AFFINITY (R268). -/
def setAffinityCmd : Command :=
  blockCommand 0x0802 .configure 8 [.commission, .service] true
    (fun p h => axisRefOk p false && pz p 5 1 && match targetAxis? p h with
      | none => false
      | some a => a.kind ≠ .mover && (match pu p 4 1 with
        | 0 => pu p 6 2 = 0
        | 1 => pu p 6 2 < 4096 && pu p 6 2 ≠ a.id && (h.axis? (pu p 6 2)).isSome
        | 2 => pu p 6 2 < 4096 && pu p 6 2 ≠ a.id && (h.axis? (pu p 6 2)).isSome
        | 3 => pu p 6 2 < 32
        | _ => false))
    (fun p h => [((targetAxis? p h).any fun a => epochStale p a, Status.epochStale)])
    fun p h =>
      let h := h.setPlace (p.target % 4096) fun x => { x with hintKind := pu p 4 1, hintOther := pu p 6 2, hintState := 0 }
      { head := { h with compute := { h.compute with changed := true } } }
def execSetAffinity (p : Packet) (s : State) : Host.Outcome State Fault Refusal := hostExec setAffinityCmd p s

/-- SET_DISPATCH (R281, R282). -/
def setDispatchCmd : Command :=
  blockCommand 0x0803 .configure 4 [.commission] true
    (fun p _ => p.target < 8 && 1 ≤ pu p 0 1 && pu p 1 1 ≤ 1 && pz p 2 2) (fun _ _ => [])
    fun p h => { head := { h with compute := { h.compute with
      weights := setAt p.target (fun _ => some (pu p 0 1)) h.compute.weights
      delivery := setAt p.target (fun _ => some (pu p 1 1 = 1)) h.compute.delivery } } }
def execSetDispatch (p : Packet) (s : State) : Host.Outcome State Fault Refusal := hostExec setDispatchCmd p s

/-- SET_PLACER (R262, R269, R270, R283); PLACE_CAP waits for the next full placement. -/
def setPlacerCmd : Command :=
  blockCommand 0x0804 .configure 12 [.commission] true
    (fun p _ => noTarget p && 30 ≤ pu p 0 1 && pu p 0 1 ≤ 90 && 80 ≤ pu p 1 1 && pu p 1 1 ≤ 100 && 50 ≤ pu p 2 1 && pu p 2 1 ≤ 95
      && pu p 2 1 < pu p 1 1 && pz p 3 1 && 5 ≤ pu p 4 2 && pu p 4 2 ≤ 1000 && 64 ≤ pu p 6 2 && pu p 6 2 ≤ 4096
      && 10 ≤ pu p 8 2 && pu p 8 2 ≤ 10000)
    (fun _ _ => [])
    fun p h => { head := { h with compute := { h.compute with
      placeCapNext := some (pu p 0 1), shedHigh := pu p 1 1, shedLow := pu p 2 1, leadTime := pu p 4 2, windowWords := pu p 6 2
      restoreMs := pu p 8 2, rehomeGap := pu p 10 2 } } }
def execSetPlacer (p : Packet) (s : State) : Host.Outcome State Fault Refusal := hostExec setPlacerCmd p s

end Sys2Proof.Machine
end

