-- ==== Sys2Proof/Machine/Contour.lean ====
section
/-! DEFINITION. The contour calendar's actions (R193, R197, Table 07-5) and its commands (R189, R199). -/
namespace Sys2Proof.Machine

/-- A stepper axis an action names. -/
def Head.stepperOf (h : Head) (axis : Nat) : Option Axis := (h.axis? axis).filter fun a => a.kind = .stepper

/-- The move that a STEPPER_MOVE action asks for: its axis, whether relative, and the position; a reason of R197 when it
cannot be carried out. DEDUCED (log 58). -/
def Head.stepperAction (h : Head) (mover : Nat) (param : List Byte) : Except Nat (Axis × Bool × Int) :=
  match h.stepperOf (field param 0 2) with
  | none => .error 1
  | some a =>
    let (kind, position) := a.step.descs.getD (field param 2 1) (0, 0)
    if kind = 0 then .error 5
    else if h.moverBelayed mover || (h.moveRefusal a (kind = 2) position).isSome then .error 2
    else .ok (a, kind = 2, position)

/-- A local action at its instant: a capture's and an output's is the tick at or after t* (R186, Table 07-5).  What fails then
is reported as R197 lays down. -/
def Head.localAction (h : Head) (c : Comparator) : Head := match c.action with
  | 3 => (h.fireAt (field c.param 0 1) (h.tickAt (c.time * 65536) / 2 ^ 24) true).1
  | 5 => match h.stepperAction c.mover c.param with
    | .error reason => h.contourFailed c.mover c.entry reason
    | .ok (a, relative, position) =>
      let opened := (h.steps.getD a.stepChannel {}).opened
      let t := opened + (c.time - opened + 9) / 10 * 10
      let h := h.startSteps a (h.stepTarget a relative position) t
      match h.axis? a.id with
      | some a => h.stepPartial a t
      | none => h
  | _ => match h.localOutput (field c.param 0 1) (field c.param 1 1 = 1) with
    | .error reason => h.contourFailed c.mover c.entry reason
    | .ok h => h

/-- CALENDAR_COMPARATOR_FIRE (R186, R193): the oldest local action of an entry acts at its instant t*.
DESIGN CHOICE (log 17). -/
def execCalendarComparatorFire (entry : Nat) (s : State) : Host.Outcome State Fault Refusal :=
  eventExec (entry < 8192) (fun h =>
    match h.cal.comparators.find? fun c => c.entry = entry with
    | none => h
    | some c =>
      let h : Head := { h with cal := { h.cal with comparators := h.cal.comparators.erase c } }
      (h.reach c.time).localAction c) s

/-- Place a local action on a comparator. -/
def Head.compare (h : Head) (f : Fired) (t : Nat) : Head :=
  let c : Comparator := { time := t, entry := f.entry.entry, mover := f.entry.mover, action := f.entry.action, param := f.entry.param }
  { h with cal := { h.cal with comparators := h.cal.comparators ++ [c] } }

/-- Carry out one fired entry's action in the cycle of t* (Table 07-5, R197, R198). DEDUCED (log 22).
DEDUCED (log 58). -/
def Head.carryAction (h : Head) (f : Fired) : Head :=
  let e := f.entry
  let t := h.time.cycleStart + f.offset
  let fail (reason : Nat) : Head := h.contourFailed e.mover e.entry reason
  match e.action with
  | 1 => if h.moverBelayed e.mover then fail 2 else h.calendarBind e.entry (field e.param 0 2) e.mover
  | 2 => h.calendarRelease e.entry (field e.param 0 2) e.mover
  | 3 => if (h.unit (field e.param 0 1)).cfg.isSome then h.compare f t else fail 1
  | 4 =>
    if (h.terrain? (field e.param 0 2)).isNone then fail 1
    else
      (List.range 16).foldl (init := h) fun (h : Head) tile =>
        if (h.tile tile).state = .up && (h.onTile tile).any (fun a => a.linear && a.track = e.track) then
          h.loadWindow tile (field e.param 0 2) (sfield e.param 4 4)
        else h
  | 5 => match h.stepperAction e.mover e.param with
    | .error reason => fail reason
    | .ok (a, relative, position) =>
      if a.localStep then h.compare f t
      else h.startSteps a (h.stepTarget a relative position) (if f.offset = 0 then t else h.time.cycleStart + h.cycleNs)
  | 6 => match h.localOutput (field e.param 0 1) (field e.param 1 1 = 1) with
    | .error reason => fail reason
    | .ok _ => h.compare f t
  | _ => h

/-- CONTOUR_HIT (R193, R195): LATE also when the entry's NODE_ACTION has not been sent by the end of cycle k.
DEDUCED (log 22). -/
def Head.contourHit (h : Head) (f : Fired) : Head :=
  let e := f.entry
  let late := f.late || (e.action = 7 && h.cal.actions.any fun a => a.entry = e.entry)
  if e.notify || e.action = 8 then
    h.post 0x0510 2 e.mover [(2, e.entry), (4, f.offset), (1, flag f.predicted 0 + flag late 1)]
  else h

/-- The movers that hold no segment take their first run (R114, R119). DEDUCED (log 80). -/
def Head.bindFirstRuns (h : Head) : Head :=
  if h.commands && h.inMode [.commission, .service, .rescue] then
    h.movers.foldl (fun (h : Head) m => h.bindFirstRun m) h
  else h

/-- The calendar's actions at the opening of the cycle of t*, with the changes deferred to this boundary: releases, then
binds, then the others, each against the state that those before it left (R106, R107, R193). DEDUCED (log 21). -/
def Head.carryOut (h : Head) : Head :=
  let fired := h.cal.fired
  let h : Head := { h with cal := { h.cal with fired := [] } }
  let run (p : Nat → Bool) (h : Head) : Head :=
    (fired.filter fun f => p f.entry.action).foldl (init := h) fun (h : Head) (f : Fired) => h.carryAction f
  let h := run (fun a => a = 2) (h.dueDeferred false)
  let h := ((run (fun a => a = 1) h).dueDeferred true).bindFirstRuns
  let h := run (fun a => a > 2) h
  fired.foldl (init := h) fun (h : Head) (f : Fired) => h.contourHit f

/-- CONTOUR_LATE: the request of an entry has not been sent by the end of cycle k (R195, Table 03-13). -/
def execContourLate (entry : Nat) (s : State) : Host.Outcome State Fault Refusal :=
  eventExec (entry < 8192) (fun h =>
    match h.cal.actions.find? fun a => a.entry = entry && a.cycle < h.time.cycle with
    | none => h
    | some a =>
      Head.post { h with cal := { h.cal with actions := h.cal.actions.erase a } } 0x0512 2 a.mover
        [(2, a.entry), (2, a.node), (2, a.code), (1, a.cyc8)]) s

/-! ### Commands -/

/-- The lowest free host entry (R189). -/
def Head.freeHostEntry (h : Head) : Option Nat :=
  let used := h.cal.entries.map fun e => e.entry
  (List.range 7168).findSome? fun i => if used.contains (1024 + i) then none else some (1024 + i)

/-- The output a LOCAL_OUTPUT action names exists (Table 07-5). -/
def outputCode (n : Nat) : Bool := n < 4 || (0x10 ≤ n && n < 0x38)

/-- ACTION_PARAM is legal: its targets exist and its unused bytes are 0 (Table 07-5, R194). -/
def actionOk (h : Head) (track action : Nat) (x : List Byte) : Bool := match action with
  | 1 | 2 => zeros x 2 14 && (h.axis? (field x 0 2)).any fun a => a.linear && a.track = track
  | 3 => field x 0 1 < 8 && zeros x 1 15
  | 4 => (h.terrain? (field x 0 2)).isSome && zeros x 2 2 && zeros x 8 8
  | 5 => (h.stepperOf (field x 0 2)).isSome && field x 2 1 < 16 && zeros x 3 13
  | 6 => outputCode (field x 0 1) && field x 1 1 ≤ 1 && zeros x 2 14
  | 7 => field x 0 2 < 1024 && (h.position? (field x 0 2)).isSome && zeros x 3 1
      && (match field x 4 2 with
        | 1 => field x 6 1 ≤ 1 && zeros x 7 9
        | 2 => zeros x 6 10
        | n => 0x8000 ≤ n)
  | 8 => zeros x 0 16
  | _ => false

/-- BIND or UNBIND while AUTO_HANDOVER is set on the mover named or on the holder of the segment named (R115), or a
LOCAL_OUTPUT at a ball that is no output. DEDUCED (log 57). -/
def armState7 (p : Packet) (h : Head) : Bool :=
  let auto (m : Nat) : Bool := (h.mover? m).any fun m => m.autoHandover
  let x := (prm p).drop 12
  match pu p 3 1 with
  | 1 | 2 => !(auto (pu p 0 1) || ((h.axis? (field x 0 2)).bind fun a => a.mover).any auto)
  | 6 =>
    let k := field x 0 1
    k < 4 || !outputCode k || ((h.pin (k - 0x10)).set.func = 0 && (h.pin (k - 0x10)).set.output)
  | _ => true

/-- The 28 parameter bytes of an entry's ARM_CONTOUR. -/
def CalEntry.params (e : CalEntry) : List Byte :=
  pack [(1, e.mover), (1, e.track), (1, e.dir + flag e.rearm 2 + flag e.notify 3), (1, e.action)] ++ leInt 4 e.coord ++ leBytes 4 e.hyst
    ++ padTo 16 e.param

/-- ARM_CONTOUR (R189, R192). -/
def armContourCmd : Command :=
  { opcode := 0x0520, cls := .operate, len := lenIs 28, active := true
    stateOk := fun p h => h.inMode [.commission, .service, .rescue] && armState7 p h
    paramOk := fun p h => noTarget p && (h.mover? (pu p 0 1)).isSome && pu p 1 1 < 64 && pu p 2 1 < 16 && pu p 2 1 % 4 < 3
      && pu p 8 4 ≤ 4000000 && actionOk h (pu p 1 1) (pu p 3 1) ((prm p).drop 12)
    refusals := fun p h => [(bit (pu p 2 1) 2 && (pu p 3 1 = 1 || pu p 3 1 = 2), Status.notRearmable),
      (h.freeHostEntry.isNone, Status.calendarFull)]
    effect := fun p h => match h.freeHostEntry, h.mover? (pu p 0 1) with
      | some n, some m =>
        let dir := pu p 2 1 % 4
        let state := armState dir (ps p 4 4) (pu p 8 4) m.here
        let e : CalEntry := {
          entry := n, mover := m.id, track := pu p 1 1, dir, rearm := bit (pu p 2 1) 2, notify := bit (pu p 2 1) 3
          action := pu p 3 1, coord := ps p 4 4, hyst := pu p 8 4, param := padTo 16 ((prm p).drop 12), state, fired := 0, last := 0
          missed := false }
        { head := (h.noteChange (.calDef n (prm p))).putEntry e, reply := pack [(2, n), (1, flag (state = .waiting) 0), (1, 0)] }
      | _, _ => { head := h } }
def execArmContour (p : Packet) (s : State) : Host.Outcome State Fault Refusal := hostExec armContourCmd p s

/-- DISARM_CONTOUR. -/
def disarmContourCmd : Command :=
  { opcode := 0x0521, cls := .operate, len := lenIs 0, active := true
    stateOk := fun _ h => h.inMode [.commission, .service, .rescue, .safe]
    paramOk := fun p h => 1024 ≤ p.target && h.cal.entries.any fun e => e.entry = p.target
    effect := fun p h => match h.cal.entries.find? fun e => e.entry = p.target with
      | some e => { head := (h.noteChange (.calDef e.entry e.params)).freeEntry p.target }
      | none => { head := h } }
def execDisarmContour (p : Packet) (s : State) : Host.Outcome State Fault Refusal := hostExec disarmContourCmd p s

/-- GET_CONTOUR: what a free entry's other fields hold is not stated (log 3). DEDUCED (log 59). -/
def getContourCmd : Command :=
  { observeCommand 0x0522 0 Head.fromCommission (fun p _ => p.target < 8192) (fun _ _ => []) (fun _ _ => []) with
    effect := fun p h => match h.cal.entries.find? fun e => e.entry = p.target with
      | some e =>
        { head := h
          reply := e.params ++ pack [(1, flag (e.state = .waiting) 0), (3, 0), (4, e.fired), (6, e.last)] }
      | none =>
        let (a, h) := h.drawBytes 28
        let (b, h) := h.drawBytes 10
        { head := h, reply := padTo 28 a ++ pack [(1, 2), (3, 0)] ++ padTo 10 b } }
def execGetContour (p : Packet) (s : State) : Host.Outcome State Fault Refusal := hostExec getContourCmd p s

end Sys2Proof.Machine
end

