-- ==== Sys2Proof/Machine/Streams.lean ====
section
/-! DEFINITION. Probes, streams, trigger units and captures: the rows and commands of chapter 13 (R341-R359). -/
namespace Sys2Proof.Machine

/-! ### Probes (R341) -/

/-- Does an axis have a signal (Table 13-1)? -/
def Axis.hasSignal (a : Axis) (signal : Nat) : Bool :=
  if 0x01 ≤ signal && signal ≤ 0x05 then a.profiled
  else if signal = 0x06 then a.kind ≠ .stepper
  else if 0x07 ≤ signal && signal ≤ 0x0F then a.kind = .segment
  else if signal = 0x10 then a.linear
  else if signal = 0x11 || signal = 0x12 then a.kind = .mover
  else if signal = 0x13 then a.kind = .segment
  else if signal = 0x14 then true
  else if 0x15 ≤ signal && signal ≤ 0x17 then a.kind = .stepper
  else false

/-- The value of a signal in the cycle whose graph has committed with the values `w`; none when it is unknown. -/
def Head.signalValue (h : Head) (a : Axis) (w : Work) (signal : Nat) : Option Int :=
  let o := h.obsOf a
  match signal with
  | 0x01 => some (roundDiv w.xSet 65536)
  | 0x02 => some o.units
  | 0x03 => some w.vSet
  | 0x04 => some o.speed
  | 0x05 => some w.aSet
  | 0x06 => some (if a.linear then w.iqRef else w.force)
  | 0x07 => some a.current.iD
  | 0x08 => some a.current.iQ
  | 0x09 => some a.current.uD
  | 0x0A => some a.current.uQ
  | 0x0B => some w.dutyU
  | 0x0C => some w.dutyV
  | 0x0D => some w.dutyW
  | 0x0E => some w.aux
  | 0x0F => some (h.angles a).1
  | 0x10 => some a.coverage
  | 0x11 => (h.moverOfAxis? a.id).map fun m => (h.coverSum m : Int)
  | 0x12 => some o.residual
  | 0x13 => a.uplink.map fun r => sfield r 9 4
  | 0x14 => some a.loop.sticky.toNat
  | 0x15 => some (roundDiv (a.step.at h.time.cycleStart).1 65536)
  | 0x16 => a.step.lambda
  | 0x17 => some a.step.amplitude
  | _ => none

/-- One probe at the end of a cycle: its value when the graph committed, else the last value marked not valid. -/
def Head.sampleProbe (h : Head) (p : Probe) : Probe :=
  match (if p.signal = 0 then none else (h.axis? p.axis).bind fun a => a.done.bind fun w => h.signalValue a w p.signal) with
  | some v => { p with value := ofSigned 32 v, valid := true }
  | none => { p with valid := false }

/-- A probe frame (R344). -/
def Head.probeFrame (h : Head) (c : StreamCfg) : Frame :=
  let ps := c.probes.map fun n => h.acq.probes.getD n {}
  { index := h.time.cycle, time := h.time.cycleStart * 256, period := h.samplePeriod c
    bytes := leBytes 8 (sumNat (ps.mapIdx fun j p => flag p.valid j)) ++ ps.flatMap fun p => leBytes 4 p.value
    values := ps.map fun p => if p.valid then some (toSigned 32 p.value) else none }

/-- The sample instant of the cycle that ends: the probes, and a frame of every probe stream whose turn it is; a paused
stream loses it (R341, R343, R348). -/
def Head.sampleProbes (h : Head) : Head :=
  let h : Head := { h with acq := { h.acq with probes := h.acq.probes.map fun p => h.sampleProbe p } }
  (List.range 4).foldl (init := h) fun (h : Head) n => match (h.stream n).cfg with
    | none => h
    | some c =>
      if c.adc || h.time.cycle % c.div ≠ c.phase then h
      else if (h.stream n).paused then h.loseFrame n 3 h.time.cycle h.time.cycleStart
      else if h.sampling n then h.takeFrame n (h.probeFrame c)
      else h

/-! ### Rings (R345-R347) -/

/-- The head's fields of a ring control block (Table 13-2). -/
def Head.writeControl (h : Head) (n : Nat) : Head :=
  let s := h.stream n
  ((h.emit (.controlWrite n 0 (leBytes 8 s.producer))).emit (.controlWrite n 16 (pack [(1, s.state), (7, 0)]))).emit
    (.controlWrite n 24 (leBytes 8 s.lost))

/-- Write one packet at PRODUCER, with its SEQ. -/
def Head.writePacket (h : Head) (n ring : Nat) (packet : List Byte) : Head :=
  let s := h.stream n
  let bytes := packet.take 4 ++ leBytes 4 s.seq ++ packet.drop 8
  (h.emit (.ringWrite n (s.producer % ring) bytes)).setStreamOf n fun s =>
    { s with producer := s.producer + bytes.length, seq := (s.seq + 1) % 2 ^ 32 }

/-- Write the staged packets that the ring has room for, with PAD packets at its end (R345, R346). DEDUCED (log 56). -/
def Head.drainRing (n : Nat) (c : StreamCfg) : Nat → Head → Head
  | 0, h => h
  | fuel + 1, h =>
    let s := h.stream n
    let ring := 2 ^ c.ringLog2
    match s.staged with
    | [] => h
    | p :: rest =>
      let free := ring - (s.producer - s.consumer)
      let toEnd := ring - s.producer % ring
      if p.length > toEnd then
        if free < toEnd then h
        else Head.drainRing n c fuel
          (h.writePacket n ring (packetBytes 5 n 0 0 (h.samplePeriod c) 0 0 (List.replicate (toEnd - 32) 0)))
      else if free < p.length then h
      else Head.drainRing n c fuel ((h.writePacket n ring p).setStreamOf n fun s => { s with staged := rest })

/-- A stopping stream whose staged packets have reached the ring is stopped (STREAM_STOP). -/
def Head.endStop (h : Head) (n : Nat) : Head :=
  let s := h.stream n
  if s.stopping && s.staged.isEmpty && s.frames.isEmpty && s.gap.isNone then
    (h.setStreamOf n fun s => { s with state := 0, stopping := false }).writeControl n
  else h

/-- CONSUMER_POLL (R346). -/
def execConsumerPoll (stream consumer : Nat) (s : State) : Host.Outcome State Fault Refusal :=
  eventExec (stream < 4) (fun h =>
    let x := h.stream stream
    match x.cfg with
    | none => h
    | some c =>
      if x.state ≠ 1 then h
      else if consumer > x.producer || consumer < x.consumer then
        ((h.setStreamOf stream fun s => { s with state := 3, stopping := false, paused := false }).writeControl stream).post
          0x0B02 0 stream []
      else
        let before := x.producer
        let h := h.setStreamOf stream fun s => { (Stream.close stream s) with consumer }
        let h := Head.drainRing stream c (2 * (h.stream stream).staged.length + 1) h
        let h := if (h.stream stream).producer ≠ before then h.writeControl stream else h
        let h := if (h.stream stream).producer / max c.watermark 1 ≠ before / max c.watermark 1 then h.signal c.vector else h
        h.endStop stream) s

/-- GAP_PACKET (R347): as soon as the staging area has room the gap is closed by one packet, and its marks follow. -/
def execGapPacket (stream : Nat) (s : State) : Host.Outcome State Fault Refusal :=
  eventExec (stream < 4) (fun h =>
    let x := h.stream stream
    match x.cfg, x.gap with
    | some c, some (reason, index, time, lost) =>
      if x.state ≠ 1 || x.paused || x.stagedBytes + 64 * (1 + x.marks.length) > 1048576 then h
      else
        let period := h.samplePeriod c
        h.setStreamOf stream fun s =>
          let gap := packetBytes 3 stream index time period 0 reason (padTo 32 (pack [(8, lost), (4, s.lostTriggers)]))
          let marks := s.marks.map fun m => packetBytes 2 stream m.index m.time period 0 m.info m.payload
          { s with staged := s.staged ++ gap :: marks, gap := none, marks := [], lostTriggers := 0 }
    | _, _ => h) s

/-! ### Trigger units (R352-R357) -/

/-- TRIGGER_HOLDOFF_END: HOLDOFF_NS after the trigger instant (R352). -/
def execTriggerHoldoffEnd (unit : Nat) (s : State) : Host.Outcome State Fault Refusal :=
  eventExec (unit < 8) (fun h =>
    let x := h.unit unit
    if x.state = .holdoff && x.cfg.any (fun c => !c.byEvents && h.now * 256 ≥ x.lastTime + c.holdoff * 256) then
      h.endHoldoff unit
    else h) s

/-- Is a unit's oldest record complete? -/
def TrigUnit.complete? (x : TrigUnit) : Option (Record × List Record) := match x.records with
  | r :: rest => if r.left = 0 then some (r, rest) else none
  | [] => none

/-- Is a unit the one of the capture that runs? -/
def Head.capturing (h : Head) (u : Nat) : Bool := (h.acq.capture.map fun k => k.unit) = some u

/-- MEASUREMENT_DONE (R354): the MEASURE packet follows the record's last frame. -/
def execMeasurementDone (unit : Nat) (s : State) : Host.Outcome State Fault Refusal :=
  eventExec (unit < 8) (fun h =>
    let x := h.unit unit
    match x.cfg, x.complete? with
    | some c, some (r, rest) =>
      if h.capturing unit then h
      else
        let (block, h) := h.measure c r
        let h := h.setUnit unit fun x => { x with records := rest }
        let time := ((r.frames.find? fun f => f.index = r.index).map fun f => f.time).getD r.time
        if (h.stream c.stream).state ≠ 1 then h
        else
          let period := ((h.stream c.stream).cfg.map fun sc => h.samplePeriod sc).getD 0
          h.setStreamOf c.stream fun s =>
            (Stream.close c.stream s).stage (packetBytes 4 c.stream r.index (time / 256) period 0 0 block)
    | _, _ => h) s

/-- SEGMENT_DONE (R356, R357): the segment is stored, and the unit arms again or the capture ends. -/
def execSegmentDone (unit : Nat) (s : State) : Host.Outcome State Fault Refusal :=
  eventExec (unit < 8) (fun h =>
    let x := h.unit unit
    match x.cfg, x.complete?, h.acq.capture with
    | some c, some (r, rest), some k =>
      if k.unit ≠ unit then h
      else
        let (b, h) := h.segmentBytes unit c r false
        let h : Head := { h with acq := { h.acq with segments := h.acq.segments ++ [b] } }
        let above : Bool := if c.byEvents then x.ignore = 0 else h.now * 256 ≥ x.lastTime + c.holdoff * 256
        let h := h.setUnit unit fun x =>
          let x := { x with records := rest }
          if x.state = .holdoff && above then x.rearm else x
        if h.acq.segments.length ≥ k.segments then h.endCapture else h
    | _, _, _ => h) s

/-! ### Commands of block 0x0B (R359) -/

/-- A command of block 0x0B, taken in every role. -/
def acqCommand (opcode : Nat) (cls : Cls) (n : Nat) (state : Packet → Head → Bool) (param : Packet → Head → Bool)
    (refusals : Packet → Head → List (Bool × Nat)) (effect : Packet → Head → Effect) : Command :=
  { opcode, cls, len := lenIs n, stateOk := state, paramOk := param, refusals, effect }

/-- Results of one pass of an ADC source (R342, R370). -/
def Head.passResults (h : Head) (source : Nat) : Nat :=
  if source ≥ 4 then 1 else
    let a := h.acq.adcs.getD source {}
    (a.nextCfg.getD a.cfg).seq.length

/-- Bytes of a stream's frame (R344). -/
def Head.frameBytes (h : Head) (c : StreamCfg) : Nat :=
  if c.adc then (2 * h.passResults c.source + 3) / 4 * 4 else 8 + 4 * c.probes.length

/-- GET_STREAM. -/
def getStreamCmd : Command :=
  acqCommand 0x0B00 .observe 0 (fun _ h => h.fromCommission) (fun p _ => p.target < 4) (fun _ _ => []) fun p h =>
    let s := h.stream p.target
    let (kind, size) := match s.cfg with
      | none => (0xFF, 0)
      | some c => (flag c.adc 0, h.frameBytes c)
    { head := h
      reply := pack [(1, s.state), (1, kind), (2, size), (8, s.producer), (8, s.lost), (4, s.gaps), (4, s.stagedBytes)] }
def execGetStream (p : Packet) (s : State) : Host.Outcome State Fault Refusal := hostExec getStreamCmd p s

/-- A stream that runs, or that the capture samples, takes a probe. -/
def Head.probeBusy (h : Head) (probe : Nat) : Bool :=
  (List.range 4).any fun n => ((h.stream n).cfg.any fun c => !c.adc && c.probes.contains probe)
    && ((h.stream n).state = 1 || h.capturedStream = some n)

/-- SET_PROBE: the axis reference is that of the axis named (R108). -/
def setProbeCmd : Command :=
  { acqCommand 0x0B01 .configure 8 (fun _ h => h.inMode [.commission, .service, .safe])
      (fun p h => p.target < 64 && axisRefOk p false && pz p 7 1
        && (pu p 6 1 = 0 || (h.axis? (pu p 4 2)).any fun a => a.hasSignal (pu p 6 1)))
      (fun p h => [(pu p 6 1 ≠ 0 && (h.axis? (pu p 4 2)).any (fun a => epochStale p a), Status.epochStale),
        (h.probeBusy p.target, Status.busy)])
      (fun p h => { head := { h with acq := { h.acq with
        probes := setAt p.target (fun x => { x with axis := pu p 4 2, signal := pu p 6 1, valid := false }) h.acq.probes } } }) with
    epochAxis := fun p => pu p 4 2 }
def execSetProbe (p : Packet) (s : State) : Host.Outcome State Fault Refusal := hostExec setProbeCmd p s

/-- The stream that SET_STREAM sets. DEDUCED (log 56). -/
def streamSetting (p : Packet) : StreamCfg :=
  { adc := pu p 0 1 = 1, source := pu p 1 1, div := pu p 2 1 + 1, phase := pu p 3 1
    probes := (List.range 64).filter fun k => bit (pu p 4 8) k
    ringLog2 := pu p 12 1, vector := pu p 13 1, ringAddr := pu p 16 8, ctrlAddr := pu p 24 8, watermark := pu p 32 4 }

/-- Ring and control block aligned, WATERMARK in range (R345, SET_STREAM). -/
def StreamCfg.ringOk (c : StreamCfg) : Bool :=
  c.ringAddr % 2 ^ c.ringLog2 = 0 && c.ctrlAddr % 64 = 0 && 4096 ≤ c.watermark && c.watermark ≤ 2 ^ c.ringLog2
    && c.watermark % 4096 = 0

/-- A probe or source of the setting is already in another stream (R343). -/
def Head.sourceTaken (h : Head) (n : Nat) (c : StreamCfg) : Bool :=
  (List.range 4).any fun k => k ≠ n && (h.stream k).cfg.any fun x =>
    if c.adc then x.adc && x.source = c.source else !x.adc && c.probes.any fun p => x.probes.contains p

/-- SET_STREAM. -/
def setStreamCmd : Command :=
  acqCommand 0x0B02 .configure 40 (fun _ h => h.inMode [.commission, .service, .safe])
    (fun p _ => p.target < 4 && pu p 0 1 ≤ 1 && pz p 14 2 && pz p 36 4 && 16 ≤ pu p 12 1 && pu p 12 1 ≤ 30 && pu p 13 1 < 64
      && (if pu p 0 1 = 1 then pu p 1 1 ≤ 5 else pu p 1 1 = 0 && pu p 3 1 ≤ pu p 2 1 && pu p 4 8 ≠ 0))
    (fun p h => [(!(streamSetting p).ringOk, Status.ringInvalid), (h.sourceTaken p.target (streamSetting p), Status.streamSourceInUse),
      (h.capturedStream = some p.target, Status.captureRunning), ((h.stream p.target).state = 1, Status.busy)])
    fun p h => { head := h.setStreamOf p.target fun s => { s with cfg := some (streamSetting p) } }
def execSetStream (p : Packet) (s : State) : Host.Outcome State Fault Refusal := hostExec setStreamCmd p s

/-- STREAM_START and STREAM_STOP: a stream with a ring, in COMMISSION, SERVICE, RESCUE and SAFE. -/
def runStreamCommand (opcode : Nat) (busy : Stream → Bool) (effect : Nat → Head → Head) : Command :=
  acqCommand opcode .operate 0
    (fun p h => h.inMode [.commission, .service, .rescue, .safe] && (p.target ≥ 4 || (h.stream p.target).cfg.isSome))
    (fun p _ => p.target < 4)
    (fun p h => [(h.capturedStream = some p.target, Status.captureRunning), (busy (h.stream p.target), Status.busy)])
    fun p h => { head := effect p.target h }

/-- STREAM_START (R345, R347). -/
def streamStartCmd : Command :=
  runStreamCommand 0x0B03 (fun s => s.state = 1) fun n h =>
    (h.setStreamOf n fun s => { s with
      state := 1, producer := 0, consumer := 0, seq := 0, lost := 0, next := 0, frames := [], staged := [], gap := none, marks := []
      lostTriggers := 0, paused := false, stopping := false, recent := [] }).writeControl n
def execStreamStart (p : Packet) (s : State) : Host.Outcome State Fault Refusal := hostExec streamStartCmd p s

/-- STREAM_STOP: no further frame; STATE 0 once the staged packets have reached the ring. -/
def streamStopCmd : Command :=
  runStreamCommand 0x0B04 (fun _ => false) fun n h =>
    if (h.stream n).state ≠ 1 then h
    else (h.setStreamOf n fun s => { (Stream.close n s) with stopping := true }).endStop n
def execStreamStop (p : Packet) (s : State) : Host.Outcome State Fault Refusal := hostExec streamStopCmd p s

/-- The setting of SET_TRIG_UNIT. -/
def unitSetting (p : Packet) : UnitCfg :=
  let f := pu p 2 1
  { stream := pu p 0 1, source := pu p 1 1, slope := f % 4, repeatMode := bit f 2, byEvents := bit f 3, measure := bit f 4
    arg := pu p 3 1, level := ps p 4 4, hyst := pu p 8 4, holdoff := pu p 12 4, pre := pu p 16 2, post := pu p 18 2
    measChannel := pu p 20 1, measHyst := pu p 24 4 }

/-- Its ranges (Table 13-4, R350, R352, R354). -/
def UnitCfg.legal (c : UnitCfg) : Bool :=
  c.stream < 4 && c.source ≤ 4 && c.slope ≤ 2 && c.hyst < 2 ^ 31 && (!c.byEvents || c.holdoff ≤ 65535) && c.pre ≤ 4095 && 1 ≤ c.post
    && c.measChannel < 64 && c.measHyst < 2 ^ 31
    && (match c.source with
      | 1 => c.arg < 64
      | 2 => c.arg < 8
      | 3 => c.arg < 64
      | 4 => c.arg ≤ 4
      | _ => true)

/-- SET_TRIG_UNIT. -/
def setTrigUnitCmd : Command :=
  acqCommand 0x0B10 .operate 28 (fun _ h => h.fromCommission)
    (fun p _ => p.target < 8 && pu p 2 1 < 32 && pz p 21 3 && (unitSetting p).legal)
    (fun p h => [(h.capturing p.target, Status.captureRunning), ((h.unit p.target).state ≠ .idle, Status.busy)])
    fun p h => { head := h.setUnit p.target fun x => { x with
      cfg := some (unitSetting p), last := none, lastSample := none, records := [], ignore := 0 } }
def execSetTrigUnit (p : Packet) (s : State) : Host.Outcome State Fault Refusal := hostExec setTrigUnitCmd p s

/-- ARM_UNIT. -/
def armUnitCmd : Command :=
  acqCommand 0x0B11 .operate 4
    (fun p h => h.fromCommission && (p.target ≥ 8 || pu p 0 1 = 0
      || ((h.unit p.target).cfg.isSome && (h.unit p.target).state = .idle)))
    (fun p _ => p.target < 8 && pu p 0 1 ≤ 1 && pz p 1 3)
    (fun p h => [(h.capturing p.target, Status.captureRunning)])
    fun p h => { head := h.setUnit p.target fun x => if pu p 0 1 = 1 then x.rearm else { x with state := .idle, ignore := 0 } }
def execArmUnit (p : Packet) (s : State) : Host.Outcome State Fault Refusal := hostExec armUnitCmd p s

/-- FORCE_TRIGGER. -/
def forceTriggerCmd : Command :=
  acqCommand 0x0B12 .operate 0
    (fun p h => h.fromCommission && (p.target ≥ 8 || (h.unit p.target).cfg.any fun c => (h.stream c.stream).cfg.isSome))
    (fun p _ => p.target < 8) (fun _ _ => []) fun p h =>
      let (h, fired) := h.fireAt p.target (h.now * 256) true
      { head := h, reply := pack [(1, flag fired 0), (3, 0)] }
def execForceTrigger (p : Packet) (s : State) : Host.Outcome State Fault Refusal := hostExec forceTriggerCmd p s

/-- GET_TRIG_UNIT. -/
def getTrigUnitCmd : Command :=
  acqCommand 0x0B13 .observe 0 (fun _ h => h.fromCommission) (fun p _ => p.target < 8) (fun _ _ => []) fun p h =>
    let x := h.unit p.target
    { head := h
      reply := pack [(1, match x.state with | .idle => 0 | .arming => 1 | .armed => 2 | .holdoff => 3), (3, 0), (4, x.count),
        (4, x.suppressed), (8, x.lastTime / 256)] }
def execGetTrigUnit (p : Packet) (s : State) : Host.Outcome State Fault Refusal := hostExec getTrigUnitCmd p s

/-- The setting and stream of the unit that a capture names. -/
def captureOf (p : Packet) (h : Head) : Option (UnitCfg × StreamCfg) :=
  if p.target < 8 then (h.unit p.target).cfg.bind fun c => (h.stream c.stream).cfg.map fun s => (c, s) else none

/-- Bytes of one segment (R355). -/
def Head.segmentSize (h : Head) (c : UnitCfg) (s : StreamCfg) : Nat :=
  32 + ((c.pre + c.post) * h.frameBytes s + 31) / 32 * 32 + (if c.measure then 32 else 0)

/-- START_CAPTURE (R355). -/
def startCaptureCmd : Command :=
  acqCommand 0x0B20 .operate 4
    (fun p h => h.inMode [.commission, .safe] && (p.target ≥ 8 || (captureOf p h).isSome))
    (fun p _ => p.target < 8 && 1 ≤ pu p 0 2 && pu p 0 2 ≤ 4096 && pz p 2 2)
    (fun p h => [(h.acq.capture.isSome, Status.captureRunning),
      ((captureOf p h).any (fun x => h.segmentSize x.1 x.2 * pu p 0 2 > 4194304), Status.noCapacity),
      ((captureOf p h).any (fun x => (h.stream x.1.stream).state = 1) || (h.unit p.target).state ≠ .idle, Status.busy)])
    fun p h =>
      let h := h.setUnit p.target fun x => { x.rearm with records := [], lastSample := none }
      { head := { h with acq := { h.acq with
          segments := [], capture := some { unit := p.target, segments := pu p 0 2, seen := 0 } } }
        wait := some .captured }
def execStartCapture (p : Packet) (s : State) : Host.Outcome State Fault Refusal := hostExec startCaptureCmd p s

/-- ABORT_CAPTURE (R357). -/
def abortCaptureCmd : Command :=
  acqCommand 0x0B21 .operate 0 (fun _ h => h.fromCommission && h.acq.capture.isSome) (fun p _ => noTarget p) (fun _ _ => [])
    fun _ h => { head := h.endCapture }
def execAbortCapture (p : Packet) (s : State) : Host.Outcome State Fault Refusal := hostExec abortCaptureCmd p s

/-- READ_SEGMENT. -/
def readSegmentCmd : Command :=
  acqCommand 0x0B22 .observe 8
    (fun p h => h.fromCommission && (p.target ≥ 4096 || p.target < h.acq.segments.length))
    (fun p h => p.target < 4096 && pu p 0 4 % 32 = 0 && pz p 4 4 && pu p 0 4 < (h.acq.segments.getD p.target []).length)
    (fun _ _ => []) fun p h =>
      { head := h, reply := ((h.acq.segments.getD p.target []).drop (pu p 0 4)).take 4064 }
def execReadSegment (p : Packet) (s : State) : Host.Outcome State Fault Refusal := hostExec readSegmentCmd p s

end Sys2Proof.Machine
end

