-- ==== Sys2Proof/Machine/Adc.lean ====
section
/-! DEFINITION. General triggers that fire (R186, R187) and the analogue inputs they pace: passes, results, open wires,
calibration and the commands of block 0x0C (R360-R374). -/
namespace Sys2Proof.Machine

def Head.adc (h : Head) (n : Nat) : Adc := h.acq.adcs.getD n {}
def Head.setAdc (h : Head) (n : Nat) (f : Adc → Adc) : Head := { h with acq := { h.acq with adcs := setAt n f h.acq.adcs } }

/-- The latest setting of a converter, in force or waiting for the next firing (SET_ADC). -/
def Adc.want (a : Adc) : AdcCfg := a.nextCfg.getD a.cfg

/-- A converter is joined to its partner as the second of a pair (R370). -/
def Head.paired (h : Head) (n : Nat) : Bool := n % 2 = 1 && (h.adc (n - 1)).want.mode = 2

/-- Converters run in COMMISSION, SERVICE, RESCUE, SAFE and in IDLE at Shoulder and Col (R369). -/
def Head.adcPowered (h : Head) : Bool :=
  h.inMode [.commission, .service, .rescue, .safe] || (h.sys.mode = .idle && h.sys.depth ≤ 2)

/-! ### Codes (R360-R366) -/

/-- The code is a channel (Table 14-1). -/
def channelCode (c : Nat) : Bool := c < 0x30 || (0x40 ≤ c && c ≤ 0x50)
def isDiff (c : Nat) : Bool := 0x20 ≤ c && c < 0x30
def isTemperature (c : Nat) : Bool := c = 0x49 || c = 0x4A

/-- Shortest SAMPLE in 10 ns (Table 14-1). -/
def shortestSample (c : Nat) : Nat :=
  if c < 0x30 || c = 0x4F || c = 0x50 then 5 else if 0x4B ≤ c && c ≤ 0x4E then 20 else 50

/-- A code limited to its span. -/
def spanCode (c : Nat) (v : Int) : Int := if isDiff c then (clampTo (-32768) 32767 v).1 else (clampTo 0 65535 v).1

/-- Offset and gain corrections on a 16-bit code (R366); a temperature has its own trim (R362). -/
def correctCode (offset gain : Int) (c : Nat) (raw : Int) : Int :=
  if isTemperature c then spanCode c raw else spanCode c (roundDiv ((16 * raw - offset) * (2 ^ 23 + gain)) (2 ^ 27))

/-- A code truncated to a resolution, on the 16-bit scale (R365); a temperature stays at 16 bits (R362). -/
def truncated (res c : Nat) (code : Int) : Int :=
  let unit : Nat := if isTemperature c then 1 else 2 ^ (16 - res)
  code / unit * unit

/-- The 16-bit result of a code at a resolution and in a format (R362, R365). -/
def resultOf (cfg : AdcCfg) (c : Nat) (code : Int) : Nat :=
  let x := truncated cfg.res c code
  ofSigned 16 (if cfg.left || isTemperature c then x else x / (2 ^ (16 - cfg.res) : Nat))

/-- A result as a trigger unit takes it (R365). -/
def resultValue (c result : Nat) : Int := if isDiff c then toSigned 16 result else result

/-- CONV in ns (R364). -/
def convNs (res : Nat) : Nat := if res = 16 then 150 else if res = 14 then 130 else 110

/-! ### Open wires (R363) -/

def pullsUp (pull : Nat) : Bool := pull = 1 || pull = 3
def pullsDown (pull : Nat) : Bool := pull = 2 || pull = 4

/-- The input whose OW_COUNT and OW_MARGIN a channel takes: its own, for a differential one the positive input (log 18). -/
def wireInput (c : Nat) : Nat := if isDiff c then 2 * (c - 0x20) else c

/-- Is a channel's code that of an open wire?. DEDUCED (log 18). -/
def Head.looksOpen (h : Head) (c : Nat) (code : Int) : Bool :=
  let i (n : Nat) : AnalogInput := h.acq.inputs.getD n {}
  let a := i (wireInput c)
  if c < 0x20 then
    (pullsUp a.pull && code ≥ 65535 - a.owMargin) || (pullsDown a.pull && code ≤ a.owMargin)
  else if isDiff c then
    let b := i (wireInput c + 1)
    (pullsUp a.pull && pullsDown b.pull && code ≥ 32767 - a.owMargin)
      || (pullsDown a.pull && pullsUp b.pull && code ≤ -32768 + a.owMargin)
  else false

/-- One more result of a channel: the run of results that differ from OPEN_WIRE, and its clearing (R363).
DEDUCED (log 18). -/
def Head.checkWire (h : Head) (c : Nat) (code : Int) (l : Latest) : Latest :=
  if h.looksOpen c code = l.isOpen then { l with run := 0 }
  else
    let l := { l with run := satInc 255 l.run }
    if l.isOpen && l.run ≥ (h.acq.inputs.getD (wireInput c) {}).owCount then { l with isOpen := false, run := 0 } else l

/-- OPEN_WIRE: OW_COUNT open results in a row on a channel that reads the input. -/
def execOpenWire (input : Nat) (s : State) : Host.Outcome State Fault Refusal :=
  eventExec (input < 32) (fun h =>
    let due (l : Latest) : Bool := !l.isOpen && l.code < 0x30 && l.run ≥ (h.acq.inputs.getD (wireInput l.code) {}).owCount
      && (l.code = input || (isDiff l.code && l.code - 0x20 = input / 2))
    if h.acq.latest.any due then
      let latest := h.acq.latest.map fun l => if due l then { l with isOpen := true, run := 0 } else l
      let h : Head := { h with acq := { h.acq with latest } }
      (h.raise (srcAnalog input) 0).post 0x0C01 0 input []
    else h) s

/-! ### Firings and passes (R186, R187, R367, R370) -/

/-- A firing that starts no pass: counted, and reported at the first miss after 64 cycles without one (R367). -/
def Head.missFiring (h : Head) (n : Nat) : Head :=
  let a := h.adc n
  let report := a.missCycle.all fun c => h.time.cycle > c + 64
  let h := h.setAdc n fun a => { a with missed := satInc (2 ^ 32 - 1) a.missed, missCycle := some h.time.cycle }
  if report then (h.raise (srcAnalog (32 + n)) 1).post 0x0C02 0 n [] else h

/-- Start one converter's pass, under the latest setting (SET_ADC). -/
def Head.startPass (h : Head) (n t : Nat) : Head := h.setAdc n fun a =>
  { a with
    cfg := a.want, nextCfg := none, passes := if a.nextCfg.isSome then 0 else a.passes
    running := if a.want.mode = 0 then none else some t }

/-- A firing of the trigger of converter `n` at an instant in ns: a pass, or both passes of a pair, or a miss. -/
def Head.fireAdc (h : Head) (n t : Nat) : Head :=
  let a := h.adc n
  let pair := a.want.mode = 2
  if h.paired n || !h.adcPowered || (a.want.mode = 0 && a.cfg.mode = 0) then h
  else if a.calibrating || a.running.isSome || (pair && ((h.adc (n + 1)).running.isSome || (h.adc (n + 1)).calibrating)) then
    h.missFiring n
  else
    let h := h.startPass n t
    if pair then
      h.setAdc (n + 1) fun b => { b with
        cfg := { mode := 2, res := 16, left := a.want.left, seq := a.want.seq }, running := some (t + 100) }
    else h

/-- What a trigger's firing at a tick, in 2⁻³² ns, starts: passes, the units of source TIME, its TRIG_OUT balls
(R186, R349, R465). -/
def Head.triggerFires (h : Head) (k tick : Nat) : Head :=
  let t := tick / 2 ^ 32
  let h := (List.range 4).foldl (init := h) fun (h : Head) n =>
    if (h.adc n).trigger = 0x80 + k then h.fireAdc n t else h
  let h := h.fireUnits (fun (c : UnitCfg) => c.source = 2 && c.arg = k) (tick / 2 ^ 24)
  h.pulsePins k t

/-- A general trigger that waits fires, at the tick at or after its instant; a PERIOD trigger adds PERIOD, fraction included
(R186, R187). -/
def Head.fireTrigger (h : Head) (k : Nat) : Head := match (h.trigger k).next with
  | none => h
  | some next =>
    let tick := h.tickAt next
    let h := (h.atTick tick).setTrigger k fun g => { g with next := if g.mode = 2 then some (next + g.period) else none }
    h.triggerFires k tick

/-- GENERAL_TRIGGER_FIRE (R186, R187): a trigger whose tick lies in the running cycle, or has passed, fires.
DESIGN CHOICE (log 17). -/
def execGeneralTriggerFire (trigger : Nat) (s : State) : Host.Outcome State Fault Refusal :=
  eventExec (trigger < 8) (fun h =>
    let ahead (next : Nat) : Bool :=
      let t := h.tickAt next / 2 ^ 32
      h.now < t && h.time.cycleStart + h.cycleNs ≤ t
    if (h.trigger trigger).next.any ahead then h else h.fireTrigger trigger) s

/-- The streams that take the passes of a converter: its own, or its pair's (R342). -/
def takesPass (n : Nat) (pair : Bool) (c : StreamCfg) : Bool := c.adc && c.source = (if pair then 4 + n / 2 else n)

/-- A result becomes the latest of its channel; of two that are complete on one tick the higher converter's stays (R368). -/
def Head.keepResult (h : Head) (n : Nat) (cfg : AdcCfg) (c : Nat) (code : Int) (time : Nat) : Head :=
  let old := h.acq.latest.find? fun l => l.code = c
  let fresh : Latest := {
    code := c, result := resultOf cfg c code, raw := truncated cfg.res c code, adc := n, time, done := time + convNs cfg.res, isOpen := (old.map fun l => l.isOpen).getD false
    run := (old.map fun l => l.run).getD 0 }
  let checked := h.checkWire c code fresh
  let kept : Latest := match old with
    | some l => if h.tickAt (l.done * 65536) = h.tickAt (fresh.done * 65536) && l.adc > n then { l with isOpen := checked.isOpen, run := checked.run } else checked
    | none => checked
  { h with acq := { h.acq with latest := putKey (fun l => l.code) kept h.acq.latest } }

/-- The results of a pass: (channel, code, sample instant) in sequence order (R364, R366, R367). -/
def passCodes (offset gain : Int) (cfg : AdcCfg) (t : Nat) (samples : List Int) : List (Nat × Int × Nat) :=
  ((cfg.seq.zip samples).foldl (init := (t, ([] : List (Nat × Int × Nat)))) fun acc x =>
    let at_ := acc.1 + 10 * x.1.sample
    (at_ + convNs cfg.res, acc.2 ++ [(x.1.channel, correctCode offset gain x.1.channel x.2, at_)])).2

/-- A stream takes the frame of a pass, or loses it while it is paused; an interruption before it is a gap of its own with
reason 4 (R344, R348, R372, R374). DEDUCED (log 56). -/
def Head.passFrame (h : Head) (n : Nat) (c : StreamCfg) (s : Nat) (t256 : Nat) (xs : List (Nat × Nat)) (interrupted : Bool) : Head :=
  let index := (h.stream s).next
  let h := if interrupted && (h.stream s).state = 1 && (h.stream s).gap.isNone && !(h.stream s).paused then
      (h.setStreamOf s fun x => { (Stream.close s x) with
        gaps := satInc (2 ^ 32 - 1) x.gaps
        staged := (Stream.close s x).staged
          ++ [packetBytes 3 s index (t256 / 256) (h.samplePeriod c) 0 4 (List.replicate 32 0)] }).post 0x0B01 0 s []
    else h
  let bytes := xs.flatMap fun x => leBytes 2 x.2
  let fr : Frame := {
    index, time := t256, period := h.samplePeriod c, bytes := padTo ((bytes.length + 3) / 4 * 4) bytes
    values := xs.map fun x => some (resultValue x.1 x.2) }
  let h := if (h.stream s).paused then h.loseFrame s 3 index (t256 / 256)
    else if h.sampling s then h.takeFrame s fr
    else h
  if n < 4 then h.setStreamOf s fun x => { x with next := x.next + 1 } else h

/-- ADC_PASS_DONE: a pass completes with its uncorrected codes; a pass without them all is not one (R364-R371).
DESIGN CHOICE (log 89). -/
def execAdcPassDone (adc : Nat) (samples : List Int) (s : State) : Host.Outcome State Fault Refusal :=
  eventExec (adc < 4) (fun h =>
    let a := h.adc adc
    match a.running with
    | none => h
    | some t =>
      if samples.length ≠ a.cfg.seq.length then h
      else
        let pair := a.cfg.mode = 2
        let skew : Int := if pair && adc % 2 = 1 then roundDiv ((h.adc (adc - 1)).skew * 512) 1000 else 0
        let t256 := ((t * 256 : Nat) + skew).toNat
        let codes := passCodes a.offset a.gain a.cfg t samples
        let h := h.setAdc adc fun a => { a with
          running := none, passes := a.passes + 1, interrupted := false }
        let h := if pair && adc % 2 = 1 then h.setAdc (adc - 1) fun a => { a with passes := a.passes + 1 } else h
        let h := codes.foldl (init := h) fun (h : Head) x => h.keepResult adc a.cfg x.1 x.2.1 x.2.2
        (List.range 4).foldl (init := h) fun (h : Head) s => match (h.stream s).cfg with
          | none => h
          | some c =>
            if takesPass adc pair c then
              h.passFrame adc c s t256 (codes.map fun x => (x.1, resultOf a.cfg x.1 x.2.1)) a.interrupted
            else h) s

/-! ### Calibration (R372, R373) -/

/-- OFFSET, GAIN and SKEW as GET_ADC lays them out. -/
def Adc.words (a : Adc) : List Byte :=
  leInt 2 a.offset ++ leInt 3 a.gain ++ [0] ++ leInt 2 (if a.want.mode = 2 then a.skew else 0)

/-- ADC_CALIBRATION_DONE: the offset and gain found (R372); the die temperature then is a free value (log 3). -/
def execAdcCalibrationDone (adc : Nat) (offset gain : Int) (s : State) : Host.Outcome State Fault Refusal :=
  eventExec (adc < 4) (fun h =>
    if !(h.adc adc).calibrating then h
    else
      let (t, h) := h.drawInt
      let h := h.setAdc adc fun a => { a with
        offset := (clampTo (-32768) 32767 offset).1, gain := (clampTo (-524288) 524288 gain).1
        calTemp := toSigned 16 (ofSigned 16 t), calibrating := false, interrupted := true, dueposted := false }
      h.finish (.adcCalibrated adc) Status.ok (h.adc adc).words) s

/-- SKEW_CALIBRATION_DONE: SKEW set to the nearest step, or CAL_SIGNAL and SKEW unchanged (R373). -/
def execSkewCalibrationDone (pair : Nat) (ok : Bool) (skew : Int) (s : State) : Host.Outcome State Fault Refusal :=
  eventExec (pair < 2) (fun h =>
    let n := 2 * pair
    if !(h.adc n).skewing then h
    else
      let h := h.setAdc n fun a => { a with skewing := false, skew := if ok then (clampTo (-250) 250 skew).1 else a.skew }
      if ok then h.finish (.adcCalibrated n) Status.ok (h.adc n).words else h.finish (.adcCalibrated n) Status.calSignal) s

/-- ADC_CAL_DUE: the die has moved 20 °C since the last calibration (R372). -/
def execAdcCalDue (adc : Nat) (temperature : Int) (s : State) : Host.Outcome State Fault Refusal :=
  eventExec (adc < 4) (fun h =>
    let a := h.adc adc
    if h.fromCommission && !a.dueposted && (temperature - a.calTemp).natAbs ≥ 160 then
      let h := h.setAdc adc fun a => { a with dueposted := true }
      (h.raise (srcAnalog (32 + adc)) 2).post 0x0C03 0 adc []
    else h) s

/-! ### Commands of block 0x0C (R374) -/

/-- GET_ADC. -/
def getAdcCmd : Command :=
  acqCommand 0x0C00 .observe 0 (fun _ h => h.fromCommission) (fun p _ => p.target < 4) (fun _ _ => []) fun p h =>
    let a := h.adc p.target
    let c := a.want
    { head := h
      reply := pack [(1, if h.paired p.target then 3 else c.mode), (1, c.res), (1, flag c.left 0), (1, a.trigger), (4, a.missed),
        (8, a.passes)] ++ a.words ++ leInt 2 a.calTemp ++ [0, 0] }
def execGetAdc (p : Packet) (s : State) : Host.Outcome State Fault Refusal := hostExec getAdcCmd p s

/-- The setting of SET_ADC. -/
def adcSetting (p : Packet) : AdcCfg :=
  { mode := pu p 0 1, res := pu p 1 1, left := pu p 2 1 = 1
    seq := (List.range (pu p 3 1)).map fun j => { channel := pu p (4 + 4 * j) 1, sample := pu p (5 + 4 * j) 1 } }

/-- Its ranges (R364, R370). -/
def adcSettingOk (p : Packet) : Bool :=
  let c := adcSetting p
  c.mode ≤ 2 && (c.res = 12 || c.res = 14 || c.res = 16) && pu p 2 1 ≤ 1 && 1 ≤ c.seq.length && c.seq.length ≤ 16
    && c.seq.all (fun e => channelCode e.channel && shortestSample e.channel ≤ e.sample)
    && (List.range c.seq.length).all (fun j => pz p (6 + 4 * j) 2)
    && (c.mode ≠ 2 || (p.target % 2 = 0 && c.res = 16 && c.seq.length = 1 && c.seq.all fun e => e.channel < 0x30 && e.sample = 5))

/-- A converter feeds a stream, alone or in its pair. -/
def Head.feeds (h : Head) (n : Nat) (f : Stream → Bool) : Bool :=
  h.acq.streams.any fun s => f s && s.cfg.any fun c => c.adc && (c.source = n || c.source = 4 + n / 2)

/-- SET_ADC: in force from the next firing. -/
def setAdcCmd : Command :=
  { acqCommand 0x0C01 .configure 0
      (fun p h => h.inMode [.commission, .service]
        && (pu p 0 1 ≠ 2 || p.target % 2 = 1 || ((h.adc (p.target + 1)).want.mode = 0
          && !(h.acq.streams.any fun s => s.cfg.any fun c => c.adc && c.source = p.target + 1))))
      (fun p _ => p.target < 4 && adcSettingOk p)
      (fun p h => [(h.paired p.target, Status.pairActive), (h.feeds p.target (fun s => s.state = 1), Status.busy)])
      (fun p h => { head := h.setAdc p.target fun a => { a with nextCfg := some (adcSetting p), interrupted := true } }) with
    len := fun b => b.length ≥ 4 && b.length = 4 + 4 * field b 3 1 }
def execSetAdc (p : Packet) (s : State) : Host.Outcome State Fault Refusal := hostExec setAdcCmd p s

/-- SET_ADC_TRIGGER: turned off, passes stop. -/
def setAdcTriggerCmd : Command :=
  acqCommand 0x0C02 .operate 4 (fun _ h => h.fromCommission)
    (fun p _ => p.target < 4 && bits (pu p 0 1) 6 3 = 0 && pz p 1 3)
    (fun p h => [(h.paired p.target, Status.pairActive)])
    fun p h => { head := h.setAdc p.target fun a => { a with
      trigger := pu p 0 1, interrupted := a.interrupted || (bit a.trigger 7 && !bit (pu p 0 1) 7) } }
def execSetAdcTrigger (p : Packet) (s : State) : Host.Outcome State Fault Refusal := hostExec setAdcTriggerCmd p s

/-- SET_INPUT (R363). -/
def setInputCmd : Command :=
  acqCommand 0x0C03 .configure 4 (fun _ h => h.inMode [.commission, .service])
    (fun p _ => p.target < 32 && pu p 0 1 ≤ 4 && 1 ≤ pu p 1 1 && pu p 2 2 ≤ 32767) (fun _ _ => [])
    fun p h => { head := { h with acq := { h.acq with
      inputs := setAt p.target (fun _ => { pull := pu p 0 1, owCount := pu p 1 1, owMargin := pu p 2 2 }) h.acq.inputs } } }
def execSetInput (p : Packet) (s : State) : Host.Outcome State Fault Refusal := hostExec setInputCmd p s

/-- READ_CHANNEL (R368): what its fields hold before any result exists is not stated (log 3). DEDUCED (log 59). -/
def readChannelCmd : Command :=
  acqCommand 0x0C04 .observe 0 (fun _ h => h.fromCommission) (fun p _ => channelCode p.target) (fun _ _ => []) fun p h =>
    let signed := flag (isDiff p.target) 2
    match h.acq.latest.find? fun l => l.code = p.target with
    | some l => { head := h, reply := pack [(2, l.result), (1, 1 + flag l.isOpen 1 + signed), (1, l.adc), (8, l.time)] }
    | none =>
      let (b, h) := h.drawBytes 12
      { head := h, reply := padTo 2 b ++ leBytes 1 signed ++ padTo 9 (b.drop 3) }
def execReadChannel (p : Packet) (s : State) : Host.Outcome State Fault Refusal := hostExec readChannelCmd p s

/-- CALIBRATE_ADC (R372, R373). -/
def calibrateAdcCmd : Command :=
  acqCommand 0x0C05 .operate 4
    (fun p h => h.inMode [.commission, .service, .safe] && (pu p 0 1 ≠ 1 || p.target % 2 = 1 || (h.adc p.target).want.mode = 2))
    (fun p _ => p.target < 4 && pu p 0 1 ≤ 1 && (pu p 0 1 = 0 || p.target % 2 = 0) && pz p 1 3)
    (fun p h => [(h.paired p.target, Status.pairActive), ((h.adc p.target).calibrating || (h.adc p.target).skewing, Status.busy)])
    fun p h =>
      { head := h.setAdc p.target fun a =>
          if pu p 0 1 = 0 then { a with calibrating := true, interrupted := true } else { a with skewing := true }
        wait := some (.adcCalibrated p.target) }
def execCalibrateAdc (p : Packet) (s : State) : Host.Outcome State Fault Refusal := hostExec calibrateAdcCmd p s

end Sys2Proof.Machine
end

