-- ==== Sys2Proof/Machine/Queues.lean ====
section
/-! DEFINITION. Host queues: slots and packets (R76, R77), flushes (R95), enabling and disabling (R75), doorbells, the
completion ring (R79, R80), fences (R90) and deferred groups (R91-R94), and the queue commands of block 0x02 (R96). -/
namespace Sys2Proof.Machine

/-! ### Slots and packets -/

/-- Slots of a packet of `n` bytes (Table 03-6). -/
def slotsFor (n : Nat) : Nat := (n + 59) / 60

/-- Slots a packet takes in a submission queue: header, parameters, MAC. -/
def packetSlots (flags length : Nat) : Nat := slotsFor (16 + length + (if hasMac flags then 16 else 0))

/-- The queue's depth in slots (Table 03-4). -/
def Queue.sqDepth (q : Queue) : Nat := 2 ^ q.sqDepthLog2
def Queue.cqDepth (q : Queue) : Nat := 2 ^ q.cqDepthLog2

/-- A slot header's fields (Table 03-6). -/
structure SlotHeader where
  start : Bool
  last  : Bool
  /-- a reserved bit is 1 (bit 3, bits 31:15) -/
  rsv   : Bool
  fgen  : Nat
  cont  : Nat

def slotHeader (slot : List Byte) : SlotHeader :=
  let w := field slot 0 4
  { start := bit w 0, last := bit w 1, rsv := bit w 3 || bits w 31 15 ≠ 0, fgen := bits w 7 4, cont := bits w 14 8 }

/-- A packet header read from the bytes of a packet (Table 03-7): its opcode and the packet, of queue `q`. -/
def readPacket (q : Nat) (bs : List Byte) : Nat × Packet :=
  let flags := field bs 10 1
  let length := field bs 2 2
  (field bs 0 2, { queue := q, tag := field bs 4 4, target := field bs 8 2, flags, session := field bs 11 1,
                   sequence := field bs 12 4, length
                   body := (bs.drop 16).take (length + (if hasMac flags then 16 else 0)) })

/-- The first condition of R77 that makes a slot malformed; `before` is the CONT of the slot before it in its packet. -/
def slotFault (fgen : Nat) (before : Option Nat) (slot : List Byte) : Option Nat :=
  let s := slotHeader slot
  let first := before.isNone
  if first && !s.start then some 1
  else if !first && s.start then some 2
  else if before.any fun b => s.cont + 1 ≠ b then some 3
  else if (s.last && s.cont ≠ 0) || (!s.last && s.cont = 0) then some 4
  else if s.fgen ≠ fgen then some 5
  else if s.rsv then some 6
  else if first && s.cont + 1 ≠ packetSlots (field slot 14 1) (field slot 6 2) then some 7
  else none

/-- What stands at the front of the published slots (R77). -/
inductive Front where
  /-- not all of the packet's slots are published -/
  | partly
  /-- the slot at this offset is malformed, with the condition of R77 -/
  | malformed (offset reason : Nat)
  /-- a whole packet of `n` slots and its bytes -/
  | whole (n : Nat) (bytes : List Byte)

/-- Read slots from the front until a packet ends: `k` slots and `acc` bytes so far. DEDUCED (log 77). -/
def readFront (fgen : Nat) : Option Nat → Nat → List Byte → List (List Byte) → Front
  | _, _, _, [] => .partly
  | before, k, acc, slot :: rest =>
    match slotFault fgen before slot with
    | some r => .malformed k r
    | none =>
      let acc := acc ++ (slot.drop 4).take 60
      let s := slotHeader slot
      if s.last then .whole (k + 1) acc else readFront fgen (some s.cont) (k + 1) acc rest

/-- A slot at which skipping ends: START, the current FGEN, and ITEM_START in the packet header (R77). -/
def skipEnds (fgen : Nat) (slot : List Byte) : Bool :=
  let s := slotHeader slot
  s.start && s.fgen = fgen && bit (field slot 14 1) 0

/-- Slots passed over in the search. -/
def skipCount (fgen : Nat) (slots : List (List Byte)) : Nat := (slots.takeWhile fun s => !skipEnds fgen s).length

/-- Slots that the kept packets of an open chain took. -/
def chainSlots : Option (Nat × Packet) → Nat
  | none => 0
  | some (_, p) => packetSlots p.flags p.length + sumNat (p.rest.map fun c => packetSlots c.flags c.length)

/-- A further packet of a chain. -/
def packetPart (p : Packet) : ChainPart :=
  { flags := p.flags, session := p.session, sequence := p.sequence, length := p.length, tag := p.tag
    target := p.target, body := p.body }

/-- Consume slots from the front without executing them (R77). -/
def Queue.skip (q : Queue) (n extra : Nat) : Queue :=
  { q with slots := q.slots.drop n, sqHead := (q.sqHead + n) % q.sqDepth
           skipped := min (2 ^ 32 - 1) (q.skipped + n + extra)
           skippedTotal := min (2 ^ 32 - 1) (q.skippedTotal + n + extra) }

/-- Take a packet's slots. -/
def Queue.consume (q : Queue) (n : Nat) : Queue :=
  { q with slots := q.slots.drop n, sqHead := (q.sqHead + n) % q.sqDepth }

/-- Pass over slots while the queue skips; skipping ends at a slot that starts an item. -/
def Queue.search (q : Queue) : Queue :=
  if q.skipping then
    let q := q.skip (skipCount q.fgen q.slots) 0
    if q.slots.isEmpty then q else { q with skipping := false }
  else q

/-- A malformed slot: the packet and its item are discarded, SLOT_ERROR, then the search (R77). -/
def Head.slotError (h : Head) (q offset reason : Nat) : Head :=
  let x := h.queue q
  let index := (x.sqHead + offset) % x.sqDepth
  let h := h.setQueue q fun x =>
    { x.skip (offset + 1) (chainSlots x.chain) with slotError := true, skipping := true, chain := none }
  (h.post 0x0211 1 q [(2, index), (1, reason)]).setQueue q Queue.search

/-! ### Flush (R95) -/

/-- What a flush finds among the published slots. -/
structure Flushed where
  /-- items fully published, with their opcodes, oldest first -/
  items     : List (Nat × Packet) := []
  discarded : Nat := 0
  skipped   : Nat := 0

/-- Walk the published slots of a queue that is flushed: its chain, whether it skips, and its slots. -/
def flushWalk (queue fgen : Nat) : Nat → Option (Nat × Packet) → Bool → List (List Byte) → Flushed → Flushed
  | 0, _, _, _, f => f
  | fuel + 1, chain, skipping, slots, f =>
    match slots with
    | [] => { f with discarded := f.discarded + chainSlots chain }
    | slot :: rest =>
      if skipping && !skipEnds fgen slot then
        flushWalk queue fgen fuel chain true rest { f with skipped := f.skipped + 1 }
      else match readFront fgen none 0 [] slots with
        | .partly => { f with discarded := f.discarded + slots.length + chainSlots chain }
        | .malformed k _ =>
          flushWalk queue fgen fuel none true (slots.drop (k + 1)) { f with skipped := f.skipped + k + 1 + chainSlots chain }
        | .whole n bytes =>
          let (op, p) := readPacket queue bytes
          let more := bit p.flags 4
          match chain with
          | none =>
            if more && bit p.flags 0 then flushWalk queue fgen fuel (some (op, p)) false (slots.drop n) f
            else flushWalk queue fgen fuel none false (slots.drop n) { f with items := f.items ++ [(op, p)] }
          | some (cop, c) =>
            if bit p.flags 0 then
              flushWalk queue fgen fuel none false slots { f with items := f.items ++ [(cop, c)] }
            else if more then
              flushWalk queue fgen fuel (some (cop, { c with rest := c.rest ++ [packetPart p] })) false (slots.drop n) f
            else flushWalk queue fgen fuel none false (slots.drop n) { f with items := f.items ++ [(cop, { c with rest := c.rest ++ [packetPart p] })] }

/-- Give every item of a queue's deferred group, and its fence, this final status; the group is gone, and its items still to
be taken get the status as they are (R93-R95). -/
def Queue.endGroup (q : Queue) (status : Nat) : Queue :=
  { q with
    group := none
    lateItems := (q.group.map fun g => g.remaining).getD q.lateItems
    lateStatus := if q.group.isSome then status else q.lateStatus
    async := q.async.map fun i => if i.await = .group ∧ i.final = none then { i with final := some (status, []) } else i }

/-- Flush a queue: the counts and the event of R95.  `cause` and `carrier` as Table 03-13. DEDUCED (log 40). -/
def Head.flushQueue (h : Head) (q cause carrier : Nat) : Head × Nat × Nat × Nat :=
  let x := h.queue q
  let grouped := (x.async.filter fun i => i.await = .group && i.final = none).length
  let (h, items, discarded, fgen) :=
    if x.ethernet then
      let waiting := (h.ethQueue q).waiting
      let h := waiting.foldl (init := h) fun (h : Head) (d : Datagram) =>
        let (op, p) := readPacket q d.bytes
        let h := h.setEthQueue q fun e => { e with ways := (p.tag, p.sequence, d.port, d.srcAddr, d.srcPort) :: e.ways }
        h.reply q { echo := echoOf p op (h.validMac op p), asyncDone := false, status := Status.queueFlushed, params := [] }
      let h := h.setEthQueue q fun e => { e with waiting := [], highest := none, kept := [] }
      (h, waiting.length + grouped, 0, 0)
    else
      let f := flushWalk q x.fgen (2 * x.slots.length + 2) x.chain x.skipping x.slots {}
      let fgen := (x.fgen + 1) % 16
      let h := f.items.foldl (init := h) fun (h : Head) (op, p) =>
        h.reply q { echo := echoOf p op (h.validMac op p), asyncDone := false, status := Status.queueFlushed, params := [] }
      let h := h.setQueue q fun x =>
        { x with slots := [], sqHead := x.sqTail, fgen, skipping := true, chain := none
                 skipped := min (2 ^ 32 - 1) (x.skipped + f.skipped)
                 skippedTotal := min (2 ^ 32 - 1) (x.skippedTotal + f.skipped) }
      (h, f.items.length + grouped, f.discarded, fgen)
  let h := h.setQueue q fun x => { x.endGroup Status.queueFlushed with lateItems := 0 }
  let h := h.post 0x0210 1 q [(2, items), (2, discarded), (1, fgen), (1, cause), (1, carrier)]
  (h, items, discarded, fgen)

/-! ### Enabling and disabling (R75) -/

/-- ENABLE goes from 0 to 1. -/
def Head.enableQueue (h : Head) (q : Nat) : Head :=
  if (h.queue q).enabled then h
  else
    let h := h.setQueue q fun x =>
      { x with enabled := true, sqHead := 0, sqTail := 0, cqHead := 0, cqTail := 0, fgen := 0, phase := true
               skipping := false, skippedTotal := 0, slots := [], chain := none, replies := [], group := none, lateItems := 0 }
    h.setEthQueue q fun e => { e with highest := none, kept := [], waiting := [], ways := [] }

/-- ENABLE goes from 1 to 0: a flush, its replies and the final replies of started items discarded. -/
def Head.disableQueue (h : Head) (q : Nat) : Head :=
  if !(h.queue q).enabled then h
  else
    let h := h.setQueue q fun x => { x with enabled := false }
    let h := (h.flushQueue q 2 0xFF).1
    let h := h.setQueue q fun x => { x with replies := [], async := x.async.map fun i => { i with discard := true } }
    h.setEthQueue q fun e => { e with waiting := [], ways := [] }

/-- ENABLE of the event queue goes from 0 to 1: EVENTS_LOST is the first entry (R75, R88). -/
def Head.enableEvents (h : Head) : Head :=
  if h.evq.enabled then h
  else Head.flushLost { h with evq := { h.evq with enabled := true, head := 0, tail := 0, phase := true } }

/-- ENABLE of the event queue goes to 0. -/
def Head.disableEvents (h : Head) : Head := { h with evq := { h.evq with enabled := false } }

/-! ### Doorbells and register rows -/

/-- A write of SQ_TAIL (R76), with the slots that the host wrote between the last tail and this one; what the operand
leaves out of them reads 0. DESIGN CHOICE (log 38). -/
def Head.writeTail (h : Head) (q index : Nat) (slots : List (List Byte)) : Head :=
  h.setQueue q fun x =>
    if index ≥ x.sqDepth then { x with indexError := true }
    else if !x.enabled || x.ethernet then { x with sqTail := index }
    else
      let n := (index + x.sqDepth - x.sqHead) % x.sqDepth
      let all := x.slots ++ slots.map (padTo 64)
      { x with sqTail := index, slots := (all ++ List.replicate (n - all.length) (List.replicate 64 0)).take n }

/-- A write of CQ_HEAD (R76, R80). -/
def Head.writeCqHead (h : Head) (q index : Nat) : Head :=
  h.setQueue q fun x => if index ≥ x.cqDepth then { x with indexError := true } else { x with cqHead := index }

/-- A write of SQ_FLUSH (R95). -/
def Head.writeFlush (h : Head) (q value : Nat) : Head :=
  if bit value 0 && (h.queue q).enabled then (h.flushQueue q 1 0xFF).1 else h

/-- A write of EQ_HEAD: space may return (R88). -/
def Head.writeEqHead (h : Head) (index : Nat) : Head :=
  Head.flushLost { h with evq := { h.evq with head := index % 4096 } }

/-- A read of SQ_SKIPPED returns and clears it (R11). -/
def Head.readSkipped (h : Head) (q : Nat) : Head :=
  (h.emit (.readData (h.queue q).skipped)).setQueue q fun x => { x with skipped := 0 }

/-- A read of EQ_DROPPED returns and clears it (R11). -/
def Head.readDropped (h : Head) : Head :=
  let h := h.emit (.readData h.evq.dropped)
  { h with evq := { h.evq with dropped := 0 } }

/-- BAR0 answers only while the part runs: in OFF and RESET there is no link (R38). -/
def Head.bar0 (h : Head) (f : Head → Head) : Head := if h.fromBoot then f h else h

/-- SQ_TAIL_WRITE (R76). -/
def execSqTailWrite (q index : Nat) (slots : List (List Byte)) (s : State) : Host.Outcome State Fault Refusal :=
  eventExec (q < 8 && index < 4096) (fun h => h.bar0 fun h => h.writeTail q index slots) s
/-- CQ_HEAD_WRITE (R76, R80). -/
def execCqHeadWrite (q index : Nat) (s : State) : Host.Outcome State Fault Refusal :=
  eventExec (q < 8 && index < 4096) (fun h => h.bar0 fun h => h.writeCqHead q index) s
/-- SQ_FLUSH_WRITE (R95). -/
def execSqFlushWrite (q value : Nat) (s : State) : Host.Outcome State Fault Refusal :=
  eventExec (q < 8) (fun h => h.bar0 fun h => h.writeFlush q value) s
/-- QUEUE_ENABLE: ENABLE of SQ_CFG written 1 (R75). -/
def execQueueEnable (q : Nat) (s : State) : Host.Outcome State Fault Refusal :=
  eventExec (q < 8) (fun h => h.bar0 fun h => h.enableQueue q) s
/-- QUEUE_DISABLE: ENABLE of SQ_CFG written 0 (R75). -/
def execQueueDisable (q : Nat) (s : State) : Host.Outcome State Fault Refusal :=
  eventExec (q < 8) (fun h => h.bar0 fun h => h.disableQueue q) s
/-- EQ_ENABLE (R75, R88). -/
def execEqEnable (s : State) : Host.Outcome State Fault Refusal := eventExec true (fun h => h.bar0 Head.enableEvents) s
/-- EQ_DISABLE (R75). -/
def execEqDisable (s : State) : Host.Outcome State Fault Refusal := eventExec true (fun h => h.bar0 Head.disableEvents) s
/-- EQ_HEAD_WRITE (R88). -/
def execEqHeadWrite (index : Nat) (s : State) : Host.Outcome State Fault Refusal :=
  eventExec (index < 4096) (fun h => h.bar0 fun h => h.writeEqHead index) s
/-- SQ_SKIPPED_READ (R11, R12). -/
def execSqSkippedRead (q : Nat) (s : State) : Host.Outcome State Fault Refusal :=
  eventExec (q < 8) (fun h => h.bar0 fun h => h.readSkipped q) s
/-- EQ_DROPPED_READ (R11, R12). -/
def execEqDroppedRead (s : State) : Host.Outcome State Fault Refusal := eventExec true (fun h => h.bar0 Head.readDropped) s

/-! ### Completions -/

/-- One reply as completion slots (Table 03-6): the bytes in 60-byte pieces with their slot headers. -/
def replySlots (fgen : Nat) (bytes : List Byte) : List (Bool → List Byte) :=
  let n := slotsFor bytes.length
  (List.range n).map fun i => fun phase =>
    leBytes 4 (flag (i = 0) 0 + flag (i + 1 = n) 1 + flag phase 2 + fgen % 16 * 16 + (n - 1 - i) * 256)
      ++ padTo 60 ((bytes.drop (60 * i)).take 60)

/-- Write slots at CQ_TAIL, the phase inverting at each wrap to 0 (R79). -/
def writeSlots (q : Nat) : List (Bool → List Byte) → Head → Head
  | [], h => h
  | f :: rest, h =>
    let x := h.queue q
    let h := h.emit (.completionSlot q x.cqTail (f x.phase))
    let t := (x.cqTail + 1) % x.cqDepth
    writeSlots q rest (h.setQueue q fun x => { x with cqTail := t, phase := if t = 0 then !x.phase else x.phase })

/-- Free completion slots. -/
def Queue.cqFree (q : Queue) : Nat := q.cqDepth - 1 - (q.cqTail + q.cqDepth - q.cqHead) % q.cqDepth

/-- COMPLETION_WRITE: the oldest waiting reply, when all of its slots are free; one NO_CAPACITY slot in place of a reply
that the ring can never hold; the vector after it (R79). -/
def Head.writeCompletion (h : Head) (q : Nat) : Head :=
  let x := h.queue q
  match x.replies with
  | [] => h
  | r :: rest =>
    let fits := slotsFor (h.replyBytes r).length ≤ x.cqDepth - 1
    let r := if fits then r else { r with status := Status.noCapacity, params := [] }
    let slots := replySlots x.fgen (h.replyBytes r)
    if !x.enabled || x.ethernet || slots.length > x.cqFree then h
    else (writeSlots q slots (h.setQueue q fun x => { x with replies := rest })).signal x.vector

/-- COMPLETION_WRITE (R79, R84). -/
def execCompletionWrite (q : Nat) (s : State) : Host.Outcome State Fault Refusal :=
  eventExec (q < 8) (fun h => h.writeCompletion q) s

/-- Take the first element that satisfies a test out of a list. -/
def takeFirst {α : Type} (p : α → Bool) : List α → Option (α × List α)
  | [] => none
  | x :: xs => if p x then some (x, xs) else (takeFirst p xs).map fun (y, ys) => (y, x :: ys)

/-- The fence that opened a deferred group. -/
def AsyncItem.groupFence (i : AsyncItem) : Bool := i.echo.opcode = 0x0202 || i.echo.opcode = 0x0203

/-- The next started item of a queue whose final status has come: a group's fence after its items (R94). -/
def Queue.takeFinal (q : Queue) : Option (AsyncItem × List AsyncItem) :=
  (takeFirst (fun (i : AsyncItem) => i.final.isSome && !i.groupFence) q.async).orElse fun _ =>
    takeFirst (fun (i : AsyncItem) => i.final.isSome) q.async

/-- ASYNC_DONE: one started item of the queue has its final status; its one final reply (R84, R85), or the item's only
reply when none was given before. -/
def Head.asyncDone (h : Head) (q : Nat) : Head :=
  match (h.queue q).takeFinal with
  | none => h
  | some (i, rest) =>
    let h := h.setQueue q fun x => { x with async := rest }
    match i.final with
    | some (status, params) =>
      let r : Reply := { echo := i.echo, asyncDone := !i.owed, status, params }
      if i.discard then h else h.reply q r
    | none => h

/-- ASYNC_DONE (R85). -/
def execAsyncDone (q : Nat) (s : State) : Host.Outcome State Fault Refusal :=
  eventExec (q < 8) (fun h => h.asyncDone q) s

/-! ### Fences and groups -/

/-- A fence's TIMEOUT, unless 0, has run out (R90). -/
def Head.fenceOver (h : Head) (f : Fence) : Bool := f.timeout ≠ 0 && f.since + f.timeout * 1000 ≤ h.now

/-- FENCE_TIMEOUT: the oldest fence's TIMEOUT runs out first: TIMEOUT, no FENCE_MARK, the queues released (R90).  A fence
that waits behind another counts from the moment it was taken. -/
def Head.fenceTimeout (h : Head) : Head :=
  match h.fences with
  | [] => h
  | f :: rest =>
    if !h.fenceOver f then h
    else { h with
      fences := rest
      queues := setAt f.queue (fun (x : Queue) => { x with async := x.async.map fun i =>
        if i.await = .fence ∧ i.echo = f.echo ∧ i.final = none then { i with final := some (Status.timeout, []) } else i })
        h.queues }

/-- FENCE_TIMEOUT (R90). -/
def execFenceTimeout (s : State) : Host.Outcome State Fault Refusal := eventExec true Head.fenceTimeout s

/-- GROUP_ABANDONED: the last item has not been taken by the start of the cycle before the effect instant (R93). -/
def Head.abandonGroup (h : Head) (q : Nat) : Head :=
  match (h.queue q).group with
  | none => h
  | some g =>
    let due := if g.byTime then h.time.cycleStart + 2 * h.cycleNs > g.time else h.time.cycle + 1 ≥ g.cycle
    if g.remaining > 0 && due then
      h.setQueue q fun x => x.endGroup Status.fenceLate
    else h

/-- GROUP_ABANDONED (R93). -/
def execGroupAbandoned (q : Nat) (s : State) : Host.Outcome State Fault Refusal :=
  eventExec (q < 8) (fun h => h.abandonGroup q) s

/-- A head that stops being active or solo completes every pending group with NOT_ACTIVE (R94). -/
def Head.dropGroups (h : Head) : Head :=
  { h with queues := h.queues.map fun x => if x.group.isSome then x.endGroup Status.notActive else x }

/-! ### Commands of block 0x02 (R96) -/

/-- The queue's SQ_STATUS (Table 03-5). DEDUCED (log 40). -/
def Queue.status (q : Queue) : Nat :=
  flag q.enabled 0 + flag q.skipping 1 + flag q.group.isSome 2 + flag q.slotError 3 + q.fgen % 16 * 16
    + min q.pendingAsync 64 * 256 + flag q.indexError 15

/-- A command of block 0x02: every mode from BOOT on, every depth, every role (R96). -/
def queueCommand (opcode : Nat) (cls : Cls) (n : Nat) (param : Packet → Head → Bool)
    (refusals : Packet → Head → List (Bool × Nat)) (effect : Packet → Head → Effect) : Command :=
  { opcode, cls, len := lenIs n, stateOk := fun _ h => h.fromBoot, paramOk := fun p h => noTarget p && param p h
    refusals, effect }

/-- Is a fence or flush inside a deferred group (R91)? -/
def insideGroup (p : Packet) (h : Head) : Bool := (h.queue p.queue).group.isSome

/-- GET_QUEUE_STATUS. -/
def getQueueStatusCmd : Command :=
  queueCommand 0x0200 .observe 4 (fun p _ => pu p 0 1 < 8 && pz p 1 3) (fun _ _ => []) fun p h =>
    let q := h.queue (pu p 0 1)
    { head := h, reply := pack [(4, q.status), (2, q.sqHead), (2, q.sqTail), (4, q.skippedTotal), (4, q.stale)] }
def execGetQueueStatus (p : Packet) (s : State) : Host.Outcome State Fault Refusal := hostExec getQueueStatusCmd p s

/-- FENCE_QUEUES (R90): the reply is owed until every started item has its final status. -/
def fenceQueuesCmd : Command :=
  queueCommand 0x0201 .operate 4 (fun p _ => pu p 0 4 ≤ 10000000) (fun p h => [(insideGroup p h, Status.groupOpen)])
    fun p h =>
      { head := { h with fences := h.fences ++ [{ queue := p.queue, echo := echoOf p 0x0201, timeout := pu p 0 4, since := h.now }] }
        wait := some .fence, owed := true }
def execFenceQueues (p : Packet) (s : State) : Host.Outcome State Fault Refusal := hostExec fenceQueuesCmd p s

/-- A fence that opens a deferred group (R91-R93). -/
def groupFence (opcode n count : Nat) (rsv : Packet → Bool) (early late : Packet → Head → Bool)
    (group : Packet → Nat → Group) : Command :=
  { queueCommand opcode .operate n
      (fun p h => 1 ≤ pu p count 1 && pu p count 1 ≤ 64 && rsv p && !late p h)
      (fun p h => [(early p h, Status.fenceLate), (insideGroup p h, Status.groupOpen)])
      (fun p h => { head := h.setQueue p.queue fun q => { q with group := some (group p (pu p count 1)) }
                    wait := some .group }) with
    onRefuse := fun status p h =>
      if status = Status.fenceLate && !insideGroup p h then h.setQueue p.queue fun q => { q with lateItems := pu p count 1, lateStatus := Status.fenceLate } else h }

/-- FENCE_CYCLE: 2 to 16,777,215 cycles ahead (R93). -/
def fenceCycleCmd : Command :=
  groupFence 0x0202 8 6 (fun p => pz p 7 1) (fun p h => pu p 0 6 < h.time.cycle + 2)
    (fun p h => pu p 0 6 > h.time.cycle + 16777215)
    fun p n => { byTime := false, cycle := pu p 0 6, time := 0, remaining := n, fence := echoOf p 0x0202, items := [] }
def execFenceCycle (p : Packet) (s : State) : Host.Outcome State Fault Refusal := hostExec fenceCycleCmd p s

/-- FENCE_TIME: 2 cycles to 3,600 s ahead (R93). -/
def fenceTimeCmd : Command :=
  groupFence 0x0203 12 8 (fun p => pz p 9 3) (fun p h => pu p 0 8 < h.time.cycleStart + 2 * h.cycleNs)
    (fun p h => pu p 0 8 > h.time.cycleStart + 3600000000000)
    fun p n => { byTime := true, cycle := 0, time := pu p 0 8, remaining := n, fence := echoOf p 0x0203, items := [] }
def execFenceTime (p : Packet) (s : State) : Host.Outcome State Fault Refusal := hostExec fenceTimeCmd p s

/-- FLUSH_QUEUE (R95). -/
def flushQueueCmd : Command :=
  { queueCommand 0x0210 .operate 4 (fun p _ => pu p 0 1 < 8 && pz p 1 3)
      (fun p h => [(pu p 0 1 = p.queue, Status.sameQueue), (insideGroup p h, Status.groupOpen)])
      (fun p h =>
        let (h, items, discarded, fgen) := h.flushQueue (pu p 0 1) 0 p.queue
        { head := h, reply := pack [(2, items), (2, discarded), (1, fgen), (3, 0)] }) with
    stateOk := fun p h => h.fromBoot && (pu p 0 1 ≥ 8 || (h.queue (pu p 0 1)).enabled) }
def execFlushQueue (p : Packet) (s : State) : Host.Outcome State Fault Refusal := hostExec flushQueueCmd p s

/-- Send the staged entries as one datagram of at most 32 (R89). -/
def Head.sendEvents (h : Head) (count : Nat) : Head :=
  let batch := h.evq.staged.take count
  if batch.isEmpty then h
  else
    let port := h.evq.route - 1
    ({ h with evq := { h.evq with staged := h.evq.staged.drop count } }).sendUdp port h.sys.udpBase h.evq.destAddr
      h.evq.destPort batch.flatten

/-- Send every staged entry, 32 to a datagram. DEDUCED (log 41). -/
def sendAllEvents : Nat → Head → Head
  | 0, h => h
  | k + 1, h => sendAllEvents k (h.sendEvents 32)

/-- SET_EVENT_ROUTE: what the old route has staged leaves by the old route (R89, R96). DEDUCED (log 41). -/
def setEventRouteCmd : Command :=
  queueCommand 0x0230 .configure 12
    (fun p _ => pu p 0 1 ≤ 2 && pz p 1 3 && pz p 10 2 && (pu p 0 1 = 0 || pu p 8 2 ≥ 1)) (fun _ _ => []) fun p h =>
      let h := if h.evq.route ≠ 0 then sendAllEvents 128 h else h
      let route := pu p 0 1
      -- the first octet of an IPv4 address is its most significant byte
      let addr := leNat (((prm p).drop 4).take 4).reverse
      { head := { h with evq := if route = 0 then { h.evq with route } else
          { h.evq with route, destAddr := addr, destPort := pu p 8 2 } } }
def execSetEventRoute (p : Packet) (s : State) : Host.Outcome State Fault Refusal := hostExec setEventRouteCmd p s

/-- EVENT_DATAGRAM_SEND: 1 to 32 consecutive entries leave for the configured destination (R89). -/
def execEventDatagramSend (count : Nat) (s : State) : Host.Outcome State Fault Refusal :=
  eventExec (1 ≤ count && count ≤ 32)
    (fun h => if h.evq.route ≠ 0 && h.evq.staged.length ≥ count then (h.sendEvents count).flushLost else h) s

end Sys2Proof.Machine
end

