-- ==== Sys2Proof/Machine/Bar0.lean ====
section
/-! DEFINITION. The BAR0 window (R74, Tables 03-1 to 03-5, 16-4, R188, R411, R450), the PCIe link's own events (R67-R69)
and the recovery image (R74). -/
namespace Sys2Proof.Machine

/-! ### Reads -/

/-- A register of queue `q` at an offset of its block (Table 03-3). -/
def Head.queueRegister (h : Head) (q o : Nat) : Nat :=
  let x := h.queue q
  match o with
  | 0x00 => x.sqBase % 2 ^ 32
  | 0x04 => x.sqBase / 2 ^ 32
  | 0x08 => flag x.enabled 0 + flag x.ethernet 1 + x.sqDepthLog2 * 16
  | 0x0C => x.sqTail
  | 0x10 => x.sqHead
  | 0x14 => x.status
  | 0x1C => x.skipped
  | 0x20 => x.cqBase % 2 ^ 32
  | 0x24 => x.cqBase / 2 ^ 32
  | 0x28 => x.cqDepthLog2 * 16 + x.vector * 256
  | 0x2C => x.cqHead
  | 0x30 => x.cqTail
  | _ => 0

/-! ### The recovery window (R74) -/

/-- A word of a buffer that lists its nonzero words. -/
def wordAt (m : List (Nat × Nat)) (w : Nat) : Nat := ((m.find? fun c => c.1 == w).map fun c => c.2).getD 0

/-- Write a word of such a buffer; writing 0 removes its entry. -/
def putWord (m : List (Nat × Nat)) (w v : Nat) : List (Nat × Nat) :=
  if v = 0 then m.filter fun c => c.1 ≠ w else putKey (fun c => c.1) (w, v) m

/-- A buffer's canonical form: word offsets strictly rising, no word 0. -/
def wordsWf : List (Nat × Nat) → Bool
  | [] => true
  | (w, v) :: rest => v ≠ 0 && rest.all (fun c => w < c.1) && wordsWf rest

/-- Bytes written from the window's first byte on. -/
def fillWords (m : List (Nat × Nat)) (bytes : List Byte) : List (Nat × Nat) :=
  (List.range ((bytes.length + 3) / 4)).foldl (init := m) fun m i =>
    let new := (bytes.drop (4 * i)).take 4
    putWord m i (leNat (new ++ (leBytes 4 (wordAt m i)).drop new.length))

/-- The first bytes of the window. -/
def windowBytes (m : List (Nat × Nat)) (n : Nat) : List Byte :=
  ((List.range ((n + 3) / 4)).flatMap fun i => leBytes 4 (wordAt m i)).take n

/-- The recovery window is there: in BOOT with BOOTSEL 0b010 only (Table 03-1). -/
def Head.recoveryOpen (h : Head) : Bool := h.sys.mode = .boot && h.sys.bootsel = 2

/-- The 32-bit word at an aligned offset of BAR0, without the side effects a read may have; reserved offsets read 0 (R74). -/
def Head.register (h : Head) (o : Nat) : Nat :=
  if 0x1000 ≤ o ∧ o < 0x1400 then h.queueRegister ((o - 0x1000) / 0x80) ((o - 0x1000) % 0x80)
  else if 0x3000 ≤ o ∧ o < 0x3400 then
    let e := h.pcie.msix.getD ((o - 0x3000) / 16) {}
    match (o - 0x3000) % 16 with
    | 0 => e.addr % 2 ^ 32
    | 4 => e.addr / 2 ^ 32
    | 8 => e.data
    | _ => flag e.masked 0
  else if o = 0x3800 ∨ o = 0x3804 then
    sumNat ((List.range 32).map fun i => flag (h.pcie.msix.getD ((o - 0x3800) * 8 + i) {}).pending i)
  else if 0x100000 ≤ o ∧ o < 0x200000 then (if h.recoveryOpen then wordAt h.pcie.recWindow ((o - 0x100000) / 4) else 0)
  else match o with
  | 0x0000 => 0x01B01024
  | 0x0004 => h.pcie.fwVersion
  | 0x0010 => h.sysState
  | 0x0018 => h.now % 2 ^ 32
  | 0x001C => h.pcie.timeHi
  | 0x0020 => h.time.cycle % 2 ^ 32
  | 0x0024 => h.pcie.cycleHi
  | 0x0028 => h.timeStatus
  | 0x002C => h.faultStatus
  | 0x0030 => h.firstFaultWords.getD 0 0
  | 0x0034 => h.firstFaultWords.getD 1 0
  | 0x0038 => h.firstFaultWords.getD 2 0
  | 0x003C => h.firstFaultWords.getD 3 0
  | 0x0040 => h.firstFaultWords.getD 4 0
  | 0x0044 => h.powerStatus
  | 0x0048 => h.clockStatus
  | 0x004C => h.pllStatus
  | 0x0100 => h.pcie.recOffset
  | 0x0108 => flag h.pcie.recReady 0 + flag h.pcie.recDone 1
  | 0x2000 => h.evq.base % 2 ^ 32
  | 0x2004 => h.evq.base / 2 ^ 32
  | 0x2008 => flag h.evq.enabled 0 + h.evq.vector * 256
  | 0x200C => h.evq.head
  | 0x2010 => h.evq.tail
  | 0x2014 => flag h.evq.overflow 0
  | 0x2018 => h.evq.dropped
  | _ => 0

/-- What an access of `size` bytes at an offset reads: aligned 4 or 8 bytes, anything else 0; a wide one at a low word of the
head time or the cycle number returns both words of one instant (R74). -/
def Head.bar0Read (h : Head) (o size : Nat) : Nat :=
  if size = 4 ∧ o % 4 = 0 then h.register o
  else if size = 8 ∧ o = 0x18 then h.now % 2 ^ 64
  else if size = 8 ∧ o = 0x20 then h.time.cycle % 2 ^ 48
  else if size = 8 ∧ o % 8 = 0 then h.register o + h.register (o + 4) * 2 ^ 32
  else 0

/-- The 32-bit word at an aligned offset of the endpoint's configuration space (R67): the identities, and BAR0, 64-bit and
non-prefetchable.  The layout is PCI-SIG's; words that the rule does not give read 0 here. PRESUMED (log 6). -/
def Head.configSpace (h : Head) (o : Nat) : Nat := match o with
  | 0x00 => h.pcie.deviceId * 2 ^ 16 + Config.vendorId % 2 ^ 16
  | 0x08 => h.pcie.classCode * 2 ^ 8 + h.pcie.revisionId
  | 0x10 => 4
  | 0x2C => Config.vendorId % 2 ^ 16
  | _ => 0

/-! ### Writes -/

/-- The low or high 32-bit half of a 64-bit base address; the low 12 bits are reserved (Table 03-3). -/
def baseLow (old v : Nat) : Nat := old / 2 ^ 32 * 2 ^ 32 + v / 4096 % 2 ^ 20 * 4096
def baseHigh (old v : Nat) : Nat := old % 2 ^ 32 + v % 2 ^ 32 * 2 ^ 32

/-- A depth field takes legal values only (R13, Table 03-4). -/
def depthField (old v : Nat) : Nat := if 4 ≤ bits v 7 4 ∧ bits v 7 4 ≤ 12 then bits v 7 4 else old

/-- A recovery chunk, the first bytes of the window: in BOOT with BOOTSEL 0b010 and the window free (R74). -/
def Head.recCommit (h : Head) (length : Nat) : Head :=
  if h.recoveryOpen && h.pcie.recReady && 1 ≤ length && length ≤ 1048576 then
    { h with pcie := { h.pcie with
        recImage := h.pcie.recImage ++ [(h.pcie.recOffset, windowBytes h.pcie.recWindow length)] } }
  else h

/-- The host fills the recovery window from its first byte on (R74). -/
def Head.fillWindow (h : Head) (bytes : List Byte) : Head :=
  if h.recoveryOpen then { h with pcie := { h.pcie with recWindow := fillWords h.pcie.recWindow (bytes.take 1048576) } } else h

/-- Writing REC_LENGTH with 0 ends the image (R74). -/
def Head.recEnd (h : Head) : Head :=
  if h.recoveryOpen && h.pcie.recReady then
    { h with pcie := { h.pcie with recReady := false, recDone := true } }
  else h

/-- A write of a queue register (Table 03-3, R75). -/
def Head.writeQueueRegister (h : Head) (q o v : Nat) : Head :=
  let free := !(h.queue q).enabled
  match o with
  | 0x00 => if free then h.setQueue q fun x => { x with sqBase := baseLow x.sqBase v } else h
  | 0x04 => if free then h.setQueue q fun x => { x with sqBase := baseHigh x.sqBase v } else h
  | 0x08 =>
    let h := if free then h.setQueue q fun x =>
        { x with ethernet := if bits v 2 1 ≤ 1 then bit v 1 else x.ethernet, sqDepthLog2 := depthField x.sqDepthLog2 v }
      else h
    if bit v 0 then h.enableQueue q else h.disableQueue q
  | 0x0C => h.writeTail q (v % 4096) []
  | 0x14 => h.setQueue q fun x => { x with slotError := w1c v 3 x.slotError, indexError := w1c v 15 x.indexError }
  | 0x18 => h.writeFlush q v
  | 0x20 => if free then h.setQueue q fun x => { x with cqBase := baseLow x.cqBase v } else h
  | 0x24 => if free then h.setQueue q fun x => { x with cqBase := baseHigh x.cqBase v } else h
  | 0x28 => h.setQueue q fun x =>
      { x with cqDepthLog2 := if free then depthField x.cqDepthLog2 v else x.cqDepthLog2, vector := bits v 13 8 }
  | 0x2C => h.writeCqHead q (v % 4096)
  | _ => h

/-- A write of an MSI-X table word (R67; log 6): unmasking an entry sends its pending message. -/
def Head.writeMsix (h : Head) (e o v : Nat) : Head :=
  let set (f : MsixEntry → MsixEntry) : Head := { h with pcie := { h.pcie with msix := setAt e f h.pcie.msix } }
  match o with
  | 0 => set fun x => { x with addr := x.addr / 2 ^ 32 * 2 ^ 32 + v }
  | 4 => set fun x => { x with addr := x.addr % 2 ^ 32 + v * 2 ^ 32 }
  | 8 => set fun x => { x with data := v }
  | _ =>
    let send := !bit v 0 && (h.pcie.msix.getD e {}).pending && h.pcie.linkUp
    let h := set fun x => { x with masked := bit v 0, pending := x.pending && !send }
    if send then h.emit (.msix e) else h

/-- A 32-bit write at an aligned offset; reserved and read-only offsets ignore it (R11, R74). -/
def Head.writeRegister (h : Head) (o v : Nat) : Head :=
  if 0x1000 ≤ o ∧ o < 0x1400 then h.writeQueueRegister ((o - 0x1000) / 0x80) ((o - 0x1000) % 0x80) v
  else if 0x3000 ≤ o ∧ o < 0x3400 then h.writeMsix ((o - 0x3000) / 16) ((o - 0x3000) % 16) v
  else if 0x100000 ≤ o ∧ o < 0x200000 then
    (if h.recoveryOpen then { h with pcie := { h.pcie with recWindow := putWord h.pcie.recWindow ((o - 0x100000) / 4) v } } else h)
  else match o with
  | 0x0028 => { h with time := { h.time with ports := h.time.ports.mapIdx fun i p => { p with overflow := w1c v (7 + i) p.overflow } } }
  | 0x004C => { h with power := { h.power with ceiling := w1c v 11 h.power.ceiling } }
  | 0x0100 => { h with pcie := { h.pcie with recOffset := v } }
  | 0x0104 => if v = 0 then h.recEnd else h.recCommit v
  | 0x2000 => if h.evq.enabled then h else { h with evq := { h.evq with base := baseLow h.evq.base v } }
  | 0x2004 => if h.evq.enabled then h else { h with evq := { h.evq with base := baseHigh h.evq.base v } }
  | 0x2008 =>
    let h := { h with evq := { h.evq with vector := bits v 13 8 } }
    if bit v 0 then h.enableEvents else h.disableEvents
  | 0x200C => h.writeEqHead (v % 4096)
  | 0x2014 => { h with evq := { h.evq with overflow := w1c v 0 h.evq.overflow } }
  | _ => h

/-- A write of 32 or 64 bits, naturally aligned; anything else writes nothing (R74). -/
def Head.bar0Write (h : Head) (o : Nat) (wide : Bool) (v : Nat) : Head :=
  if wide then
    (if o % 8 = 0 then (h.writeRegister o (v % 2 ^ 32)).writeRegister (o + 4) (v / 2 ^ 32 % 2 ^ 32) else h)
  else if o % 4 = 0 then h.writeRegister o (v % 2 ^ 32) else h

/-- HEAD_TIME_LO_READ: latches HEAD_TIME_HI; a 64-bit access returns both words of one instant (R74). -/
def execHeadTimeLoRead (wide : Bool) (s : State) : Host.Outcome State Fault Refusal :=
  eventExec true (fun h => h.bar0 fun h =>
    let now := h.now % 2 ^ 64
    ({ h with pcie := { h.pcie with timeHi := now / 2 ^ 32 } }).emit (.readData (if wide then now else now % 2 ^ 32))) s

/-- CYCLE_LO_READ: latches CYCLE_HI (R74). -/
def execCycleLoRead (wide : Bool) (s : State) : Host.Outcome State Fault Refusal :=
  eventExec true (fun h => h.bar0 fun h =>
    let c := h.time.cycle % 2 ^ 48
    ({ h with pcie := { h.pcie with cycleHi := c / 2 ^ 32 } }).emit (.readData (if wide then c else c % 2 ^ 32))) s

/-- REC_COMMIT (R74): the operand's bytes are in the window when REC_LENGTH is written. -/
def execRecCommit (length : Nat) (window : List Byte) (s : State) : Host.Outcome State Fault Refusal :=
  eventExec true (fun h => h.bar0 fun h => (h.fillWindow window).recCommit length) s

/-- REC_END (R74). -/
def execRecEnd (s : State) : Host.Outcome State Fault Refusal := eventExec true (fun h => h.bar0 Head.recEnd) s

/-- REGISTER_WRITE (R11-R13, R74, R75).  The slots behind a tail written here are an operand of a row of their own; here they
read 0. -/
def execRegisterWrite (offset : Nat) (wide : Bool) (value : Nat) (s : State) : Host.Outcome State Fault Refusal :=
  eventExec (offset < 0x400000) (fun h => h.bar0 fun h => h.bar0Write offset wide value) s

/-! ### The link -/

/-- PCIE_POWER_STATE: D3hot changes nothing in control; WAKE_N is released in D0 (R69). -/
def execPciePowerState (d3hot pme : Bool) (s : State) : Host.Outcome State Fault Refusal :=
  eventExec true (fun h => { h with pcie := { h.pcie with d3hot, pme, wakeN := h.pcie.wakeN && d3hot } }) s

/-- The PCIe link is lost (R68, R348): PCIe queues and the PCIe event route disabled, unwritten completions discarded,
every stream stopped with STATE 2 and its staged packets discarded. -/
def Head.loseLink (h : Head) : Head :=
  let h := { h with pcie := { h.pcie with linkUp := false } }
  let h := h.disableEvents
  let h := (List.range 8).foldl (init := h) fun (h : Head) q => if (h.queue q).ethernet then h else h.disableQueue q
  { h with acq := { h.acq with streams := h.acq.streams.map fun (x : Stream) =>
      if x.state = 1 then { x with state := 2, staged := [], frames := [], gap := none, marks := [], paused := false,
                                   stopping := false }
      else { x with staged := [], frames := [] } } }

/-- PERST_ASSERT: the endpoint's own registers reset, nothing else (R68; log 6). -/
def execPerstAssert (s : State) : Host.Outcome State Fault Refusal :=
  eventExec true (fun h =>
    let h := h.loseLink
    { h with pcie := { h.pcie with d3hot := false, pme := false, wakeN := false, msix := List.replicate 64 {} } }) s

/-- PCIE_LINK_DOWN (R68). -/
def execPcieLinkDown (s : State) : Host.Outcome State Fault Refusal := eventExec true Head.loseLink s

/-- PCIE_LINK_UP: the host enables queues and the event route again (R68). -/
def execPcieLinkUp (s : State) : Host.Outcome State Fault Refusal :=
  eventExec true (fun h => { h with pcie := { h.pcie with linkUp := true } }) s

end Sys2Proof.Machine
end

