-- ==== Sys2Proof/Machine/Collector.lean ====
section
/-! DEFINITION. The rows of chapter 16: reports (R400, R401), safe inputs (R407), read-back (R408), the first-fault record (R410),
the alive generator (R412-R414), and the commands of block 0x0E (R416, R417, R419). -/
namespace Sys2Proof.Machine

/-! ### Reports -/

/-- The codes whose detection no other row gives: ECC errors and faults of standard code (R19, R314). -/
def reportedCode (source code : Nat) : Bool := match source / 4096, code with
  | 0, 2 => true | 0, 3 => true | 0, 20 => true | 1, 2 => true | 2, 2 => true | 3, 13 => true
  | _, _ => false

/-- A copy that reads an uncorrectable source word stops, and its buffer is EMPTY; whether a load of the range's tables met the
word, and which, no row says: a free value (R306). -/
def Head.stopCopy (h : Head) (r : Nat) : Head :=
  let serves (t : Nat) (b : TerrainBuffer) : Bool := (h.onTile t).any fun a => a.range = r && bits (h.coeff a 0x29) 11 0 = b.table
  let loads := (List.range 256).filter fun n =>
    (((h.tile (n / 16)).slots.getD (n % 16) {}).loading?).any (serves (n / 16))
  let (k, h) := h.drawNat
  match loads[k]? with
  | none => h
  | some n =>
    let h := h.setSlot (n / 16) (n % 16) fun s =>
      let stop (b : TerrainBuffer) : TerrainBuffer := if b.state = .loading && b.ordered then { b with state := .empty } else b
      { a := stop s.a, b := stop s.b }
    h.setTile (n / 16) fun t => { t with list := { t.list with cores := t.list.cores.map (Core.drop (sysOperation (n % 16))) } }

/-- FAULT_DETECTED (R19, R400): an ECC or code fault, or a further detection of a condition that is present (Table 16-2).
DESIGN CHOICE (log 83). -/
def execFaultDetected (source code : Nat) (s : State) : Host.Outcome State Fault Refusal :=
  eventExec (source < 0x10000 && code < 32) (fun h =>
    if h.fromBoot && h.sourceExists source && (reportedCode source code || h.causePresent source code) then
      let corrected : Bool := (source / 4096 = 0 && code = 20) || (source / 4096 = 1 && code = 2)
      let h : Head := if corrected then
          { h with faults := { h.faults with eccCorrected := satInc (2 ^ 32 - 1) h.faults.eccCorrected } } else h
      (if source / 4096 = 2 && code = 2 then h.stopCopy (source % 4096) else h).raise source code
    else h) s

/-- DIE_LINK_LOST (R18): the PFD belays on its own, the LD records the loss. -/
def execDieLinkLost (s : State) : Host.Outcome State Fault Refusal :=
  eventExec true (fun h =>
    if h.faults.dieLinkOk && h.fromBoot then
      Head.raise { h with faults := { h.faults with dieLinkOk := false } } 0 0
    else h) s

/-- SAFE_INPUT (R407): the filtered levels after an edge; a request that already holds is not detected again. DEDUCED
(log 84). -/
def execSafeInput (levelA levelB : Bool) (s : State) : Host.Outcome State Fault Refusal :=
  eventExec true (fun h =>
    if !h.fromBoot then h
    else
      let f := h.faults
      let since := if levelA = levelB then none else some (f.differSince.getD h.now)
      let h : Head := { h with faults := { f with safeInA := levelA, safeInB := levelB, differSince := since } }
      let begins : Bool := f.safeInA && f.safeInB
      if levelA && levelB then h
      else if f.safeInRanges = 0 then (if begins || !h.latched 0 5 then h.raise 0 5 else h)
      else (List.range 8).foldl (init := h) fun (h : Head) r =>
        if bit f.safeInRanges r && (begins || !h.latched (srcRange r) 3) then h.raise (srcRange r) 3 else h) s

/-- SAFE_DISCREPANCY (R407). -/
def execSafeDiscrepancy (s : State) : Host.Outcome State Fault Refusal :=
  eventExec true (fun h =>
    if h.fromBoot && h.faults.differSince.any fun t => t + h.faults.discrepancyMs * 1000000 ≤ h.now then h.raise 0 6 else h) s

/-- BELAY_READBACK (R408): the balls, BELAY_OUT_A, BELAY_OUT_B and ALIVE, that have read other than driven for 10 µs. -/
def execBelayReadback (balls : Nat) (s : State) : Host.Outcome State Fault Refusal :=
  eventExec (balls < 8) (fun h =>
    if !h.fromBoot then h
    else
      let h : Head := { h with faults := { h.faults with readback := balls } }
      if balls = 0 then h else h.raise 0 7) s

/-! ### First-fault record (R410) -/

/-- Does report `a` come before `b` in the record's choice: higher severity, then lower source, then lower code? -/
def Report.before (a b : Report) : Bool :=
  a.severity > b.severity || (a.severity = b.severity && (a.source < b.source || (a.source = b.source && a.code < b.code)))

/-- The report that the record holds. -/
def firstReport : List Report → Option Report
  | [] => none
  | r :: rest => some (rest.foldl (fun b x => if x.before b then x else b) r)

/-- FIRST_FAULT_DECISION: at T_{k+1} + 2 µs, an instant that has then come; the reports of S2 or above of cycle k. -/
def execFirstFaultDecision (s : State) : Host.Outcome State Fault Refusal :=
  eventExec true (fun h =>
    let h := h.reach (h.time.cycleStart + 2000)
    let rs := h.faults.reports.filter fun r => r.cycle + 1 = h.time.cycle && r.severity ≥ 2
    match h.faults.first, firstReport rs with
    | none, some r =>
      let others := (rs.filter fun x => x.source ≠ r.source).foldl (fun acc x => if acc.contains x.source then acc else acc ++ [x.source]) []
      let mask := sumNat ((List.range 16).map fun k => flag (others.any fun o => o / 4096 = k) k)
      let count := min 255 others.length
      Head.postAt { h with faults := { h.faults with first := some { report := r, sameCount := count, sameMask := mask } } }
        0x0E03 4 r.source r.time r.cycle (pack [(2, r.source), (1, r.code), (1, r.severity), (1, count), (2, mask)])
    | _, _ => h) s

/-! ### The alive generator -/

/-- KICK_SEND (R39, R413): a kick that carries the next value of the sequence; the first valid one starts ALIVE. -/
def execKickSend (s : State) : Host.Outcome State Fault Refusal :=
  eventExec true (fun h =>
    if h.fromCommission && h.sys.mode ≠ .safe && h.faults.kickArmed && !h.hasS4 then
      { h with faults := { h.faults with
        kickLast := h.faults.kickNext, kickNext := (h.faults.kickNext + 1) % 256, kickTime := h.now, aliveRun := true } }
    else h) s

/-- KICK_LAPSED (R413). -/
def execKickLapsed (s : State) : Host.Outcome State Fault Refusal :=
  eventExec true (fun h =>
    if h.faults.kickArmed && h.faults.kickTime + h.faults.kickTimeout * 1000000 ≤ h.now then h.raise 0 1 else h) s

/-- ALIVE_TOGGLE (R412): a new ALIVE_HZ takes effect here. -/
def execAliveToggle (s : State) : Host.Outcome State Fault Refusal :=
  eventExec true (fun h =>
    if h.faults.aliveRun then
      { h with faults := { h.faults with
        aliveLevel := !h.faults.aliveLevel, aliveHz := h.faults.aliveHzNext.getD h.faults.aliveHz, aliveHzNext := none } }
    else h) s

/-! ### Commands of block 0x0E (R419) -/

/-- GET_FAULT_SUMMARY. -/
def getFaultSummaryCmd : Command :=
  observeCommand 0x0E00 0 Head.fromBoot (fun p _ => noTarget p) (fun _ _ => []) fun _ h =>
    pack ((4, h.faultStatus) :: (h.firstFaultWords.map fun w => (4, w)) ++
      [(2, h.faults.kickLast), (2, 0), (4, sumNat ((List.range 8).map fun r => flag ((h.range r).state = .belay) r))])
def execGetFaultSummary (p : Packet) (s : State) : Host.Outcome State Fault Refusal := hostExec getFaultSummaryCmd p s

/-- GET_FAULTS. -/
def getFaultsCmd : Command :=
  observeCommand 0x0E01 0 Head.fromBoot (fun p h => h.sourceExists p.target) (fun _ _ => []) fun p h =>
    let l : Latch := (h.latch? p.target).getD { source := p.target, word := 0, counts := [], firstCycle := none }
    let cause := sumNat ((List.range (severities (p.target / 4096)).length).map fun c => flag (h.causePresent p.target c) c)
    pack [(4, l.word.toNat), (4, cause), (6, l.firstCycle.getD 0), (2, 0)]
      ++ ((List.range 32).map fun c => leBytes 2 (((l.counts.find? fun x => x.1 == c).map fun x => x.2.1).getD 0)).flatten
def execGetFaults (p : Packet) (s : State) : Host.Outcome State Fault Refusal := hostExec getFaultsCmd p s

/-- Has a source a latch of this severity or above? -/
def Latch.reaches (l : Latch) (sev : Nat) : Bool := l.highest.any fun s => s ≥ sev

/-- LIST_FAULTS. DEDUCED (log 65). -/
def listFaultsCmd : Command :=
  observeCommand 0x0E02 4 Head.fromBoot (fun p h => noTarget p && h.sourceExists (pu p 0 2) && pu p 2 1 ≤ 4 && pz p 3 1) (fun _ _ => [])
    fun p h =>
      let ls := h.faults.latches.filter fun l => l.source ≥ pu p 0 2 && l.reaches (pu p 2 1)
      let now := ls.take 255
      pack [(2, now.length), (2, ((ls.drop 255).head?.map fun l => l.source).getD 0xFFFF)]
        ++ (now.map fun l => pack [(2, l.source), (2, 0), (4, l.word.toNat)]).flatten
def execListFaults (p : Packet) (s : State) : Host.Outcome State Fault Refusal := hostExec listFaultsCmd p s

/-- The codes of a mask that are latched on a source. -/
def Head.maskedCodes (h : Head) (source mask : Nat) : BitVec 32 := h.latchWord source &&& BitVec.ofNat 32 mask

/-- A controlled stop for a masked code is still running (R222, R416). -/
def Head.stopRuns (h : Head) (source mask : Nat) : Bool :=
  source / 4096 = 3 && h.maskedCodes source mask &&& maskStop ≠ 0
    && (h.axis? (source % 4096)).any fun a => a.motion.move = .faultStop || (a.kind = .stepper && a.step.faultStop && !a.step.atRest)

/-- Clear the masked codes of a source: their counts and cycles are forgotten (R400, R416). -/
def Head.clearCodes (h : Head) (source mask : Nat) : Head := match h.latch? source with
  | none => h
  | some l =>
    let word := l.word &&& ~~~(BitVec.ofNat 32 mask)
    let l' : Latch := { l with word, counts := l.counts.filter fun c => word.getLsbD c.1, firstCycle := none }
    Head.noteLatch { h with faults := { h.faults with latches := putKey (fun l => l.source) l' h.faults.latches } } source

/-- CLEAR_FAULT (R416, R418). -/
def clearFaultCmd : Command :=
  { opcode := 0x0E03, cls := .operate, len := lenIs 4, active := true, shared := fun p _ => mirroredKind p.target
    stateOk := fun _ h => h.fromCommission
    paramOk := fun p h => h.sourceExists p.target
    refusals := fun p h =>
      [((List.range 32).any fun c => (h.maskedCodes p.target (pu p 0 4)).getLsbD c && h.causePresent p.target c, Status.causePresent),
       (h.stopRuns p.target (pu p 0 4), Status.busy)]
    effect := fun p h =>
      let cleared := h.maskedCodes p.target (pu p 0 4)
      let before := h.latchWord p.target
      let h := h.clearCodes p.target (pu p 0 4)
      let left := ((h.latch? p.target).bind fun l => l.highest).getD 0xFF
      { head := h.post 0x0E02 4 p.target [(4, cleared.toNat), (2, p.target), (1, left)], reply := leBytes 4 before.toNat } }
def execClearFault (p : Packet) (s : State) : Host.Outcome State Fault Refusal := hostExec clearFaultCmd p s

/-- CLEAR_FIRST_FAULT: only a later fault writes a new record (R417). -/
def clearFirstFaultCmd : Command :=
  { opcode := 0x0E04, cls := .operate, len := lenIs 0, stateOk := fun _ h => h.fromCommission, paramOk := fun p _ => noTarget p
    refusals := fun _ h => [(h.anySeverity 2 || h.anySeverity 3 || h.anySeverity 4, Status.causePresent)]
    effect := fun _ h => { head := { h with faults := { h.faults with first := none, reports := [] } } } }
def execClearFirstFault (p : Packet) (s : State) : Host.Outcome State Fault Refusal := hostExec clearFirstFaultCmd p s

/-- A setting of the block, taken by each head for itself in COMMISSION (R419). -/
def faultSetting (opcode n : Nat) (param : Packet → Bool) (f : Packet → Faults → Faults) : Command :=
  { opcode, cls := .configure, len := lenIs n, stateOk := fun _ h => h.inMode [.commission], paramOk := fun p _ => param p
    effect := fun p h => { head := { h with faults := f p h.faults } } }

/-- SET_ALIVE (R412, R413). -/
def setAliveCmd : Command :=
  faultSetting 0x0E05 4
    (fun p => noTarget p && 500 ≤ pu p 0 2 && pu p 0 2 ≤ 10000 && 1 ≤ pu p 2 1 && pu p 2 1 ≤ 100 && pz p 3 1)
    fun p f => { f with aliveHzNext := some (pu p 0 2), kickTimeout := pu p 2 1 }
def execSetAlive (p : Packet) (s : State) : Host.Outcome State Fault Refusal := hostExec setAliveCmd p s

/-- SET_BELAY_CONFIG. -/
def setBelayConfigCmd : Command :=
  faultSetting 0x0E06 8
    (fun p => noTarget p && pu p 2 1 < 4 && 1 ≤ pu p 4 2 && pu p 4 2 ≤ 1000 && 1 ≤ pu p 6 1 && pu p 6 1 ≤ 4 && pz p 7 1)
    fun p f => { f with
      aRanges := pu p 0 1, bRanges := pu p 1 1, aLocal := bit (pu p 2 1) 0, bLocal := bit (pu p 2 1) 1, safeInRanges := pu p 3 1
      discrepancyMs := pu p 4 2, faultNSev := pu p 6 1 }
def execSetBelayConfig (p : Packet) (s : State) : Host.Outcome State Fault Refusal := hostExec setBelayConfigCmd p s

/-- SET_OUTPUT_GROUP (R404). -/
def setOutputGroupCmd : Command :=
  faultSetting 0x0E07 4
    (fun p => outputCode p.target && pu p 0 1 ≤ 8 && pu p 1 1 ≤ (if p.target < 4 then 0 else 1) && pz p 2 2)
    fun p f =>
      let place := if p.target < 4 then p.target else p.target - 12
      let setting : OutputGroup := { group := pu p 0 1, safeHigh := pu p 1 1 = 1 }
      { f with outputs := setAt place (fun _ => setting) f.outputs }
def execSetOutputGroup (p : Packet) (s : State) : Host.Outcome State Fault Refusal := hostExec setOutputGroupCmd p s

end Sys2Proof.Machine
end

