-- ==== Sys2Proof/Machine/Cairn.lean ====
section
/-! DEFINITION. The Cairn scheduler: ready lists, choice by deficit-weighted round robin, delivery and preemption (R279-R282). -/
namespace Sys2Proof.Machine

/-! Lists are numbered 0-15 for a tile's Tor cores, 16-31 for its loop engine, 32 for the Massif cluster. -/

/-- The stage that an axis's graph has next. -/
def Head.nextStage (h : Head) (a : Axis) : Option Stage :=
  if h.graphOpen a then a.stages[(a.work.map fun w => w.step).getD 0]? else none

/-- Head time at which an axis's next operation became ready. -/
def Head.readySince (h : Head) (a : Axis) : Nat := (a.work.map fun w => w.since).getD h.now

def ReadyList.holds (l : ReadyList) (id : Nat) : Bool := l.cores.any fun c =>
  (c.active.any fun o => o.axis = id) || (c.staged.any fun o => o.axis = id) || c.saved.any fun o => o.axis = id

def Head.readyList (h : Head) (list : Nat) : ReadyList := if list < 16 then (h.tile list).list else h.compute.massif
def Head.setReadyList (h : Head) (list : Nat) (f : ReadyList → ReadyList) : Head :=
  if list < 16 then h.setTile list fun t => { t with list := f t.list }
  else { h with compute := { h.compute with massif := f h.compute.massif } }

/-- The table loads that wait in a tile's SYS group, by slot (R271, R279). -/
def Head.sysOps (h : Head) (list : Nat) : List (Nat × Operation) :=
  if list ≥ 16 then []
  else ((h.tile list).slots.zipIdx).filterMap fun (s, k) =>
    if (h.readyList list).holds (sysOperation k) then none
    else s.loading?.map fun b =>
      (h.now, ({ group := 8, axis := sysOperation k, step := 0, cost := loadClocks b.count, since := h.now } : Operation))

/-- The operations that wait in a list, in the order they became ready, the lower axis first on a tie (R279). -/
def Head.readyOps (h : Head) (list : Nat) : List (Nat × Operation) :=
  let kind : UnitKind := if list < 16 then .tor else if list < 32 then .engine else .massif
  let tile := list % 16
  let ops := h.axes.filterMap fun a => match h.nextStage a with
    | none => none
    | some st =>
      let held : Bool := if kind = .engine then (h.tile tile).engine.any (fun o => o.axis = a.id) else (h.readyList list).holds a.id
      if st.unit = kind && (list = 32 || a.place.tile = tile) && h.stageReady a st && !held then
        some (h.readySince a, ({ group := a.range, axis := a.id, step := (a.work.map fun w => w.step).getD 0
                                 cost := h.stageCost a st, since := h.now } : Operation))
      else none
  ops.foldl (init := []) fun acc o =>
    (acc.takeWhile fun x => x.1 < o.1 || (x.1 = o.1 && x.2.axis < o.2.axis)) ++ [o]
      ++ acc.dropWhile fun x => x.1 < o.1 || (x.1 = o.1 && x.2.axis < o.2.axis)

/-- The operations of a list's groups, the SYS group last (R279). -/
def Head.waiting (h : Head) (list : Nat) : List (Nat × Operation) := h.readyOps list ++ h.sysOps list

/-- The head operation of a group: a displaced one before any other (R282). -/
def Head.groupHead (h : Head) (list g : Nat) (ops : List (Nat × Operation)) : Option Operation :=
  (((h.readyList list).cores.findSome? fun c => c.saved.find? fun o => o.group = g)).or ((ops.find? fun o => o.2.group = g).map fun o => o.2)

/-- Weight of a group in a list (R281). -/
def Head.listWeight (h : Head) (list g : Nat) : Nat := if list < 16 then h.groupWeight list g else if g ≥ 8 then 4 else h.weight g

/-- A new round: every group with a ready operation gains 16 × its weight, every other starts from 0 (R280). -/
def Head.newRound (h : Head) (list : Nat) (ready : Nat → Bool) : Head :=
  h.setReadyList list fun l => { l with deficit := l.deficit.mapIdx fun g d => if ready g then d + 16 * h.listWeight list g else 0 }

/-- The choice of R280 among the heads of some groups, with the head after the rounds it took; a round counts every group with
ready operations. -/
def Head.choose (list : Nat) (ready : Nat → Bool) (heads : List (Nat × Operation)) : Nat → Head → Head × Option Operation
  | 0, h => (h, none)
  | n + 1, h =>
    if heads.isEmpty then (h, none)
    else
      let l := h.readyList list
      let scan := (List.range 9).map fun k => (l.last + 1 + k) % 9
      match scan.findSome? fun g => (heads.find? fun x => x.1 = g && (x.2.cost : Int) ≤ l.deficit.getD g 0) with
      | some x => (h.setReadyList list fun l => { l with last := x.1 }, some x.2)
      | none => Head.choose list ready heads n (h.newRound list ready)

/-- A core that debugging has halted takes nothing (R435). -/
def Head.coreHalted (h : Head) (list c : Nat) : Bool :=
  h.sec.halted.contains (if list < 16 then CoreId.tor list c else CoreId.massif c)

/-- Delivery of a range's group: PREEMPT (R282). -/
def Head.preempts (h : Head) (r : Nat) : Bool :=
  r < 8 && (h.compute.delivery.getD r none).getD ((h.range r).cls = 0)

/-- The graph of an axis begins with its first operation (R279). -/
def Head.beginFor (h : Head) (o : Operation) : Head := match h.axis? o.axis with
  | some a => if a.work.isNone && h.graphOpen a then h.beginGraph a else h
  | none => h

/-- An operation begins on a core, out of a saved context when it was displaced (R282). DEDUCED (log 36). -/
def Head.startOn (h : Head) (list c : Nat) (o : Operation) : Head :=
  let h := h.beginFor o
  h.setReadyList list fun l => { l with cores := l.cores.mapIdx fun k (x : Core) =>
    let x := { x with saved := x.saved.filter fun y => y.axis ≠ o.axis }
    if k = c then { x with active := some { o with since := h.now } } else x }

/-- Clocks a core was busy (R283). -/
def Head.addBusy (h : Head) (list c n : Nat) : Head :=
  if list < 16 then h.setTile list fun t => { t with busy := setAt c (fun b => b + n) t.busy }
  else { h with compute := { h.compute with massifBusy := h.compute.massifBusy + n } }

def Head.charge (h : Head) (list g n : Nat) : Head :=
  h.setReadyList list fun l => { l with deficit := setAt g (fun d => d - n) l.deficit }

/-- What an operation comes to, with the clocks it used (R280). -/
def Head.runOperation (h : Head) (list : Nat) (o : Operation) : Head × Nat :=
  if o.group = 8 then (h.completeLoad list (o.axis - sysOperation 0), o.cost)
  else if (h.axis? o.axis).any fun a => a.work.any fun w => w.step = o.step then h.runNext o.axis
  else (h, 0)

/-- The operation of a core ends: its effect, its charge, and the staged operation takes its place (R280, R282). -/
def Head.endOn (h : Head) (list c : Nat) (o : Operation) : Head :=
  let next := ((h.readyList list).cores.getD c {}).staged
  let takeStaged (x : Core) : Core := { x with active := x.staged.map fun o => { o with since := h.now }, staged := none }
  let h := h.setReadyList list fun l => { l with cores := setAt c takeStaged l.cores }
  let (h, clocks) := h.runOperation list o
  let h := (h.charge list o.group clocks).addBusy list c clocks
  match next with
  | some o => h.beginFor o
  | none => h

/-- The home core of an axis's operation when it is idle, else the first idle one (R280). DEDUCED (log 36). -/
def Head.idleCore (h : Head) (list : Nat) (o : Operation) : Option Nat :=
  let idle (c : Nat) : Bool := ((h.readyList list).cores.getD c {}).active.isNone && !h.coreHalted list c
  let home := ((h.axis? o.axis).map fun a => if list < 16 then a.place.core else a.place.massif).getD 0
  if home < 4 && idle home then some home else (List.range 4).find? idle

/-- A core whose STAGED slot is empty while it runs something. -/
def Head.stagingCore (h : Head) (list : Nat) : Option Nat :=
  (List.range 4).find? fun c =>
    let x := (h.readyList list).cores.getD c {}
    x.active.isSome && x.staged.isNone && !h.coreHalted list c

/-- The active operation that started first, with its core; a table load stands while LPDDR4X changes its set point (R447). -/
def Head.earliest (h : Head) (list : Nat) : Option (Nat × Operation) :=
  ((List.range 4).filterMap fun c =>
    if h.coreHalted list c then none
    else ((((h.readyList list).cores.getD c {}).active.filter fun o => o.group < 8 || h.power.fspChange.isEmpty).map
      fun o => (c, o))).foldl (init := none)
      fun (b : Option (Nat × Operation)) x => match b with
        | some y => if x.2.since < y.2.since then some x else b
        | none => some x

/-- One decision of a list: a chosen operation starts on an idle core or is staged; when none can, the operation that began
first ends. -/
def Head.dispatch (h : Head) (list : Nat) : Head :=
  let ops := h.waiting list
  let heads := (List.range 9).filterMap fun g => (h.groupHead list g ops).map fun o => (g, o)
  let ready (g : Nat) : Bool := heads.any fun x => x.1 = g
  let finish (h : Head) : Head := match h.earliest list with
    | some (c, o) => h.endOn list c o
    | none => h
  let idle : Bool := (List.range 4).any fun c => ((h.readyList list).cores.getD c {}).active.isNone && !h.coreHalted list c
  if heads.isEmpty then finish h
  else if idle then match Head.choose list ready heads 5000 h with
    | (h, some o) => match h.idleCore list o with
      | some c => h.startOn list c o
      | none => h
    | (h, none) => h
  else
    let fetch := heads.filter fun x => !h.preempts x.1 && !(h.readyList list).cores.any fun c => c.saved.contains x.2
    match h.stagingCore list, fetch with
    | some c, _ :: _ => match Head.choose list ready fetch 5000 h with
      | (h, some o) => h.setReadyList list fun l => { l with cores := setAt c (fun (x : Core) => { x with staged := some o }) l.cores }
      | (h, none) => h
    | _, _ => finish h

/-- The loop engine takes its instances in the order they became ready, G0 first at the same instant, and never interrupts
one (R280). -/
def Head.dispatchEngine (h : Head) (tile : Nat) : Head :=
  match (h.tile tile).engine with
  | some o =>
    let h := h.setTile tile fun t => { t with engine := none, engineBusy := t.engineBusy + o.cost }
    (h.runOperation (16 + tile) o).1
  | none =>
    let ops := h.readyOps (16 + tile)
    let first := ops.filter fun o => ops.all fun x => o.1 ≤ x.1
    match (first.find? fun o => (h.range o.2.group).cls = 0).or first.head? with
    | none => h
    | some (_, o) =>
      (h.beginFor o).setTile tile fun t => { t with engine := some o }

/-- The list runs: a tile that is up, or the Massif cluster, on a head that computes (R278). -/
def Head.listRuns (h : Head) (list : Nat) : Bool := h.commands && (list ≥ 32 || (h.tile (list % 16)).state = .up)

/-- OPERATION_DISPATCH (R279, R280). -/
def execOperationDispatch (list : Nat) (s : State) : Host.Outcome State Fault Refusal :=
  eventExec (list < 33) (fun h =>
    if !h.listRuns list then h
    else if 16 ≤ list && list < 32 then h.dispatchEngine (list - 16)
    else h.dispatch list) s

/-- Rank of a group: G0 above G1, G1 above G2, G2 above G3, G3 above SYS (R282). -/
def Head.rank (h : Head) (g : Nat) : Nat := if g ≥ 8 then 4 else (h.range g).cls

/-- The core that an operation of a rank displaces: the lowest rank, then the latest start, then the lower number (R282). -/
def Head.victim (h : Head) (list rank : Nat) : Option (Nat × Operation) :=
  ((List.range 4).filterMap fun c =>
    let x := (h.readyList list).cores.getD c {}
    x.active.bind fun o => if x.saved.length < 2 && h.rank o.group > rank && !h.coreHalted list c then some (c, o) else none).foldl
      (init := none) fun (b : Option (Nat × Operation)) x => match b with
        | none => some x
        | some y => if h.rank x.2.group > h.rank y.2.group || (h.rank x.2.group = h.rank y.2.group && x.2.since > y.2.since)
            then some x else b

/-- The waiting operation of the best rank among the groups whose delivery preempts, the oldest of them (R280, R282). -/
def Head.bestWaiting (h : Head) (list : Nat) : Option Operation :=
  ((h.readyOps list).filter fun o => h.preempts o.2.group).foldl (init := none) fun (b : Option Operation) o => match b with
    | none => some o.2
    | some y => if h.rank o.2.group < h.rank y.group then some o.2 else b

/-- PREEMPTION (R282): the save and the later restore, 24 clocks each, are charged to the preempting group. -/
def execPreemption (list : Nat) (s : State) : Host.Outcome State Fault Refusal :=
  eventExec (list < 33) (fun h =>
    if !h.listRuns list || (16 ≤ list && list < 32) then h
    else
      let idle : Bool := (List.range 4).any fun c => ((h.readyList list).cores.getD c {}).active.isNone && !h.coreHalted list c
      match h.bestWaiting list with
      | none => h
      | some o => match h.victim list (h.rank o.group) with
        | none => h
        | some (c, displaced) =>
          if idle then h
          else
            let h := h.saveContext displaced.axis ((h.now - displaced.since) * 6 / 10)
            let h := h.setReadyList list fun l => { l with cores := setAt c (fun (x : Core) => { x with saved := displaced :: x.saved }) l.cores }
            let h := ((h.charge list o.group 48).addBusy list c 48).startOn list c o
            if list < 16 then h.setTile list fun t => { t with preempts := satInc 0xFFFF t.preempts } else h) s

end Sys2Proof.Machine
end

