-- ==== Sys2Proof/Machine/Modules.lean ====
section
/-! DEFINITION. Operation modules: their files (Tables 11-14 and 11-15), the checks of R311, and the commands of block 0x09
(R316). -/
namespace Sys2Proof.Machine

/-! ### The module file -/

/-- The constants of a module: 24-bit values in 32-bit containers (R5). -/
def constWords (bs : List Byte) (n : Nat) : List Nat := (List.range n).map fun i => field bs (4 * i) 3

/-- Is a key slot neither revoked nor empty (Table 17-2)? -/
def Head.slotUsable (h : Head) (slot : Nat) : Bool :=
  slot < 4 && !bit h.sec.revoked slot && (h.sec.slotHash.getD slot []).any fun b => b ≠ 0

/-- Does the signature at the end of a module file verify under its key slot (R311)? -/
def Head.moduleSigned (h : Head) (file : List Byte) : Bool :=
  let n := file.length - 96
  let slot := field file 7 1
  h.slotUsable slot && Config.slotVerify (h.sec.slotHash.getD slot []) (Config.sha384 (file.take n)) (file.drop n)

/-- The entries of a module file (Table 11-15). -/
def moduleEntries (file : List Byte) (n : Nat) : List ModuleEntry :=
  (List.range n).map fun i =>
    let o := 64 + 16 * i
    { offset := field file o 4, cost := field file (o + 4) 2, hook := field file (o + 6) 1, kinds := field file (o + 7) 1 }

/-- Read a module file: none when a field is out of its range, a reserved byte is not 0 or the sizes do not add up (R311). -/
def readModule (file : List Byte) (id : Nat) (byCommand : Bool) : Option Module :=
  let massif := field file 6 1 = 1
  let unit := if massif then 8 else 4
  let n := field file 10 1
  let codeBytes := field file 16 4
  let constBytes := field file 20 4
  let entries := moduleEntries file n
  let start := 64 + 16 * n
  let count := codeBytes / unit
  let entryOk (i : Nat) (e : ModuleEntry) : Bool :=
    e.offset < count && (if massif then e.hook = 4 else 1 ≤ e.hook && e.hook ≤ 3) && e.kinds < 8 && zeros file (72 + 16 * i) 8
  if file.length < 160 || field file 0 4 ≠ 0x4D4F5956 || field file 4 2 ≠ 1 || field file 6 1 > 1 || field file 7 1 > 3
      || field file 8 2 ≠ id || id < 1 || id > 65534 || n < 1 || n > 8 || field file 11 1 > 8
      || codeBytes % unit ≠ 0 || codeBytes > (if massif then 131072 else 49152) || constBytes % 4 ≠ 0 || constBytes > 65536
      || field file 24 2 < 1 || field file 24 2 > 256 || !zeros file 26 38
      || file.length ≠ start + codeBytes + constBytes + 96 || !((entries.mapIdx entryOk).all fun b => b) then none
  else some {
    id, massif, keySlot := field file 7 1, version := field file 12 4, holdoff := field file 24 2, priv := field file 11 1, entries
    code := (List.range count).map fun i => field file (start + unit * i) unit
    consts := constWords (file.drop (start + codeBytes)) (constBytes / 4)
    bytes := file.length, byCommand }

/-- The static check of a module's code (R311). -/
def Module.check (m : Module) : Option Nat :=
  let entries := m.entries.map fun e => e.offset
  if m.massif then massifCheck m.code entries m.holdoff else torCheck m.code entries m.holdoff

/-- Entries of a module attached to axes. -/
def Head.attachedCount (h : Head) (id : Nat) : Nat := sumNat (h.axes.map fun a => (a.hooks.filter fun x => x.moduleId = id).length)

/-- This head's verdict on a complete file: the module, or the code of the first check that refuses it (R311, R316). -/
def Head.judgeModule (h : Head) (file : List Byte) (id : Nat) (byCommand : Bool) : Except Nat Module :=
  if !h.moduleSigned file then .error Status.moduleSignature
  else match readModule file id byCommand with
    | none => .error Status.moduleFormat
    | some m =>
      if m.check = some Status.moduleFormat then .error Status.moduleFormat
      else if h.compute.versions.any fun v => v.1 = id && v.2 > m.version then .error Status.moduleRollback
      else if h.attachedCount id > 0 then .error Status.moduleInUse
      else match m.check with
        | some status => .error status
        | none => .ok m

/-- Keep an accepted module, in place of one of the same MODULE_ID (R311, R316). -/
def Head.keepModule (h : Head) (m : Module) : Head :=
  let top := ((h.compute.versions.find? fun v => v.1 = m.id).map fun v => v.2).getD 0
  { h with compute := { h.compute with
      modules := putKey (fun x => x.id) m h.compute.modules
      versions := putKey (fun v => v.1) (m.id, max top m.version) h.compute.versions } }

/-! ### LOAD_MODULE -/

/-- The file after one more chunk of a load: its TOTAL and bytes; none where the chunk does not fit (R316). -/
def addChunk (load : Option (Nat × List Byte)) (c : List Byte) : Option (Nat × List Byte) :=
  let offset := field c 0 4
  let total := field c 4 4
  let data := c.drop 8
  let start := if offset = 0 then some [] else match load with
    | some (t, bs) => if t = total && offset = bs.length then some bs else none
    | none => none
  start.bind fun bs =>
    if total < 64 || total > 262144 || bs.length + data.length > total then none else some (total, bs ++ data)

/-- The file after all chunks of an item; nothing may follow the chunk that completes it. DEDUCED (log 55). -/
def addChunks : Option (Nat × List Byte) → List (List Byte) → Option (Nat × List Byte)
  | load, [] => load
  | load, c :: rest => match addChunk load c with
    | none => none
    | some (t, bs) => if bs.length = t && !rest.isEmpty then none else addChunks (some (t, bs)) rest

/-- A load of another module is incomplete. -/
def otherLoad (p : Packet) (h : Head) : Bool := h.compute.loading.any fun l => l.1 ≠ p.target

/-- The load that a chunk for TARGET continues. -/
def loadOf (p : Packet) (h : Head) : Option (Nat × List Byte) :=
  h.compute.loading.bind fun l => if l.1 = p.target then some (l.2.1, l.2.2.1) else none

/-- The peer head's verdict, which it gives from its own state: a free value; none without a peer (R316).
DEDUCED (log 55). -/
def Head.peerVerdict (h : Head) : Head × Option Nat :=
  if h.sys.role = .active && h.peer.saddleUp then
    let (n, h) := h.drawNat
    (h, some ([Status.ok, Status.moduleSignature, Status.moduleFormat, Status.moduleRollback, Status.moduleInUse,
      Status.holdoffLimit].getD (n % 6) Status.ok))
  else (h, none)

/-- The completing chunk: both heads check the file, and the module is kept when neither refuses it (R316). -/
def Head.finishModule (h : Head) (p : Packet) (file : List Byte) : Effect :=
  let own := h.judgeModule file p.target true
  let (h, peer) := h.peerVerdict
  let code := match peer with | none => 0 | some 0 => 1 | some _ => 2
  let status := match own, peer with
    | .error e, _ => e
    | .ok _, some s => s
    | .ok _, none => Status.ok
  let h := match own with
    | .ok m =>
      if status ≠ Status.ok then h
      else
        let h := h.keepModule m
        if h.commands then h.postHost 0x0901 p.target p else h.post 0x0901 0 p.target []
    | .error _ => h
  { head := h, wait := some .moduleChecked, final := some (status, pack [(1, code), (3, 0)]) }

/-- LOAD_MODULE (R311, R316). -/
def loadModuleCmd : Command :=
  { opcode := 0x0901, cls := .maintain, len := fun b => 9 ≤ b.length && b.length ≤ 4080, chain := true, active := true
    mirrored := true
    stateOk := fun _ h => h.inMode [.commission]
    paramOk := fun p h => 1 ≤ p.target && p.target ≤ 65534
      && (otherLoad p h || (addChunks (loadOf p h) (chunks p)).isSome)
    refusals := fun p h => [(otherLoad p h, Status.busy)]
    effect := fun p h => match addChunks (loadOf p h) (chunks p) with
      | none => { head := h }
      | some (total, file) =>
        if file.length = total then
          Head.finishModule { h with compute := { h.compute with loading := none } } p file
        else { head := { h with compute := { h.compute with loading := some (p.target, total, file, h.now) } } } }
def execLoadModule (p : Packet) (s : State) : Host.Outcome State Fault Refusal := hostExec loadModuleCmd p s

/-- MODULE_LOAD_TIMEOUT: 10 s without a chunk (R316). -/
def execModuleLoadTimeout (s : State) : Host.Outcome State Fault Refusal :=
  eventExec true (fun h =>
    if h.compute.loading.any fun l => h.now ≥ l.2.2.2 + 10000000000 then
      { h with compute := { h.compute with loading := none } }
    else h) s

/-! ### The other commands of block 0x09 -/

/-- GET_MODULE. -/
def getModuleCmd : Command :=
  observeCommand 0x0900 0 Head.fromCommission (fun p h => (h.module? p.target).isSome) (fun _ _ => []) fun p h =>
    match h.module? p.target with
    | none => []
    | some m => pack [(1, flag m.massif 0), (1, m.entries.length), (2, m.holdoff), (4, m.version), (4, m.bytes),
        (2, h.attachedCount m.id), (1, m.keySlot), (1, flag m.byCommand 0), (4, m.faults), (4, 0)]
def execGetModule (p : Packet) (s : State) : Host.Outcome State Fault Refusal := hostExec getModuleCmd p s

/-- DELETE_MODULE. -/
def deleteModuleCmd : Command :=
  { blockCommand 0x0902 .configure 0 [.commission] true
      (fun p h => (h.module? p.target).isSome)
      (fun p h => [(h.attachedCount p.target > 0, Status.moduleInUse)])
      (fun p h => { head := { h with compute := { h.compute with modules := h.compute.modules.filter fun m => m.id ≠ p.target } } }) with
    stateOk := fun p h => h.inMode [.commission] && !((h.module? p.target).any fun m => !m.byCommand) }
def execDeleteModule (p : Packet) (s : State) : Host.Outcome State Fault Refusal := hostExec deleteModuleCmd p s

/-- The entry that ATTACH_OPERATION names. -/
def attachEntry? (p : Packet) (h : Head) : Option (Module × ModuleEntry) :=
  (h.module? (pu p 4 2)).bind fun m => (m.entries[pu p 6 1]?).map fun e => (m, e)

/-- Is this axis of a kind the entry takes, at a hook that its graph has (Tables 11-15 and 11-16)? -/
def ModuleEntry.fits (e : ModuleEntry) (a : Axis) : Bool := match a.kind with
  | .segment => bit e.kinds (if a.rotary then 1 else 0) && e.hook ≤ 3
  | .mover => bit e.kinds 2 && e.hook = 4
  | .stepper => false

/-- The axis with one more entry attached, its hooks rising. -/
def Axis.attach (a : Axis) (m : Module) (e : ModuleEntry) (entry : Nat) : Axis :=
  let x : Attachment := { hook := e.hook, moduleId := m.id, entry, priv := List.replicate m.priv 0, fresh := true }
  { a with hooks := putKey (fun y => y.hook) x a.hooks }

/-- Block 0x09 attaches and detaches while the axis is DISABLED. -/
def hooksOpen (p : Packet) (h : Head) : Bool :=
  h.inMode [.commission] && (match targetAxis? p h with | some a => a.state = .disabled | none => true)

/-- ATTACH_OPERATION (R315). -/
def attachOperationCmd : Command :=
  { blockCommand 0x0903 .configure 8 [.commission] true
      (fun p h => axisRefOk p false && pz p 7 1 && (targetAxis? p h).isSome && (attachEntry? p h).isSome)
      (fun p h => match targetAxis? p h, attachEntry? p h with
        | some a, some (m, e) =>
          [(!e.fits a, Status.hookMismatch), (epochStale p a, Status.epochStale),
           (a.hooks.any fun x => x.hook = e.hook, Status.conflict),
           ((h.findPlace (a.attach m e (pu p 6 1)) 0 fun _ => true).isNone, Status.noCapacity)]
        | _, _ => [])
      (fun p h => match attachEntry? p h with
        | some (m, e) =>
          let h := h.setAxis (p.target % 4096) fun a => a.attach m e (pu p 6 1)
          { head := { h with compute := { h.compute with changed := true } } }
        | none => { head := h }) with
    stateOk := hooksOpen }
def execAttachOperation (p : Packet) (s : State) : Host.Outcome State Fault Refusal := hostExec attachOperationCmd p s

/-- DETACH_OPERATION. -/
def detachOperationCmd : Command :=
  { blockCommand 0x0904 .configure 8 [.commission] true
      (fun p h => axisRefOk p false && 1 ≤ pu p 4 1 && pu p 4 1 ≤ 4 && pz p 5 3
        && (targetAxis? p h).any fun a => a.hooks.any fun x => x.hook = pu p 4 1)
      (fun p h => [((targetAxis? p h).any fun a => epochStale p a, Status.epochStale)])
      (fun p h =>
        let h := h.setAxis (p.target % 4096) fun a => { a with hooks := a.hooks.filter fun x => x.hook ≠ pu p 4 1 }
        { head := { h with compute := { h.compute with changed := true } } }) with
    stateOk := hooksOpen }
def execDetachOperation (p : Packet) (s : State) : Host.Outcome State Fault Refusal := hostExec detachOperationCmd p s

end Sys2Proof.Machine
end

