-- ==== Sys2Proof/Machine/Images.lean ====
section
/-! DEFINITION. Signed images: the header (Table 17-3), the checks of R422, record selection (R426), and the writing of an
image set (R427, R437). -/
namespace Sys2Proof.Machine

/-! ### The header -/

/-- Bytes of header and signature around a body (Table 17-3). -/
abbrev imageFrame : Nat := 256 + 96

/-- The MAGIC and largest BODY_BYTES of a KIND (Table 17-3). -/
def imageMagic : Nat → Nat
  | 1 => 0x31535956 | 2 => 0x47435956 | _ => 0x43525956
def imageLimit : Nat → Nat
  | 1 => 1048224 | 2 => 62914048 | _ => 65280

abbrev imageKind (file : List Byte) : Nat := field file 6 1
abbrev imageSlot (file : List Byte) : Nat := field file 7 1
abbrev imageRollback (file : List Byte) : Nat := field file 8 1
abbrev imageGeneration (file : List Byte) : Nat := field file 16 4

/-- The signer's public key. -/
def imageKey (file : List Byte) : List Byte := (file.drop 32).take 97

/-- The body between header and signature. -/
def imageBody (file : List Byte) : List Byte := (file.drop 256).take (file.length - imageFrame)

/-- Every header field lies in range and every reserved byte is 0 (R422). -/
def imageHeaderOk (file : List Byte) : Bool :=
  let kind := imageKind file
  let n := field file 12 4
  1 ≤ kind && kind ≤ 3 && field file 0 4 = imageMagic kind && field file 4 2 = 1
    && (imageSlot file < 4 || (kind = 1 && imageSlot file = 0xFF)) && imageRollback file ≤ 64
    && zeros file 9 3 && n % 16 = 0 && n ≤ imageLimit kind && file.length = imageFrame + n
    && (if kind = 3 then 1 ≤ imageGeneration file && imageGeneration file ≤ 0xFFFFFFFE else imageGeneration file = 0)
    && zeros file 20 12 && field file 32 1 = 4 && zeros file 129 31 && (kind = 3 || zeros file 160 48) && zeros file 208 48

/-- The hash that the signer's key must have: the root key's, Belnak's own for stage-1 in BLANK, or a usable slot's
(R422, R425). -/
def Head.signerHash? (h : Head) (file : List Byte) : Option (List Byte) :=
  if imageSlot file = 0xFF then some (if h.sec.lifecycleNow = 0 then Config.belnakKeyHash else h.sec.rootHash)
  else if h.slotUsable (imageSlot file) then some (h.sec.slotHash.getD (imageSlot file) []) else none

/-- The key hashes to what it must, and the signature over every byte before it verifies. -/
def Head.imageSigned (h : Head) (file : List Byte) : Bool :=
  let n := file.length - 96
  h.signerHash? file = some (Config.sha384 (imageKey file))
    && Config.ecdsaVerify (imageKey file) (Config.sha384 (file.take n)) (file.drop n)

/-- An intact image (R422). -/
def Head.intact (h : Head) (file : List Byte) : Bool := imageHeaderOk file && h.imageSigned file

/-- An intact image of a kind whose ROLLBACK is at least the counter (R422). -/
def Head.imageAdmissible (h : Head) (file : List Byte) : Bool := imageRollback file ≥ h.sec.rollback

/-! ### Record selection -/

/-- Does a record belong to this configuration image (R426)? -/
def recordOf (image file : List Byte) : Bool := (file.drop 160).take 48 = Config.sha384 image

/-- A record copy that may be selected (R426). -/
def Head.candidate (h : Head) (image file : List Byte) : Bool :=
  imageKind file = 3 && h.intact file && h.imageAdmissible file && recordOf image file

/-- The outcome of the selection: a copy and its bytes, or the BOOT_CODE of Table 17-8. -/
inductive Selection where
  | selected (copy : Nat) (file : List Byte)
  | none (code : Nat)
  deriving DecidableEq, Repr

/-- Select among record copies, in order (R426). -/
def Head.selectRecord (h : Head) (image : List Byte) (copies : List (List Byte)) : Selection :=
  let good := (copies.zipIdx.filter fun c => h.candidate image c.1)
  let top := good.foldl (fun m c => max m (imageGeneration c.1)) 0
  match good.filter fun c => imageGeneration c.1 = top with
  | [] => .none (if copies.any fun c => imageKind c = 3 && h.intact c then 0x0C else 0x0A)
  | (file, copy) :: rest => if rest.all fun c => c.1 = file then .selected copy file else .none 0x0B

/-! ### Writing an image set -/

/-- The files of a set: stage-1, image, record copies 0-2 (Table 17-4). -/
def Head.imageSet (h : Head) (set : Nat) : List (List Byte) := if set = 0 then h.sec.primary else h.sec.alternate

/-- Place a file of the set. -/
def Head.setFile (h : Head) (set index : Nat) (file : List Byte) : Head :=
  let place := setAt index fun _ => file
  if set = 0 then { h with sec := { h.sec with primary := place h.sec.primary } }
  else { h with sec := { h.sec with alternate := place h.sec.alternate } }

/-- Highest generation among the intact copies of a set (R427). -/
def Head.topGeneration (h : Head) (set : Nat) : Nat :=
  ((h.imageSet set).drop 2).foldl (fun m c => if imageKind c = 3 && h.intact c then max m (imageGeneration c) else m) 0

/-- A file with its GENERATION field written. DEDUCED (log 66). -/
def withGeneration (file : List Byte) (g : Nat) : List Byte := file.take 16 ++ leBytes 4 g ++ file.drop 20

/-- Write one file and read it back: whether the read-back agrees is free; where it does not, so is what stands there.
DEDUCED (log 66). -/
def Head.writeFile (h : Head) (set index : Nat) (file : List Byte) : Head × Bool :=
  let (n, h) := h.drawNat
  if n % 2 = 0 then (h.setFile set index file, true)
  else
    let (bytes, h) := h.drawBytes file.length
    (h.setFile set index bytes, false)

/-- Write record copies in order until one fails to read back (R427). -/
def Head.writeCopies (h : Head) (set : Nat) (file : List Byte) : List Nat → Head × Bool
  | [] => (h, true)
  | index :: rest =>
    let (h, ok) := h.writeFile set index file
    if ok then h.writeCopies set file rest else (h, false)

/-- Write a checked file to its place in a set (R427). DEDUCED (log 66). -/
def Head.writeImage (h : Head) (set : Nat) (file : List Byte) : Head × Bool :=
  if imageKind file = 3 then h.writeCopies set (withGeneration file (h.topGeneration set + 1)) [2, 3, 4]
  else h.writeFile set (imageKind file - 1) file

/-! ### The chunks of WRITE_IMAGE -/

/-- The file after one more chunk: its TOTAL and bytes; none where the chunk does not continue it (R437, as R316). -/
def addImageChunk (load : Option (Nat × List Byte)) (c : List Byte) : Option (Nat × List Byte) :=
  let offset := field c 0 4
  let total := field c 4 4
  let data := c.drop 12
  let start := if offset = 0 then some [] else match load with
    | some (t, bs) => if t = total && offset = bs.length then some bs else none
    | none => none
  start.bind fun bs => if bs.length + data.length > total then none else some (total, bs ++ data)

/-- The file after every chunk of an item; nothing may follow the one that completes it. -/
def addImageChunks : Option (Nat × List Byte) → List (List Byte) → Option (Nat × List Byte)
  | load, [] => load
  | load, c :: rest => match addImageChunk load c with
    | none => none
    | some (t, bs) => if bs.length = t && !rest.isEmpty then none else addImageChunks (some (t, bs)) rest

/-- The transfer that an item for this set continues. -/
def Head.transferOf (h : Head) (set : Nat) : Option (Nat × List Byte) :=
  h.sec.transfer.bind fun t => if t.object = set then some (t.total, t.bytes) else none

/-- The set that the head booted from: none after a recovery boot. -/
def Head.bootedSet (h : Head) (set : Nat) : Bool := h.sys.bootsel = set && set < 2

end Sys2Proof.Machine
end

