-- ==== Sys2Proof/Machine/Enable.lean ====
section
/-! DEFINITION. AXIS_ENABLE and AXIS_DISABLE (R101, R119, R205, R221, R337). -/
namespace Sys2Proof.Machine

/-- A mover axis that may be enabled: a defined mover uses it, its segment line is complete, it holds a segment or
AUTO_HANDOVER is set, and its observer has a fix (R100, R115, R256). -/
def Head.moverReady (h : Head) (a : Axis) : Bool := match h.moverOfAxis? a.id with
  | none => false
  | some m => h.lineComplete m.track && (m.autoHandover || !(h.held m.id).isEmpty)
      && m.obs.state ≠ .noFix && m.obs.state ≠ .settling

/-- May an axis be enabled (AXIS_ENABLE, R256)? -/
def Head.mayEnable (h : Head) (a : Axis) : Bool := match a.kind with
  | .mover => h.moverReady a
  | .segment => !a.rotary || ((h.obsOf a).state ≠ .noFix && (h.obsOf a).state ≠ .settling)
  | .stepper => true

/-- A stepper axis as it is enabled: with ENCODER set and a valid reading the commanded position follows the encoder and
HOMED is kept; else the last commanded position stands and HOMED is clear (R337). -/
def Head.enableStepper (h : Head) (a : Axis) : Head :=
  let enc := h.encoder? a
  let h := h.setStep a.id fun s =>
    let pos := match enc with
      | some e => (s.encoderSteps e + s.encOffset) * 65536
      | none => s.pos
    { s with
      pos, vel := 0, ramp := none, state := .idle, group := none, homing := none, target := roundDiv pos 65536
      flags := if enc.isSome && s.keepHomed then s.flags ||| 1 else s.flags &&& ~~~(1#16) }
  if a.localStep then
    let pos := ((h.axis? a.id).map fun x => x.step.pos).getD 0
    { h with steps := setAt a.stepChannel (fun c =>
        { c with acc := pos * 65536, vel := 0, next := 0, ticks := 0, opened := h.time.cycleStart }) h.steps }
  else h

/-- Enable a DISABLED axis: set-points and loop preset, the stepper placed, the mover's hand-over entries armed (R189, R205).
DEDUCED (log 31). -/
def Head.enableAxis (h : Head) (a : Axis) : Head :=
  if a.state ≠ .disabled then h
  else
    let h := h.setAxis a.id fun x => { (if x.profiled then h.presetAxis x else x) with state := .enabled }
    let h := if a.kind = .stepper then h.enableStepper a else h
    match h.moverOfAxis? a.id with
    | some m => h.armHandover m.id
    | none => h

/-- Disable an axis at rest, or one that is no mover, at once. DEDUCED (log 31). -/
def Head.disableNow (h : Head) (a : Axis) : Head :=
  let h := h.dropAxis a
  (h.setAxis a.id fun x => { x with state := .disabled, step := x.step.leave (x.state = .enabled) }).freeHandover a.id

/-- AXIS_ENABLE and AXIS_DISABLE: TARGET is an axis not in BELAY. -/
def enableCommand (opcode : Nat) (state : Axis → Head → Bool) (effect : Axis → Head → Effect) : Command :=
  { blockCommand opcode .operate 4 [] true
      (fun p h => (targetAxis? p h).isSome && axisRefOk p false)
      (fun p h => [((targetAxis? p h).any fun a => epochStale p a, Status.epochStale)])
      (fun p h => match targetAxis? p h with
        | some a => effect a h
        | none => { head := h }) with
    stateOk := fun p h => h.inMode [.commission, .service, .rescue] && match targetAxis? p h with
      | some a => a.state ≠ .belay && state a h
      | none => true }

/-- AXIS_ENABLE; of an axis that is ENABLED already it answers OK. DESIGN CHOICE (log 101). -/
def axisEnableCmd : Command :=
  enableCommand 0x0313 (fun a h => a.state = .enabled || h.mayEnable a) fun a h => { head := h.enableAxis a }
def execAxisEnable (p : Packet) (s : State) : Host.Outcome State Fault Refusal := hostExec axisEnableCmd p s

/-- AXIS_DISABLE: a moving mover stops on QSTOP first, its brakes apply, and then the final reply follows (R221). -/
def axisDisableCmd : Command :=
  enableCommand 0x0314 (fun _ _ => true) fun a h =>
    if a.profiled && a.state = .enabled && !a.atRest then
      { head := h.startStop a true false .disable, wait := some (.disabled a.id) }
    else { head := h.disableNow a }
def execAxisDisable (p : Packet) (s : State) : Host.Outcome State Fault Refusal := hostExec axisDisableCmd p s

end Sys2Proof.Machine
end

