-- ==== Sys2Proof/Machine/Replica.lean ====
section
/-! DEFINITION. The mirror as a whole: the changes, the refresh, the snapshot and the log replay that the active head sends
(R381, R384, R385), the sections that the standby head takes (R383), and the state of its readiness (R384, R386). -/
namespace Sys2Proof.Machine

/-! ### Records of changes (Table 15-2) -/

/-- The sources of the mirrored kinds in one order: ranges, axes, nodes, branch channels (R418). -/
def mirrorSource (i : Nat) : Nat :=
  if i < 8 then srcRange i else if i < 4104 then srcAxis (i - 8) else if i < 5128 then srcNode (i - 4104) else 0x5000 + (i - 5128)

/-- How many there are. -/
abbrev mirrorSources : Nat := 5192

/-- A CAL_STATE record. -/
def Head.calStateRecord (h : Head) (n : Nat) : List Byte := match h.cal.entries.find? fun e => e.entry = n with
  | some e => leBytes 4 (n + 8192 * (match e.state with | .armed => 0 | .waiting => 1) + 65536 * (e.fired % 65536))
  | none => leBytes 4 (n + 8192 * 2)

/-- A CAL_DEF record. -/
def calDefRecord (n : Nat) (params : List Byte) : List Byte := leBytes 2 n ++ leBytes 2 0 ++ padTo 28 params

/-- Does a source's object stand in BELAY? -/
def Head.sourceBelay (h : Head) (source : Nat) : Bool := match source / 4096 with
  | 2 => (h.range (source % 4096)).state = .belay
  | 3 => (h.axis? (source % 4096)).any fun a => a.state = .belay
  | _ => false

/-- A LATCH record (R418). DEDUCED (log 63). -/
def Head.latchRecord (h : Head) (source : Nat) : List Byte :=
  let sev := ((h.latch? source).bind fun l => l.highest).getD 0
  pack [(2, source), (2, sev + flag (h.sourceBelay source) 3), (4, (h.latchWord source).toNat)]

/-- Kind and record of a change. -/
def Head.changeRecord (h : Head) : MirrorChange → Nat × List Byte
  | .calDef n params => (5, calDefRecord n params)
  | .calState n => (4, h.calStateRecord n)
  | .latch source => (6, h.latchRecord source)

/-! ### The 2,048 bytes of a cycle (R381) -/

/-- Take changes in order, as long as they fit `room` bytes with the headers of the sections they make: the sections, the
bytes left, the changes left. DEDUCED (log 60). -/
def Head.packChanges (h : Head) : Nat → List (Nat × Nat × List Byte) → List MirrorChange →
    List (Nat × Nat × List Byte) × Nat × List MirrorChange
  | room, acc, [] => (acc, room, [])
  | room, acc, c :: rest =>
    let (kind, record) := h.changeRecord c
    match acc.getLast? with
    | some (k, n, body) =>
      if k = kind then
        if record.length ≤ room then
          h.packChanges (room - record.length) (acc.dropLast ++ [(k, n + 1, body ++ record)]) rest
        else (acc, room, c :: rest)
      else if record.length + 8 ≤ room then h.packChanges (room - record.length - 8) (acc ++ [(kind, 1, record)]) rest
      else (acc, room, c :: rest)
    | none =>
      if record.length + 8 ≤ room then h.packChanges (room - record.length - 8) [(kind, 1, record)] rest
      else (acc, room, c :: rest)

/-- The rolling refresh: 16 calendar states and 16 latches, where they fit. DEDUCED (log 60). -/
def Head.sendRefresh (h : Head) (room : Nat) : Head :=
  let at_ (k : Nat) : List Nat := (List.range 16).map fun i => (h.peer.refresh + i) % k
  if room < 208 then h
  else
    let h' := h.mirror 4 16 0 ((at_ 8192).map h.calStateRecord).flatten
    let h' := h'.mirror 6 16 0 ((at_ mirrorSources).map fun i => h.latchRecord (mirrorSource i)).flatten
    { h' with peer := { h'.peer with refresh := (h.peer.refresh + 16) % 8192 } }

/-- The calendar and latch sections of a cycle. -/
def Head.sendChanges (h : Head) : Head :=
  let (sections, room, left) := h.packChanges 2048 [] h.peer.changes
  let h := sections.foldl (init := h) fun (h : Head) s => h.mirror s.1 s.2.1 0 s.2.2
  Head.sendRefresh { h with peer := { h.peer with changes := left } } room

/-! ### Snapshot and replay (R385) -/

/-- Bytes that the snapshot and the replay may take in this cycle. -/
def Head.bulkBudget (h : Head) : Nat := match h.schedule? with
  | some s => min 16384 (2400 * h.cycleNs / 1000 - h.saddleLoad s) - h.peer.settingBytes
  | none => 16384 - h.peer.settingBytes

/-- The next piece of the snapshot or replay: the head after sending it, and its bytes; none when all is sent. -/
def Head.bulkPiece (h : Head) : Option (Head × Nat) :=
  match h.peer.replay.bind fun n => h.peer.log.find? fun s => s.seq = n with
  | some s =>
    let body := s.bytes
    let h := h.sendSection 7 1 0 body
    some ({ h with peer := { h.peer with replay := some (s.seq + 1) } }, body.length + 8)
  | none =>
    if h.peer.sendCal < 8192 then
      let ns := (List.range 32).map fun i => h.peer.sendCal + i
      let defs := h.cal.entries.filter fun e => e.entry ≥ 1024 && ns.contains e.entry
      let h' := if defs.isEmpty then h else
        h.mirror 5 defs.length 0 ((defs.map fun e => calDefRecord e.entry e.params).flatten)
      let h' := h'.mirror 4 32 0 ((ns.map h.calStateRecord).flatten)
      some ({ h' with peer := { h'.peer with replay := none, sendCal := h.peer.sendCal + 32 } },
        136 + if defs.isEmpty then 0 else 8 + 32 * defs.length)
    else if h.peer.sendLatch < mirrorSources then
      let n := min 128 (mirrorSources - h.peer.sendLatch)
      let h' := h.mirror 6 n 0 (((List.range n).map fun i => h.latchRecord (mirrorSource (h.peer.sendLatch + i))).flatten)
      some ({ h' with peer := { h'.peer with sendLatch := h.peer.sendLatch + n } }, 8 + 8 * n)
    else none

/-- Pieces as long as the budget lasts; the first one of a cycle may be longer than the budget. DEDUCED (log 60). -/
def sendPieces : Nat → Nat → Bool → Head → Head
  | 0, _, _, h => h
  | k + 1, room, first, h => match h.bulkPiece with
    | none => h
    | some (h', n) => if n ≤ room || first then sendPieces k (room - n) false h' else h

/-- Is the whole log replayed and the snapshot sent? -/
def Peer.bulkSent (x : Peer) : Bool := x.replay.isNone && x.sendCal ≥ 8192 && x.sendLatch ≥ mirrorSources

/-- Begin the replay of the log and a full snapshot (R384). -/
def Head.startBulk (h : Head) : Head :=
  { h with peer := { h.peer with
    mirror := .syncing, replay := (h.peer.log.getLast?.map fun s => s.seq), sendCal := 0, sendLatch := 0 } }

/-- What an active head sends at the opening of a cycle besides its heartbeat (R381, R385). -/
def Head.sendMirror (h : Head) : Head :=
  if h.sys.role = .active && h.peer.saddleUp then
    let h := h.sendChanges
    if h.peer.bulkSent then h else sendPieces 256 h.bulkBudget true h
  else h

/-! ### Readiness of a standby head (R384, R386) -/

/-- Enter SYNCING. -/
def Head.startSync (h : Head) : Head :=
  { h with peer := { h.peer with
    mirror := .syncing, completeRun := 0, badRun := 0, snapCal := 8192, snapLatch := mirrorSources, settingSeq := 0
    waiting := [], log := [], logBytes := 0, logFull := false } }

/-- A READY mirror returns to SYNCING. DEDUCED (log 76). -/
def Head.loseReady (h : Head) : Head :=
  if h.peer.mirror = .ready then { h with peer := { h.peer with mirror := .syncing, completeRun := 0, badRun := 0 } } else h

/-- IMAGE_DIGEST (Table 15-3). -/
def Head.imageDigest (h : Head) : Nat := leNat ((Config.sha384 h.sec.image).take 8)

/-- READY once every condition holds: PEER_READY. -/
def Head.judgeReady (h : Head) : Head :=
  let p := h.peer
  if p.mirror = .syncing && p.digest = h.imageDigest && p.seqs[2]? = some p.settingSeq && p.snapCal = 0 && p.snapLatch = 0
      && p.completeRun ≥ 64 && h.sec.halted.isEmpty then
    ({ h with peer := { p with mirror := .ready } }).post 0x0D05 0 0xFFFF []
  else h

/-- The mirror of the cycle before, judged by the active head's heartbeat. -/
def Head.judgeCycle (h : Head) (sections crc : Nat) : Head :=
  let got := h.peer.lastSections
  let whole : Bool := got.length = sections
  let same : Bool := crc32 got.flatten = crc
  let h : Head := { h with peer := { h.peer with
    completeRun := if whole && same then satInc 64 h.peer.completeRun else 0
    badRun := if whole && same then 0 else satInc 8 h.peer.badRun } }
  let h := if whole && !same then
      (Head.post { h with peer := { h.peer with diverged := satInc (2 ^ 32 - 1) h.peer.diverged } } 0x0D07 0 0xFFFF []).raise 0 19
    else h
  if h.peer.badRun ≥ 8 then h.loseReady else h

/-! ### Sections that a standby head takes (R383) -/

/-- A section: KIND, COUNT, FIRST and its body; none when its header is not legal (R379). -/
def readSection (bs : List Byte) : Option (Nat × Nat × Nat × List Byte) :=
  let kind := field bs 0 1
  if 8 ≤ bs.length && bs.length ≤ 4104 && 1 ≤ kind && kind ≤ 7 && zeros bs 1 1 && zeros bs 6 2 then
    some (kind, field bs 2 2, field bs 4 2, bs.drop 8)
  else none

/-- The records of a body, `n` bytes each. -/
def recordsOf (n count : Nat) (body : List Byte) : List (List Byte) :=
  (List.range count).map fun i => (body.drop (n * i)).take n

/-- Remember the cycle a record came from (R383). -/
def Head.noteRecord (h : Head) (kind object : Nat) : Head :=
  { h with peer := { h.peer with records := putKey (fun r => r.1) (kind * 65536 + object, h.time.cycle) h.peer.records } }

/-- A stepper's record (Table 15-5). -/
def Stepper.readRecord (s : Stepper) (b : List Byte) : Stepper :=
  { s with
    pos := sfield b 0 4 * 65536, vel := sfield b 4 4, target := sfield b 8 4, ramp := none, group := none, homing := none
    flags := BitVec.ofNat 16 (field b 12 2) &&& 0x1FC1, state := stepOf (field b 14 1) }

/-- AXIS. -/
def Head.takeNode (h : Head) (node : Nat) (records : List (List Byte)) : Head :=
  records.zipIdx.foldl (init := h) fun (h : Head) r => match h.axisAt? node r.2 with
    | none => h
    | some a =>
      let h := h.setAxis a.id fun a =>
        if a.kind = .stepper then { a with step := a.step.readRecord r.1 } else { a with loop := a.loop.read r.1 }
      h.noteRecord 2 a.id

/-- The observer of a record (Table 09-4). -/
def Observer.readRecord (o : Observer) (b : List Byte) : Observer :=
  { o with
    x := sfield b 0 6, v := sfield b 6 6, a := sfield b 12 5, predRun := field b 18 1
    state := match field b 17 1 with | 0 => .noFix | 1 => .settling | 2 => .tracking | _ => .predicting }

/-- The profile of a record; a target is held as a plan without phases until the head replans it (R388). -/
def Motion.readRecord (m : Motion) (t now : Nat) (b : List Byte) : Motion :=
  let word := field b 54 1
  let xSet := sfield b 36 6
  let vSet := sfield b 42 4
  let aSet := sfield b 46 4
  let move := moveOf (bits word 1 0)
  let release := bit word 4
  let dwell := field b 62 2
  { m with
    xSet, vSet, aSet, move, set := bits word 3 2, quick := bits word 3 2 = 3, brakeRelease := release
    plan := if move = .idle then none else some { t0 := t, x0 := xSet, v0 := vSet, a0 := aSet, phases := [], target := sfield b 50 4 }
    brakeWait := none, waitTarget := none
    dwellEnd := if move = .idle && release && dwell < 60000 then some (now + (m.holdDwell - dwell) * 1000000) else none }

/-- MOVER: observer, loop and profile state of one mover axis or rotary axis, and the mover's bound run (Table 15-4). -/
def Head.takeMover (h : Head) (b : List Byte) : Head :=
  let owner := field b 60 2
  let axis? := if owner < 256 then (h.mover? owner).bind fun m => h.axis? m.axis
    else (h.axis? (owner - 0x1000)).filter fun a => a.rotary && owner ≥ 0x1000
  match axis? with
  | none => h
  | some a =>
    let h := h.setAxis a.id fun a => { a with
      loop := a.loop.read ((b.drop 20).take 16)
      motion := a.motion.readRecord h.time.cycleStart h.now b
      state := match bits (field b 59 1) 1 0 with | 0 => .disabled | 1 => .enabled | _ => .belay
      obs := if a.rotary then a.obs.readRecord b else a.obs }
    let first := field b 56 2
    let count := field b 55 1
    let h := if owner < 256 then
        let h := h.setMover owner fun m => { m with
          obs := m.obs.readRecord b, track := field b 58 1 % 64, calX := some (roundDiv (sfield b 0 6) 65536) }
        h.setAxes (fun (s : Axis) => s.linear) fun s =>
          if s.track = field b 58 1 && first ≤ s.segIndex && s.segIndex < first + count then { s with mover := some owner }
          else if s.mover = some owner then { s with mover := none } else s
      else h
    h.noteRecord 3 owner

/-- CAL_DEF: the definition of a host entry; its state follows in a CAL_STATE record. -/
def Head.takeCalDef (h : Head) (b : List Byte) : Head :=
  let n := field b 0 2
  let x := b.drop 4
  if n < 1024 || n ≥ 8192 then h
  else
    let old := h.cal.entries.find? fun e => e.entry = n
    let dir := field x 2 1
    let e : CalEntry := {
      entry := n, mover := field x 0 1, track := field x 1 1, dir := dir % 4, rearm := bit dir 2, notify := bit dir 3
      action := field x 3 1, coord := sfield x 4 4, hyst := field x 8 4, param := padTo 16 ((x.drop 12).take 16)
      state := (old.map fun e => e.state).getD .waiting, fired := (old.map fun e => e.fired).getD 0
      last := (old.map fun e => e.last).getD 0, missed := false }
    { h with cal := { h.cal with entries := putKey (fun y => y.entry) e h.cal.entries } }

/-- CAL_STATE: a free entry goes; the others take the state and the low bits of FIRED. -/
def Head.takeCalState (h : Head) (b : List Byte) : Head :=
  let w := field b 0 4
  let n := w % 8192
  let state := bits w 14 13
  let h : Head := { h with peer := { h.peer with snapCal := h.peer.snapCal - flag (n + h.peer.snapCal = 8192) 0 } }
  let take (e : CalEntry) : CalEntry :=
    if e.entry = n then { e with state := if state = 0 then .armed else .waiting, fired := e.fired / 65536 * 65536 + w / 65536 } else e
  let entries := if state = 2 then h.cal.entries.filter fun e => e.entry ≠ n else h.cal.entries.map take
  { h with cal := { h.cal with entries } }

/-- The cut state of the other channel is part of its latches (R134). -/
def Head.takeCut (h : Head) (source : Nat) (cut : Bool) : Head :=
  let c := 1 - h.ownChannel
  if source / 32 = srcChannel 0 c / 32 then h.setBranch (source % 32) fun y => y.setChan c fun z => { z with cut } else h

/-- LATCH: the latch word of a mirrored source (R418). DEDUCED (log 63). -/
def Head.takeLatch (h : Head) (b : List Byte) : Head :=
  let source := field b 0 2
  let word := BitVec.ofNat 32 (field b 4 4)
  let next : Bool := 0 < h.peer.snapLatch && mirrorSource (mirrorSources - h.peer.snapLatch) = source
  let h : Head := { h with peer := { h.peer with snapLatch := h.peer.snapLatch - flag next 0 } }
  let old : Latch := (h.latch? source).getD { source, word := 0, counts := [], firstCycle := none }
  if !mirroredKind source || (word = 0 && old.word = 0) then h
  else
    let codes := (List.range 32).filter fun c => word.getLsbD c
    let counts := codes.map fun c => (old.counts.find? fun x => x.1 == c).getD (c, 1, h.time.cycle)
    let l : Latch := { source, word, counts, firstCycle := if word = 0 then none else some (old.firstCycle.getD h.time.cycle) }
    let h := if word.getLsbD 0 = old.word.getLsbD 0 then h else h.takeCut source (word.getLsbD 0)
    { h with faults := { h.faults with latches := putKey (fun l => l.source) l h.faults.latches } }

/-- The effect of a section on a standby head; `none` for a section whose length does not fit its COUNT. -/
def Head.takeSection (h : Head) (kind count first : Nat) (body : List Byte) : Option Head :=
  let size := match kind with | 2 => 16 | 3 => 64 | 4 => 4 | 5 => 32 | 6 => 8 | _ => 0
  if size = 0 || body.length ≠ size * count then none
  else
    let rs := recordsOf size count body
    some <| match kind with
      | 2 => h.takeNode first rs
      | 3 => rs.foldl (fun h r => h.takeMover r) h
      | 4 => rs.foldl (fun h r => h.takeCalState r) h
      | 5 => rs.foldl (fun h r => h.takeCalDef r) h
      | _ => rs.foldl (fun h r => h.takeLatch r) h

/-- MIRROR_SECTION_RX: the payload of a SADDLE_MIRROR frame of the cycle that runs (R379, R383); on the active head, a report of
the standby head's channels (R133, R145). -/
def execMirrorSectionRx (bytes : List Byte) (s : State) : Host.Outcome State Fault Refusal :=
  eventExec true (fun h =>
    if !h.peer.saddleUp then h
    else match readSection bytes with
      | none => h
      | some (kind, count, first, body) =>
        if h.sys.role = .active then (if kind = 6 && count = 1 && body.length = 16 then h.takeReport body else h)
        else if h.sys.role ≠ .standby then h
        else match h.takeSection kind count first body with
        | none => h
        | some h => { h with peer := { h.peer with sections := h.peer.sections ++ [body] } }) s

end Sys2Proof.Machine
end

