-- ==== Sys2Proof/Machine/Reset.lean ====
section
/-! DEFINITION. OFF, RESET and the entry to BOOT (Table 02-2, R38, R40, R41, R452, R453), SYSTEM_RESET (R66). -/
namespace Sys2Proof.Machine

/-! ### The backup domain's retention -/

/-- What BOOT does when the signature is not exact (R453); the alarm goes with the other retained registers (R454). -/
def Backup.restart (b : Backup) : Backup :=
  { b with
    signature := true, retValid := false, timeLost := true, centuryWrap := false, alarmFlag := false, alarm := none
    now := ⟨2000, 1, 1, 0, 0, 0⟩, ticks := 0, trimCount := 0, trim := 0, sync := true, syncDue := false
    lastEpoch := 0, words := List.replicate 8 none }

/-- The signature read at BOOT (R452, R453). DESIGN CHOICE (log 8). DEDUCED (log 73). -/
def Head.judgeRetention (h : Head) : Head :=
  if h.backup.signature then { h with backup := { h.backup with retValid := true } }
  else ({ h with backup := h.backup.restart }).post 0x1005 0 0xFFFF []

/-! ### RESET and OFF -/

/-- Balls, straps, supply, temperature, one-time-programmable memory, flash, the backup domain and the test access port go
through a reset; every other piece of state is lost (R40, R41), the head time too unless `keepTime`. -/
def Head.wiped (h : Head) (m : Mode) (keepTime : Bool) : Head :=
  let off : Bool := m = .off
  let power : Power :=
    { vin := h.power.vin, inputOpen := h.power.inputOpen, vinLow := h.power.vinLow, ldLimit := h.power.ldLimit
      pfdLimit := h.power.pfdLimit, ldShutdown := h.power.ldShutdown, pfdShutdown := h.power.pfdShutdown
      bkupLow := h.power.bkupLow, railsGood := h.power.railsGood, sequencing := h.power.sequencing
      retryDue := h.power.retryDue, retries := h.power.retries }
  let sec : Security :=
    { lifecycle := h.sec.lifecycle, lifecycleNow := h.sec.lifecycle, deviceId := h.sec.deviceId, rootHash := h.sec.rootHash
      slotHash := h.sec.slotHash, revoked := h.sec.revoked, rollback := h.sec.rollback, primary := h.sec.primary
      alternate := h.sec.alternate, tap := if off then .idcode else h.sec.tap, boundary := h.sec.boundary
      scanDrives := h.sec.scanDrives && !off, debugLevel := 0 }
  { sys := { mode := m, home := h.sys.home, bootsel := h.sys.bootsel, testN := h.sys.testN, porN := h.sys.porN, resetN := h.sys.resetN }
    sec, backup := { h.backup with syncDue := false }, power := if off then { railsGood := false } else power
    time := { head := if keepTime then h.time.head else 0 }, sent := h.sent, drawn := h.drawn }

/-- Entry to RESET or OFF: ALIVE stops (R414), everything else is lost. DEDUCED (log 70). -/
def Head.enterReset (h : Head) (m : Mode) (keepTime : Bool) : Head :=
  let h := if h.faults.aliveRun then h.post 0x0E04 4 0xFFFF [] else h
  h.wiped m keepTime

/-- Boundary scan is served in BLANK, and in RESET held by TEST_N (R432). -/
def Head.scanServed (h : Head) : Bool := h.sec.lifecycleNow = 0 || (h.sys.mode = .reset && !h.sys.testN)

/-- The debug level that BOOT starts with: D2 in BLANK and D1 in RETIRED without a session (Table 17-11).
DEDUCED (log 69). DESIGN CHOICE (log 91). -/
def bootDebug (lifecycle : Nat) : Nat := if lifecycle = 0 then 2 else if lifecycle = 3 then 1 else 0

/-- Entry to BOOT (R41, R42, R425): retention is judged, and a RETIRED part or a reserved BOOTSEL stops there.
DEDUCED (log 70). -/
def Head.enterBoot (h : Head) : Head :=
  let retired : Bool := h.sec.lifecycleNow = 3
  let reserved : Bool := h.sys.bootsel ≥ 4
  let code := if retired then 0x13 else if reserved then 0x01 else 0
  ({ h with
    sys := { h.sys with mode := .boot, modeTime := h.now, bootCode := code, bootFailed := code ≠ 0 }
    sec := { h.sec with debugLevel := bootDebug h.sec.lifecycleNow, scanDrives := h.sec.scanDrives && h.sec.lifecycleNow = 0 }
    }).judgeRetention

/-- RESET is left for BOOT with POR_N and RESET_N high and all rails good (Table 02-2), unless TEST_N holds it (R432). -/
def Head.tryBoot (h : Head) : Head :=
  if h.sys.mode = .reset && h.sys.porN && h.sys.resetN && h.power.railsGood && h.sys.testN then h.enterBoot else h

/-- A warm reset: RESET, then BOOT (R66). DEDUCED (log 70). -/
def Head.warmReset (h : Head) : Head := (h.enterReset .reset true).tryBoot

/-- RESET_N_FALL (R40). -/
def execResetNFall (s : State) : Host.Outcome State Fault Refusal :=
  eventExec true (fun h =>
    let h := { h with sys := { h.sys with resetN := false } }
    if h.fromBoot then h.enterReset .reset true else h) s

/-- RESET_N_RISE (Table 02-2). -/
def execResetNRise (s : State) : Host.Outcome State Fault Refusal :=
  eventExec true (fun h => ({ h with sys := { h.sys with resetN := true } } : Head).tryBoot) s

/-- POR_N low: RESET from every mode but OFF (Table 02-2). -/
def Head.fallPor (h : Head) : Head :=
  let h := { h with sys := { h.sys with porN := false } }
  if h.sys.mode = .off then h else h.enterReset .reset false

/-- POR_N_FALL. -/
def execPorNFall (s : State) : Host.Outcome State Fault Refusal := eventExec true Head.fallPor s

/-- POR_N_RISE: released by the PFD once the rails are good (R440); the straps are sampled (R41). -/
def execPorNRise (bootsel : Nat) (headSel testN : Bool) (s : State) : Host.Outcome State Fault Refusal :=
  eventExec (bootsel < 8) (fun h =>
    if h.sys.mode = .reset && !h.sys.porN && (h.power.railsGood || h.power.sequencing) then
      ({ h with
        sys := { h.sys with porN := true, bootsel, home := headSel, testN }
        power := { h.power with railsGood := true, sequencing := false }
        backup := { h.backup with loadDue := true } } : Head).tryBoot
    else h) s

/-! ### SYSTEM_RESET -/

/-- Write the replies that wait, as far as the ring takes them, before a reset. -/
def Head.drainReplies : Nat → Nat → Head → Head
  | 0, _, h => h
  | n + 1, q, h => drainReplies n q (h.writeCompletion q)

/-- A reset that follows the reply of an item (R66, R420). -/
def Head.resetAfter (h : Head) (p : Packet) : Head :=
  (Head.drainReplies (h.queue p.queue).replies.length p.queue h).warmReset

/-- SYSTEM_RESET (R66): an active or solo head that closes loops refuses it. -/
def systemResetCmd : Command :=
  { opcode := 0x0106, cls := .maintain, len := lenIs 4
    stateOk := fun _ h => h.inMode [.boot, .commission, .idle, .safe] || (h.sys.role = .standby && h.inMode [.service, .rescue])
    paramOk := fun p _ => noTarget p && pu p 0 1 = 0 && pz p 1 3
    effect := fun _ h => { head := h }
    after := fun p h => h.resetAfter p }
def execSystemReset (p : Packet) (s : State) : Host.Outcome State Fault Refusal := hostExec systemResetCmd p s

end Sys2Proof.Machine
end

