-- ==== Sys2Proof/Machine/Security.lean ====
section
/-! DEFINITION. Sessions (R429-R431), the commands of block 0x0F on keys, lifecycle and images (R420, R421, R427, R428, R437). -/
namespace Sys2Proof.Machine

/-! ### Sessions -/

/-- End the open debug session and return the level to `n`. -/
def Head.endDebug (h : Head) : Head := ({ h with sec := { h.sec with debugSession := none } } : Head).setDebugLevel 0

/-- Close a session, and the debug session that it opened (R431, R433). -/
def Head.closeSession (h : Head) (id : Nat) : Head :=
  let bound : Bool := h.sec.debugSession.any fun d => d.session = id
  let h := { h with sec := { h.sec with sessions := h.sec.sessions.filter fun s => s.id ≠ id } }
  if bound then h.endDebug else h

/-- A nonce of R429 that is still valid: its bytes. -/
def Head.nonce? (h : Head) : Option (List Byte) :=
  h.sec.nonce.bind fun n => if h.now ≤ n.2 + 10000000000 then some n.1 else none

/-- Sessions exist only where host keys do (R429). -/
def Head.keyed (h : Head) : Bool := h.sec.lifecycleNow = 1 || h.sec.lifecycleNow = 2

/-- SESSION_CHALLENGE (R429). DEDUCED (log 68). -/
def sessionChallengeCmd : Command :=
  { opcode := 0x0220, cls := .operate, len := lenIs 0
    stateOk := fun _ h => h.fromBoot && h.keyed
    paramOk := fun _ _ => true
    effect := fun _ h =>
      let (nonce, h) := h.drawBytes 48
      let nonce := padTo 48 nonce
      { head := { h with sec := { h.sec with nonce := some (nonce, h.now) } }, reply := nonce } }
def execSessionChallenge (p : Packet) (s : State) : Host.Outcome State Fault Refusal := hostExec sessionChallengeCmd p s

/-- The host's ephemeral key in SESSION_OPEN. -/
def openEphemeral (p : Packet) : List Byte := ((prm p).drop 4).take 97

/-- The signature of SESSION_OPEN verifies under the host key it names (R429). -/
def openSigned (p : Packet) (h : Head) : Bool := match h.sec.hostKeys[pu p 0 1]?, h.nonce? with
  | some k, some nonce =>
    Config.ecdsaVerify k.publicKey (Config.sha384 (nonce ++ leBytes 1 p.target ++ openEphemeral p)) (((prm p).drop 104).take 96)
  | _, _ => false

/-- The bytes of "VYRUM SESSION". -/
def sessionInfo : List Byte := [0x56, 0x59, 0x52, 0x55, 0x4D, 0x20, 0x53, 0x45, 0x53, 0x53, 0x49, 0x4F, 0x4E]

/-- The session that SESSION_OPEN opens, with the head's ephemeral key and CONFIRM (R429). DESIGN CHOICE (log 4). -/
def Head.openSession (h : Head) (p : Packet) (nonce : List Byte) (key : HostKey) : Effect :=
  let (priv, h) := h.drawBytes 48
  let own := padTo 97 (Config.publicOf priv)
  let sessionKey := Config.hkdf384 (Config.ecdhSecret priv (openEphemeral p)) nonce (sessionInfo ++ leBytes 1 p.target)
  let confirm := padTo 48 (Config.hmac384 sessionKey (openEphemeral p ++ own ++ nonce))
  let session : Session :=
    { id := p.target, key := sessionKey, classes := key.classes, keyIndex := pu p 0 1, highest := none, lastUse := h.now }
  { head := { h with sec := { h.sec with nonce := none, sessions := putKey (fun s => s.id) session h.sec.sessions } }
    reply := own ++ [0, 0, 0] ++ confirm }

/-- SESSION_OPEN: its statuses in the order its description gives (R429, R431). DEDUCED (log 68). -/
def sessionOpenCmd : Command :=
  { opcode := 0x0221, cls := .operate, len := lenIs 200
    stateOk := fun _ h => h.fromBoot && h.keyed
    paramOk := fun p h => pu p 0 1 < h.sec.hostKeys.length && pu p 0 1 < 4 && pz p 1 3 && pz p 101 3
      && 1 ≤ p.target && p.target ≤ 15 && Config.isCurvePoint (openEphemeral p)
    refusals := fun p h =>
      [ (h.nonce?.isNone, Status.timeout), (!openSigned p h, Status.notPermitted),
        ((h.session? p.target).isSome, Status.conflict) ]
    onRefuse := fun status _ h =>
      if status = Status.notPermitted then { h with sec := { h.sec with authFail := satInc (2 ^ 32 - 1) h.sec.authFail } } else h
    effect := fun p h => match h.nonce?, h.sec.hostKeys[pu p 0 1]? with
      | some nonce, some key => h.openSession p nonce key
      | _, _ => { head := h } }
def execSessionOpen (p : Packet) (s : State) : Host.Outcome State Fault Refusal := hostExec sessionOpenCmd p s

/-- SESSION_CLOSE: it needs the session's own MAC; the reply is the session's last (R430, R431). -/
def sessionCloseCmd : Command :=
  { opcode := 0x0222, cls := .operate, len := lenIs 0
    permitted := fun p _ => p.target < 1 || p.target > 15 || (hasMac p.flags && p.session = p.target)
    stateOk := fun _ h => h.fromBoot
    paramOk := fun p _ => 1 ≤ p.target && p.target ≤ 15
    effect := fun _ h => { head := h }
    after := fun p h => h.closeSession p.target }
def execSessionClose (p : Packet) (s : State) : Host.Outcome State Fault Refusal := hostExec sessionCloseCmd p s

/-- SESSION_IDLE_TIMEOUT (R431). -/
def execSessionIdleTimeout (session : Nat) (s : State) : Host.Outcome State Fault Refusal :=
  eventExec (1 ≤ session && session ≤ 15) (fun h =>
    if (h.session? session).any fun x => h.now ≥ x.lastUse + h.sec.sessionIdle * 1000000000 then h.closeSession session
    else h) s

/-! ### State, keys and lifecycle -/

/-- Usable key slots, as a mask (R421). -/
def Head.usableSlots (h : Head) : Nat := sumNat ((List.range 4).map fun n => flag (h.slotUsable n) n)

/-- GET_SECURITY. -/
def getSecurityCmd : Command :=
  observeCommand 0x0F00 0 Head.fromBoot (fun p _ => noTarget p) (fun _ _ => []) fun _ h =>
    let failed := h.sec.failed.getD (0, 0)
    pack [(1, h.sec.lifecycleNow), (1, h.usableSlots + h.sec.revoked % 16 * 16), (1, h.sec.rollback),
      (1, h.sec.debugLevel % 4 + flag (h.sec.debugSession.any fun d => d.token) 2), (8, h.sec.deviceId),
      (4, if h.sec.record.isEmpty then 0 else imageGeneration h.sec.record), (1, h.sec.recordCopy), (1, failed.2 / 256),
      (2, failed.1), (2, failed.2), (2, sumNat (h.sec.sessions.map fun s => 2 ^ s.id)), (4, h.sec.authFail), (8, h.imageDigest)]
def execGetSecurity (p : Packet) (s : State) : Host.Outcome State Fault Refusal := hostExec getSecurityCmd p s

/-- The 48-byte hash at place `n` of PROVISION: ROOT_HASH, then the slots. -/
def provisionHash (p : Packet) (n : Nat) : List Byte := ((prm p).drop (48 * n)).take 48

/-- Does this programming of one-time-programmable memory fail to read back?  The spec leaves it open.
DEDUCED (log 67). -/
def Head.fuseFails (h : Head) : Bool := h.drawNat.1 % 2 = 1

/-- Program the key hashes. -/
def Head.fuseKeys (h : Head) (root : List Byte) (slots : List (List Byte)) : Head :=
  { h with sec := { h.sec with rootHash := root, slotHash := slots } }

/-- PROVISION (R420): the new state holds from the next reset. DEDUCED (log 67). -/
def provisionCmd : Command :=
  { opcode := 0x0F01, cls := .maintain, len := lenIs 240
    open_ := fun _ h => h.sec.lifecycleNow ≠ 3
    stateOk := fun _ h => h.inMode [.boot] && h.sec.lifecycleNow = 0 && h.sec.lifecycle = 0
    paramOk := fun p _ => noTarget p && ([1, 2, 3, 4].any fun n => (provisionHash p n).any fun b => b ≠ 0)
    refusals := fun _ h => [(h.fuseFails, Status.flashError)]
    onRefuse := fun status _ h =>
      if status = Status.flashError then h.drawNat.2 else h
    effect := fun p h =>
      let h := h.drawNat.2.fuseKeys (provisionHash p 0) ([1, 2, 3, 4].map (provisionHash p))
      { head := Head.postHost { h with sec := { h.sec with lifecycle := 1 } } 0x0F02 0xFFFF p } }
def execProvision (p : Packet) (s : State) : Host.Outcome State Fault Refusal := hostExec provisionCmd p s

/-- RETIRED: every key hash blown to ones, every slot revoked (R420). -/
def Head.retire (h : Head) : Head :=
  let ones := List.replicate 48 (255 : Byte)
  { h with sec := { h.sec with
    lifecycle := 3, lifecycleNow := 3, rootHash := ones, slotHash := List.replicate 4 ones, revoked := 15 } }

/-- SET_LIFECYCLE (R420). DEDUCED (log 67). -/
def setLifecycleCmd : Command :=
  { opcode := 0x0F02, cls := .maintain, len := lenIs 12
    open_ := fun p h => h.sec.lifecycleNow = 0 && h.inMode [.boot] && pu p 0 1 = 3
    stateOk := fun p h => h.inMode [.boot, .commission, .safe] && (pu p 0 1 ≠ 2 || h.sec.lifecycle = 1 && h.sec.lifecycleNow = 1)
    paramOk := fun p h => noTarget p && 2 ≤ pu p 0 1 && pu p 0 1 ≤ 3 && pz p 1 3 && pu p 4 8 = h.sec.deviceId
    effect := fun p h =>
      let h := if pu p 0 1 = 3 then h.retire else { h with sec := { h.sec with lifecycle := 2, lifecycleNow := 2 } }
      { head := (h.postHost 0x0F02 0xFFFF p) }
    after := fun p h => if pu p 0 1 = 3 then h.resetAfter p else h.lowerDebug }
def execSetLifecycle (p : Packet) (s : State) : Host.Outcome State Fault Refusal := hostExec setLifecycleCmd p s

/-- A MAINTAIN command of block 0x0F in BOOT, COMMISSION and SAFE. -/
def keyCommand (opcode n : Nat) (param : Packet → Head → Bool) (refusals : Packet → Head → List (Bool × Nat))
    (effect : Packet → Head → Head) : Command :=
  { opcode, cls := .maintain, len := lenIs n
    stateOk := fun _ h => h.inMode [.boot, .commission, .safe]
    paramOk := fun p h => noTarget p && param p h, refusals
    effect := fun p h => { head := effect p h } }

/-- Did this slot sign the running image or the selected record (R421)? -/
def Head.signedRunning (h : Head) (slot : Nat) : Bool :=
  [h.sec.image, h.sec.record].any fun f => !f.isEmpty && imageSlot f = slot

/-- REVOKE_KEY (R421). -/
def revokeKeyCmd : Command :=
  keyCommand 0x0F03 4 (fun p _ => pu p 0 1 < 4 && pz p 1 3)
    (fun p h => [(h.usableSlots = 2 ^ pu p 0 1 || h.signedRunning (pu p 0 1), Status.conflict)])
    fun p h => { h with sec := { h.sec with revoked := h.sec.revoked ||| 2 ^ pu p 0 1 } }
def execRevokeKey (p : Packet) (s : State) : Host.Outcome State Fault Refusal := hostExec revokeKeyCmd p s

/-- Lowest ROLLBACK of what runs: stage-1, image and record (R428). -/
def Head.lowestRollback (h : Head) : Nat :=
  ([h.sec.stage1, h.sec.image, h.sec.record].filter fun f => !f.isEmpty).foldl (fun m f => min m (imageRollback f)) 64

/-- ADVANCE_ROLLBACK (R428). -/
def advanceRollbackCmd : Command :=
  keyCommand 0x0F04 4 (fun p h => h.sec.rollback < pu p 0 1 && pu p 0 1 ≤ h.lowestRollback && pz p 1 3) (fun _ _ => [])
    fun p h => { h with sec := { h.sec with rollback := pu p 0 1 } }
def execAdvanceRollback (p : Packet) (s : State) : Host.Outcome State Fault Refusal := hostExec advanceRollbackCmd p s

/-! ### WRITE_IMAGE -/

/-- SET of an item. -/
abbrev writeSet (p : Packet) : Nat := pu p 8 1

/-- A transfer to the other set runs. -/
def otherTransfer (p : Packet) (h : Head) : Bool := h.sec.transfer.any fun t => t.object ≠ writeSet p

/-- The file as it stands after an item's chunks. -/
def fileAfter (p : Packet) (h : Head) : Option (Nat × List Byte) := addImageChunks (h.transferOf (writeSet p)) (chunks p)

/-- The item goes to the set booted from and is, as far as it can be told, no record (R437). -/
def writesBooted (p : Packet) (h : Head) : Bool :=
  h.bootedSet (writeSet p) && (fileAfter p h).any fun f => (7 ≤ f.2.length || f.2.length = f.1) && imageKind f.2 ≠ 3

/-- The complete file that an item leaves. -/
def wholeFile (p : Packet) (h : Head) : Option (List Byte) :=
  (fileAfter p h).bind fun f => if f.2.length = f.1 then some f.2 else none

/-- A record whose set holds another image. -/
def strayRecord (p : Packet) (h : Head) (file : List Byte) : Bool :=
  imageKind file = 3 && !recordOf ((h.imageSet (writeSet p)).getD 1 []) file

/-- WRITE_IMAGE (R427, R437). -/
def writeImageCmd : Command :=
  { opcode := 0x0F05, cls := .maintain, len := fun b => 13 ≤ b.length && b.length ≤ 4080, chain := true
    stateOk := fun p h => h.inMode [.boot, .commission, .safe] && !writesBooted p h
      && !((wholeFile p h).any fun f => imageKind f = 3 && h.topGeneration (writeSet p) ≥ 0xFFFFFFFE)
    paramOk := fun p h => noTarget p && ((chunks p).all fun c => field c 8 1 = writeSet p && zeros c 9 3) && writeSet p < 2
      && (otherTransfer p h || ((fileAfter p h).isSome && (wholeFile p h).all fun f => imageHeaderOk f && !strayRecord p h f))
    refusals := fun p h =>
      [ (!otherTransfer p h && (wholeFile p h).any fun f => !h.imageSigned f, Status.signatureFailed),
        (!otherTransfer p h && (wholeFile p h).any fun f => !h.imageAdmissible f, Status.rollback),
        (otherTransfer p h, Status.busy) ]
    effect := fun p h => match fileAfter p h with
      | none => { head := h }
      | some (total, file) =>
        if file.length = total then
          let (h, ok) := Head.writeImage { h with sec := { h.sec with transfer := none } } (writeSet p) file
          { head := h, wait := some .imageWritten, final := some (if ok then Status.ok else Status.flashError, []) }
        else
          let t : Transfer := { total, object := writeSet p, bytes := file, last := h.now }
          { head := { h with sec := { h.sec with transfer := some t } } } }
def execWriteImage (p : Packet) (s : State) : Host.Outcome State Fault Refusal := hostExec writeImageCmd p s

/-- IMAGE_TRANSFER_TIMEOUT: 10 s without a chunk (R437). -/
def execImageTransferTimeout (s : State) : Host.Outcome State Fault Refusal :=
  eventExec true (fun h =>
    if h.sec.transfer.any fun t => h.now ≥ t.last + 10000000000 then { h with sec := { h.sec with transfer := none } }
    else h) s

end Sys2Proof.Machine
end

