-- ==== Sys2Proof/Machine/Debug.lean ====
section
/-! DEFINITION. Debug sessions and levels (R433, R434), halts (R435, R436) and the test access port (R432). -/
namespace Sys2Proof.Machine

/-! ### Debug sessions -/

/-- Set the level for an item: DEBUG_LEVEL in the host-tag layout at a change (R433, R488). -/
def Head.hostDebug (h : Head) (n : Nat) (p : Packet) : Head :=
  if h.sec.debugLevel = n then h
  else Head.postHost { h with sec := { h.sec with debugLevel := n, halted := if n < 2 then [] else h.sec.halted } } 0x0F01 0xFFFF p

/-- The highest level that Table 17-11 allows now to an item that brings its token. -/
def Head.debugCeiling (h : Head) (token : Bool) : Nat := debugMax h.sec.lifecycleNow h.sys.mode h.sys.depth token

/-- DEBUG_CHALLENGE (Table 17-12): where some level may be opened. -/
def debugChallengeCmd : Command :=
  { opcode := 0x0F10, cls := .maintain, len := lenIs 0
    stateOk := fun _ h => h.fromBoot && h.debugCeiling true > 0
    paramOk := fun p _ => noTarget p
    effect := fun _ h =>
      let (nonce, h) := h.drawBytes 16
      let nonce := padTo 16 nonce
      { head := { h with sec := { h.sec with debugNonce := some (nonce, h.now) } }, reply := nonce } }
def execDebugChallenge (p : Packet) (s : State) : Host.Outcome State Fault Refusal := hostExec debugChallengeCmd p s

/-- Must DEBUG_OPEN carry a token (R433)? -/
def needsToken (p : Packet) (h : Head) : Bool := h.sec.lifecycleNow = 2 && pu p 0 1 = 2

/-- The token of DEBUG_OPEN. -/
def debugToken (p : Packet) : List Byte := ((prm p).drop 4).take 168

/-- A valid, unused token signed under a usable slot (R433, Table 17-12). DEDUCED (log 68). -/
def Head.tokenValid (h : Head) (t : List Byte) : Bool :=
  let slot := field t 9 1
  field t 0 8 = h.sec.deviceId && field t 8 1 = 2 && 60 ≤ field t 10 2 && field t 10 2 ≤ 28800 && h.slotUsable slot
    && (h.sec.debugNonce.any fun n => (t.drop 12).take 16 = n.1 && h.now ≤ n.2 + 60000000000)
    && Config.slotVerify (h.sec.slotHash.getD slot []) (Config.sha384 (t.take 72)) ((t.drop 72).take 96)

/-- DEBUG_OPEN (R433). DESIGN CHOICE (log 91). -/
def debugOpenCmd : Command :=
  { opcode := 0x0F11, cls := .maintain, len := fun b => b.length = 4 || b.length = 172
    lenIn := fun p h => (prm p).length = if needsToken p h then 172 else 4
    permitted := fun p h => (h.session? p.session).any fun s => bit s.classes 2
    stateOk := fun p h => h.fromBoot && (pu p 0 1 < 1 || pu p 0 1 > 2 || pu p 0 1 ≤ h.debugCeiling (needsToken p h))
    paramOk := fun p h => noTarget p && 1 ≤ pu p 0 1 && pu p 0 1 ≤ 2 && pz p 1 3 && (!needsToken p h || pz p 32 44)
    refusals := fun p h =>
      [(needsToken p h && !h.tokenValid (debugToken p), Status.tokenInvalid), (h.sec.debugSession.isSome, Status.busy)]
    onRefuse := fun status _ h =>
      if status = Status.tokenInvalid then { h with sec := { h.sec with authFail := satInc (2 ^ 32 - 1) h.sec.authFail } } else h
    effect := fun p h =>
      let token := needsToken p h
      let ends := if token then some (h.now + field (debugToken p) 10 2 * 1000000000) else none
      let session : DebugSession := { session := p.session, ends, token }
      let nonce := if token then none else h.sec.debugNonce
      { head := Head.hostDebug { h with sec := { h.sec with debugSession := some session, debugNonce := nonce } } (pu p 0 1) p } }
def execDebugOpen (p : Packet) (s : State) : Host.Outcome State Fault Refusal := hostExec debugOpenCmd p s

/-- DEBUG_CLOSE (R433). -/
def debugCloseCmd : Command :=
  { opcode := 0x0F12, cls := .maintain, len := lenIs 0
    stateOk := fun _ h => h.fromBoot && h.sec.debugSession.isSome
    paramOk := fun p _ => noTarget p
    effect := fun p h => { head := Head.hostDebug { h with sec := { h.sec with debugSession := none } } 0 p } }
def execDebugClose (p : Packet) (s : State) : Host.Outcome State Fault Refusal := hostExec debugCloseCmd p s

/-- DEBUG_SESSION_EXPIRY: DURATION has passed (R433). -/
def execDebugSessionExpiry (s : State) : Host.Outcome State Fault Refusal :=
  eventExec true (fun h =>
    if h.sec.debugSession.any fun d => d.ends.any fun t => h.now ≥ t then h.endDebug else h) s

/-! ### Halts -/

/-- The core that the operands of a debug row name: KIND 0 Tor, 1 Massif, 2 management (R2, R435). -/
def coreOf (kind tile core : Nat) : Option CoreId :=
  match kind with
  | 0 => if tile < 16 ∧ core < 4 then some (.tor tile core) else none
  | 1 => if core < 4 then some (.massif core) else none
  | 2 => some .management
  | _ => none

/-- The ranges that a core serves (R435). -/
def Head.served (h : Head) (c : CoreId) (r : Nat) : Bool := match c with
  | .tor t _ => h.axes.any fun a => a.range = r && a.place.tile = t
  | .massif _ => h.axes.any fun a => a.range = r && a.profiled
  | .management => false

/-- May a debugger halt this core now (R435)? -/
def Head.mayHalt (h : Head) (c : CoreId) : Bool :=
  h.fromBoot && h.sec.debugLevel = 2 && !h.sec.halted.contains c && match c with
    | .tor t _ => (h.compute.tiles.getD t {}).state = .up
    | .massif _ => true
    | .management => h.inMode [.boot, .safe]

/-- The ready list that a core serves, and its number in it. -/
def CoreId.place : CoreId → Option (Nat × Nat)
  | .tor t c => some (t, c)
  | .massif c => some (32, c)
  | .management => none

/-- The operation that a core runs. -/
def Head.operationOf (h : Head) (c : CoreId) : Option Operation :=
  c.place.bind fun x => ((h.readyList x.1).cores.getD x.2 {}).active

/-- The halt is taken at the first boundary that R299 or R310 admits: what the core has run of a custom operation is kept. -/
def Head.stopAtBoundary (h : Head) (c : CoreId) : Head := match h.operationOf c with
  | some o => h.saveContext o.axis ((h.now - o.since) * 6 / 10)
  | none => h

/-- Clocks that a saved context has run. -/
def CoreContext.clocks : CoreContext → Nat
  | .tor s => s.clocks
  | .massif s => s.clocks

/-- Clocks of the context that an axis's graph holds. -/
def Head.contextClocks (h : Head) (axis : Nat) : Nat :=
  (((h.axis? axis).bind fun a => a.work).bind fun w => w.ctx).elim 0 CoreContext.clocks

/-- Halt a core: on a head that commands every RUNNING range it serves is belayed first, with DEBUG_HALT (R435); on a standby
head nothing is, and its mirror is SYNCING (R436). -/
def Head.haltCore (h : Head) (c : CoreId) : Head :=
  let standby : Bool := h.sys.role = .standby
  let h := if standby then h.loseReady
    else (List.range 8).foldl (init := h) fun (h : Head) r =>
      if (h.range r).state = .running && h.served c r then h.raise (srcRange r) 4 else h
  let h := h.stopAtBoundary c
  { h with sec := { h.sec with halted := h.sec.halted ++ [c] } }

/-- A single step of a halted core: a custom operation runs to its next boundary, or to its end where none is left; a standard
one, which has no boundary that the spec names, runs to its end (R435). DEDUCED (log 69). -/
def Head.stepHalted (h : Head) (c : CoreId) : Head := match c.place, h.operationOf c with
  | some (list, core), some o =>
    let t := h.saveContext o.axis 1
    if t.contextClocks o.axis > h.contextClocks o.axis then t else h.endOn list core o
  | _, _ => h

/-- DEBUG_HALT (R435): a halt that the rules do not permit changes nothing. -/
def execDebugHalt (kind tile core : Nat) (s : State) : Host.Outcome State Fault Refusal :=
  eventExec (coreOf kind tile core).isSome (fun h => match coreOf kind tile core with
    | some c => if h.mayHalt c then h.haltCore c else h
    | none => h) s

/-- DEBUG_STEP (R435): at level D2 a halted core runs to its next admissible boundary and stays halted; a step that the rules do
not permit changes nothing. DEDUCED (log 69). -/
def execDebugStep (kind tile core : Nat) (s : State) : Host.Outcome State Fault Refusal :=
  eventExec (coreOf kind tile core).isSome (fun h => match coreOf kind tile core with
    | some c => if h.fromBoot && h.sec.debugLevel = 2 && h.sec.halted.contains c then h.stepHalted c else h
    | none => h) s

/-- DEBUG_RESUME (R435). -/
def execDebugResume (kind tile core : Nat) (s : State) : Host.Outcome State Fault Refusal :=
  eventExec (coreOf kind tile core).isSome (fun h => match coreOf kind tile core with
    | some c =>
      if h.fromBoot && h.sec.debugLevel = 2 then { h with sec := { h.sec with halted := h.sec.halted.filter fun x => x ≠ c } } else h
    | none => h) s

/-! ### The test access port -/

/-- The identification code (R432). -/
def idcode : Nat := 1 + Config.jedecIdentity % 2048 * 2 + 0x1024 * 4096 + 0xB * 2 ^ 28

/-- Bits of a word, the least significant first. -/
def wordBits (n v : Nat) : List Bool := (List.range n).map fun i => bit v i

/-- The port is powered with the LD. -/
def Head.tapPowered (h : Head) : Bool := h.sys.mode ≠ .off

/-- Select an instruction and shift bits out. -/
def Head.selectTap (h : Head) (t : Tap) (out : List Bool) : Head :=
  ({ h with sec := { h.sec with tap := t } }).emit (.scanOut out)

/-- JTAG_IDCODE: served in every state and at every level (Table 17-10). -/
def execJtagIdcode (s : State) : Host.Outcome State Fault Refusal :=
  eventExec true (fun h =>
    if h.tapPowered then Head.selectTap { h with sec := { h.sec with scanDrives := false } } .idcode (wordBits 32 idcode) else h) s

/-- JTAG_BYPASS: one bit of 0 (IEEE 1149.1, log 6). -/
def execJtagBypass (s : State) : Host.Outcome State Fault Refusal :=
  eventExec true (fun h =>
    if h.tapPowered then Head.selectTap { h with sec := { h.sec with scanDrives := false } } .bypass [false] else h) s

/-- A boundary-scan instruction: its chain of 900 cells, and whether the balls are driven from it.  BELAY_OUT_A, BELAY_OUT_B,
ALIVE, FAULT_N and the field outputs never are (R432). DEDUCED (log 74). -/
def Head.scan (h : Head) (t : Tap) (chain : List Bool) (drives : Bool) (out : List Bool) : Head :=
  if h.tapPowered && h.scanServed then
    Head.selectTap { h with sec := { h.sec with boundary := chain, scanDrives := drives } } t out
  else h

/-- A chain or a capture of the 900 balls; what the operand leaves out is 0. DEDUCED (log 74). -/
def cells (bs : List Bool) : List Bool := (bs ++ List.replicate (900 - bs.length) false).take 900

/-- JTAG_EXTEST (R432): the chain is driven; the cells it held are shifted out. -/
def execJtagExtest (chain : List Bool) (s : State) : Host.Outcome State Fault Refusal :=
  eventExec true (fun h => h.scan .extest (cells chain) true (cells h.sec.boundary)) s

/-- JTAG_SAMPLE_PRELOAD (R432): the balls are captured and shifted out while the chain is loaded. -/
def execJtagSamplePreload (balls chain : List Bool) (s : State) : Host.Outcome State Fault Refusal :=
  eventExec true (fun h => h.scan .samplePreload (cells chain) false (cells balls)) s

/-- JTAG_INTEST (R432): the chain is applied to internal logic in place of the balls. -/
def execJtagIntest (chain : List Bool) (s : State) : Host.Outcome State Fault Refusal :=
  eventExec true (fun h => h.scan .intest (cells chain) false (cells h.sec.boundary)) s

/-- JTAG_CLAMP (R432): the balls stay driven from the chain, the bypass register is selected. -/
def execJtagClamp (s : State) : Host.Outcome State Fault Refusal :=
  eventExec true (fun h => h.scan .clamp h.sec.boundary true [false]) s

end Sys2Proof.Machine
end

