-- ==== Sys2Proof/Machine/Ethernet.lean ====
section
/-! DEFINITION. The Ethernet transport (R70-R73): datagrams to the queues, and what a port does with a raw frame.  The
formats of ARP, IPv4, ICMP and UDP are those of their own standards (log 6). -/
namespace Sys2Proof.Machine

/-- A datagram for UDP port BASE + q (R71-R73): executed later when its SEQUENCE is new, the kept reply resent when it is
one of the 16 kept, dropped and counted otherwise; BUSY beyond 16 waiting.  Fewer bytes than a packet header are dropped.
DESIGN CHOICE (log 100). -/
def Head.receiveDatagram (h : Head) (port srcAddr srcPort dstPort : Nat) (payload : List Byte) : Head :=
  let q := dstPort - h.sys.udpBase
  if dstPort < h.sys.udpBase ∨ q ≥ 8 ∨ payload.length < 16 then h
  else
    let x := h.queue q
    let drop (h : Head) := h.setQueue q fun x => { x with stale := satInc (2 ^ 32 - 1) x.stale }
    if !x.ethernet || !x.enabled then drop h
    else
      let e := h.ethQueue q
      let (op, p) := readPacket q payload
      if e.highest.all fun n => serialAfter 32 p.sequence n then
        if e.waiting.length < 16 then
          h.setEthQueue q fun e => { e with waiting := e.waiting ++ [{ port, srcAddr, srcPort, bytes := payload }] }
        else h.sendUdp port (h.sys.udpBase + q) srcAddr srcPort
          (h.replyBytes { echo := echoOf p op (h.validMac op p), asyncDone := false, status := Status.busy, params := [] })
      else match e.kept.find? fun k => k.1 == p.sequence with
        | some (_, bytes) => h.sendUdp port (h.sys.udpBase + q) srcAddr srcPort bytes
        | none => drop h

/-- A port that runs. -/
def Head.portUp (h : Head) (port : Nat) : Bool := h.fromBoot && (h.eth.getD port {}).mode ≠ 0

/-- ETH_DATAGRAM_RX (R71-R73). -/
def execEthDatagramRx (port srcAddr srcPort dstPort : Nat) (payload : List Byte) (s : State) :
    Host.Outcome State Fault Refusal :=
  eventExec (port < 2)
    (fun h => if h.portUp port then h.receiveDatagram port srcAddr srcPort dstPort payload else h) s

def Head.setPort (h : Head) (port : Nat) (f : EthPort → EthPort) : Head := { h with eth := setAt port f h.eth }

/-- The fragments of a datagram joined, when they reach from 0 without a hole to a last one. -/
def joinFragments : Nat → Nat → List (Nat × List Byte × Bool) → Option (List Byte)
  | 0, _, _ => none
  | fuel + 1, o, fs => match fs.find? fun f => f.1 == o with
    | none => none
    | some (_, bytes, more) =>
      if more then (joinFragments fuel (o + bytes.length) fs).map fun rest => bytes ++ rest else some bytes

/-- An IPv4 payload for this port: ICMP echo requests and UDP datagrams (R70). PRESUMED (log 6). -/
def Head.receiveIp (h : Head) (port protocol srcAddr : Nat) (hwSource payload : List Byte) : Head :=
  let own := (h.eth.getD port {}).addr
  if protocol = 1 then
    if beField payload 0 1 = 8 then
      let body := beBytes 4 0 ++ payload.drop 4
      let icmp := [0, 0] ++ beBytes 2 (checksum body) ++ payload.drop 4
      let mac := Config.macOf port
      let ip := beBytes 2 0x4500 ++ beBytes 2 (20 + icmp.length) ++ beBytes 4 0 ++ [64, 1]
      let tail := beBytes 4 own ++ beBytes 4 srcAddr
      h.emit (.ethFrame port (hwSource ++ mac ++ beBytes 2 0x0800 ++ ip ++ beBytes 2 (checksum (ip ++ [0, 0] ++ tail))
        ++ tail ++ icmp))
    else h
  else if protocol = 17 then
    let n := beField payload 4 2
    let sum := beField payload 6 2
    if payload.length < n ∨ n < 8 ∨ (sum ≠ 0 ∧ checksum (pseudoHeader srcAddr own n ++ payload.take n) ≠ 0) then h
    else h.receiveDatagram port srcAddr (beField payload 0 2) (beField payload 2 2) ((payload.take n).drop 8)
  else h

/-- A raw frame at a port: ARP and ICMP echo requests answered, fragments reassembled, UDP delivered, all else discarded
(R70).  A fragment that would begin a fifth reassembly is dropped and counted. PRESUMED (log 6). DESIGN CHOICE (log 100). -/
def Head.receiveFrame (h : Head) (port : Nat) (f : List Byte) : Head :=
  let own := (h.eth.getD port {}).addr
  if f.length > 9018 ∨ f.length < 14 then h
  else if beField f 12 2 = 0x0806 then
    if beField f 20 2 = 1 ∧ beField f 38 4 = own then
      let mac := Config.macOf port
      let asker := (f.drop 22).take 6
      h.emit (.ethFrame port (asker ++ mac ++ beBytes 2 0x0806 ++ beBytes 2 1 ++ beBytes 2 0x0800 ++ [6, 4] ++ beBytes 2 2
        ++ mac ++ beBytes 4 own ++ asker ++ (f.drop 28).take 4))
    else h
  else if beField f 12 2 = 0x0800 then
    let ip := f.drop 14
    let hl := beField ip 0 1 % 16 * 4
    let total := beField ip 2 2
    if beField ip 0 1 / 16 ≠ 4 ∨ hl < 20 ∨ total < hl ∨ ip.length < total ∨ beField ip 16 4 ≠ own
        ∨ checksum (ip.take hl) ≠ 0 then h
    else
      let ident := beField ip 4 2
      let frag := beField ip 6 2
      let more := bit frag 13
      let offset := frag % 8192 * 8
      let src := beField ip 12 4
      let body := (ip.take total).drop hl
      let hw := (f.drop 6).take 6
      if !more && offset = 0 then h.receiveIp port (beField ip 9 1) src hw body
      else
        let p := h.eth.getD port {}
        let key := (src, ident)
        let old := p.reassembly.find? fun r => r.key == key
        let drop (h : Head) := h.setPort port fun p =>
          { p with dropped := satInc (2 ^ 32 - 1) p.dropped, reassembly := p.reassembly.filter fun r => r.key ≠ key }
        if old.isNone && p.reassembly.length ≥ 4 then
          h.setPort port fun p => { p with dropped := satInc (2 ^ 32 - 1) p.dropped }
        else
          let fs := ((old.map fun r => r.fragments).getD []) ++ [(offset, body, more)]
          if offset + body.length + 20 > 4160 then drop h
          else match joinFragments (fs.length + 1) 0 fs with
            | some whole =>
              (h.setPort port fun p => { p with reassembly := p.reassembly.filter fun r => r.key ≠ key }).receiveIp port
                (beField ip 9 1) src hw whole
            | none => h.setPort port fun p =>
                { p with reassembly := (p.reassembly.filter fun r => r.key ≠ key) ++
                  [{ key, since := (old.map fun r => r.since).getD h.now, fragments := fs }] }
  else h

/-- ETH_FRAME_RX (R70). -/
def execEthFrameRx (port : Nat) (frame : List Byte) (s : State) : Host.Outcome State Fault Refusal :=
  eventExec (port < 2) (fun h => if h.portUp port then h.receiveFrame port frame else h) s

/-- REASSEMBLY_TIMEOUT: a reassembly not complete within 2 ms is dropped and counted (R70). -/
def execReassemblyTimeout (port index : Nat) (s : State) : Host.Outcome State Fault Refusal :=
  eventExec (port < 2 && index < 4) (fun h =>
    match (h.eth.getD port {}).reassembly[index]? with
    | some r =>
      if r.since + 2000000 ≤ h.now then
        h.setPort port fun p => { p with dropped := satInc (2 ^ 32 - 1) p.dropped, reassembly := p.reassembly.eraseIdx index }
      else h
    | none => h) s

end Sys2Proof.Machine
end

