-- ==== Sys2Proof/Machine/Power.lean ====
section
/-! DEFINITION. Supply, rails, temperature, clocks and droop (R438-R450), GET_POWER and SET_POWER_CONFIG.  A voltage VIN is in
units of 10 mV. -/
namespace Sys2Proof.Machine

def Head.setPower (h : Head) (f : Power → Power) : Head := { h with power := f h.power }

/-! ### VIN and rails -/

/-- VIN_START: VIN rises through 4.20 V; the backup domain moves to VIN and the rail sequence begins (R440, R451). -/
def execVinStart (vin : Nat) (s : State) : Host.Outcome State Fault Refusal :=
  eventExec true (fun h =>
    if h.sys.mode = .off && vin ≥ 420 then
      let h := { h with sys := { h.sys with mode := .reset, porN := false }, backup := { h.backup with onVin := true } }
      h.setPower fun x => { x with vin, sequencing := true, railsGood := false, retryDue := false, retries := 0 }
    else h) s

/-- RAIL_SEQUENCE_FAIL (R440): every rail off, POR_N held low. -/
def execRailSequenceFail (s : State) : Host.Outcome State Fault Refusal :=
  eventExec true (fun h =>
    if h.sys.mode = .reset && h.power.sequencing then h.setPower fun x => { x with sequencing := false, retryDue := true } else h) s

/-- RAIL_RETRY: 100 ms after a failed sequence, at most 3 times (R440). -/
def execRailRetry (s : State) : Host.Outcome State Fault Refusal :=
  eventExec true (fun h =>
    if h.sys.mode = .reset && h.power.retryDue && h.power.retries < 3 then
      h.setPower fun x => { x with sequencing := true, retryDue := false, retries := x.retries + 1 }
    else h) s

/-- VIN_STOP: VIN falls through 3.70 V and the backup domain moves to VBKUP (R442, R451); or, while the input switch is open for
overvoltage, the protected bus does, and the domain stays on VIN (R439). -/
def execVinStop (vin : Nat) (s : State) : Host.Outcome State Fault Refusal :=
  eventExec true (fun h =>
    if h.sys.mode = .off || (vin ≥ 370 && !h.power.inputOpen) then h
    else
      let inputOpen : Bool := h.power.inputOpen && vin ≥ 370
      let h := { h with sys := { h.sys with porN := false }, backup := { h.backup with onVin := vin ≥ 370 } }
      (h.enterReset .off false).setPower fun x => { x with vin, inputOpen }) s

/-- VIN_OVERVOLTAGE: above 62.0 V the input switch opens (R439). -/
def execVinOvervoltage (vin : Nat) (s : State) : Host.Outcome State Fault Refusal :=
  eventExec true (fun h =>
    if h.sys.mode ≠ .off && vin > 6200 then h.setPower fun x => { x with vin, inputOpen := true } else h) s

/-- VIN_OVERVOLTAGE_END: below 61.0 V it closes (R439). -/
def execVinOvervoltageEnd (vin : Nat) (s : State) : Host.Outcome State Fault Refusal :=
  eventExec true (fun h =>
    if h.power.inputOpen && vin < 6100 then h.setPower fun x => { x with vin, inputOpen := false } else h) s

/-- The device latches a condition that the PFD finds, once the collector runs. -/
def Head.report (h : Head) (code : Nat) : Head := if h.fromBoot then h.raise 0 code else h

/-- VIN_LOW: below the warning level for 100 µs (Table 18-1). -/
def execVinLow (vin : Nat) (s : State) : Host.Outcome State Fault Refusal :=
  eventExec true (fun h =>
    if h.sys.mode ≠ .off && vin < h.power.vinLowLevel then (h.setPower fun x => { x with vin, vinLow := true }).report 11 else h) s

/-- VIN_LOW_END: 0.50 V above the warning level (Table 18-1, R402). -/
def execVinLowEnd (vin : Nat) (s : State) : Host.Outcome State Fault Refusal :=
  eventExec true (fun h =>
    if h.sys.mode ≠ .off && vin > h.power.vinLowLevel + 50 then h.setPower fun x => { x with vin, vinLow := false } else h) s

/-- RAIL_FAULT: a rail outside ±6 % for 20 µs (R441). -/
def execRailFault (rail : Nat) (s : State) : Host.Outcome State Fault Refusal :=
  eventExec (rail < 4) (fun h =>
    if h.fromBoot then (h.setPower fun x => { x with railFault := x.railFault ||| 2 ^ rail }).report 8 else h) s

/-- RAIL_LOST (R441): POR_N low and every rail off; the sequence is not run again while VIN stays. DEDUCED (log 71). -/
def execRailLost (s : State) : Host.Outcome State Fault Refusal :=
  eventExec true (fun h =>
    if h.sys.mode ≠ .off && h.power.railsGood then
      h.fallPor.setPower fun x => { x with railsGood := false, sequencing := false, retryDue := false }
    else h) s

/-- REFERENCE_LOST (R444): POR_N low while the rails stay. -/
def execReferenceLost (s : State) : Host.Outcome State Fault Refusal :=
  eventExec true (fun h => if h.sys.mode ≠ .off then h.fallPor else h) s

/-! ### Temperature (R443) -/

/-- THERMAL_LIMIT. DESIGN CHOICE (log 89). -/
def execThermalLimit (pfd : Bool) (s : State) : Host.Outcome State Fault Refusal :=
  eventExec true (fun h =>
    if h.sys.mode = .off then h
    else (h.setPower fun x => if pfd then { x with pfdLimit := true } else { x with ldLimit := true }).report 10) s

/-- THERMAL_SHUTDOWN: the S4 reaction belays every output; the tiles' clocks stop with the loops they serve. -/
def execThermalShutdown (pfd : Bool) (s : State) : Host.Outcome State Fault Refusal :=
  eventExec true (fun h =>
    if h.sys.mode = .off then h
    else (h.setPower fun x => if pfd then { x with pfdShutdown := true } else { x with ldShutdown := true }).report 9) s

/-- THERMAL_CLEAR: a die has fallen to where its limit or its shutdown ends. DEDUCED (log 71). -/
def execThermalClear (pfd shutdown : Bool) (s : State) : Host.Outcome State Fault Refusal :=
  eventExec true (fun h => h.setPower fun x => match pfd, shutdown with
    | true, true => { x with pfdShutdown := false }
    | true, false => { x with pfdLimit := false }
    | false, true => { x with ldShutdown := false }
    | false, false => { x with ldLimit := false }) s

/-! ### Clocks (R445-R447) -/

/-- PLL 0 PLL_C, 1 PLL_M, 2 PLL_D. -/
def Power.pll (x : Power) : Nat → Pll
  | 0 => x.pllC | 1 => x.pllM | _ => x.pllD
def Power.setPll (x : Power) (n : Nat) (p : Pll) : Power := match n with
  | 0 => { x with pllC := p } | 1 => { x with pllM := p } | _ => { x with pllD := p }

/-- PLL_LOCK_LOST: a loss of lock or a trip of the ceiling guard (R446). -/
def execPllLockLost (pll : Nat) (trip : Bool) (s : State) : Host.Outcome State Fault Refusal :=
  eventExec (pll < 3) (fun h =>
    if h.fromBoot && (h.power.pll pll).lock then
      let h := h.setPower fun x =>
        ({ x with ceiling := x.ceiling || trip } : Power).setPll pll { lock := false, safe := true, lost := true, failed := 0 }
      (h.raise 0 12).post 0x1002 0 0xFFFF []
    else h) s

/-- A PLL stands off: PLL_C and PLL_D at Valley and Moraine (Table 18-4). -/
def Head.pllOff (h : Head) (pll : Nat) : Bool := pll ≠ 1 && h.sys.mode = .idle && h.sys.depth ≥ 3 && h.sys.transition.isNone

/-- PLL_LOCKED: lock for 50 µs without a break (R445). DEDUCED (log 72). -/
def execPllLocked (pll : Nat) (s : State) : Host.Outcome State Fault Refusal :=
  eventExec (pll < 3) (fun h =>
    let p := h.power.pll pll
    if h.fromBoot && !p.lock && p.failed < 3 && !h.pllOff pll && (pll ≠ 2 || h.power.fspChange.isEmpty) then
      h.setPower fun x => ({ x with relocks := if p.lost then satInc 15 x.relocks else x.relocks } : Power).setPll pll
        { lock := true, safe := false, lost := false, failed := 0 }
    else h) s

/-- PLL_RELOCK_TIMEOUT: not stable within 1 ms; the third failure leaves the domain on the safe clock (R446).
DEDUCED (log 72). -/
def execPllRelockTimeout (pll : Nat) (s : State) : Host.Outcome State Fault Refusal :=
  eventExec (pll < 3) (fun h =>
    let p := h.power.pll pll
    if p.lost && p.failed < 3 then h.setPower fun x => x.setPll pll { p with failed := p.failed + 1 } else h) s

/-- Ask for a set point: a change that runs completes first (R447). -/
def Power.askFsp (x : Power) (slow : Bool) : Power :=
  match x.fspChange with
  | [] => if x.dFsp = slow then x
          else { x with fspChange := [slow], pllD := { x.pllD with lock := false, safe := true } }
  | a :: _ => { x with fspChange := if a = slow then [a] else [a, slow] }

/-- DDR_FSP_CHANGE_DONE (R447). -/
def execDdrFspChangeDone (s : State) : Host.Outcome State Fault Refusal :=
  eventExec true (fun h => match h.power.fspChange with
    | [] => h
    | a :: rest => h.setPower fun x =>
        { x with dFsp := a, fspChange := rest
                 pllD := if rest.isEmpty && !x.pllD.lost then { x.pllD with lock := true, safe := false } else x.pllD }) s

/-! ### Droop (R448, R449) -/

/-- A droop domain enters a stretched fraction: STRETCHES, and CLOCK_STRETCHED at most once in 64 cycles. -/
def Head.stretched (h : Head) (domain level : Nat) : Head :=
  let due := match (h.power.droop.getD domain {}).posted with
    | none => true
    | some k => decide (h.time.cycle ≥ k + 64)
  let h := h.setPower fun x =>
    let droop := setAt domain (fun d => { level, posted := if due then some h.time.cycle else d.posted }) x.droop
    { x with stretches := satInc (2 ^ 32 - 1) x.stretches, droop }
  if due then h.post 0x1001 0 (if domain < 16 then domain else 0xFFFF) [] else h

/-- DROOP_CROSSING: the supply of a domain falls through 0.768 V, level 1, or 0.744 V, level 2 (R448). -/
def execDroopCrossing (domain level : Nat) (s : State) : Host.Outcome State Fault Refusal :=
  eventExec (domain < 18 && 1 ≤ level && level ≤ 2) (fun h =>
    if h.fromBoot && (h.power.droop.getD domain {}).level < level then h.stretched domain level else h) s

/-- DROOP_RESTORE: 10 µs at or above 0.776 V, one step (R449). DEDUCED (log 72). -/
def execDroopRestore (domain : Nat) (s : State) : Host.Outcome State Fault Refusal :=
  eventExec (domain < 18) (fun h => match (h.power.droop.getD domain {}).level with
    | 2 => h.stretched domain 1
    | 1 => h.setPower fun x => { x with droop := setAt domain (fun d => { d with level := 0 }) x.droop }
    | _ => h) s

/-! ### Commands -/

/-- A CONFIGURE command of a head's own supply and backup domain, in every role (R461). -/
def localCommand (opcode n : Nat) (modes : List Mode) (param : Packet → Bool) (refusals : Packet → Head → List (Bool × Nat))
    (effect : Packet → Head → Head) : Command :=
  { opcode, cls := .configure, len := lenIs n, stateOk := fun _ h => h.inMode modes
    paramOk := fun p _ => noTarget p && param p, refusals, effect := fun p h => { head := effect p h } }

/-- GET_POWER: the measured values are free (log 3); BKUP_LOW is judged by this measurement. DEDUCED (log 71). -/
def getPowerCmd : Command :=
  { observeCommand 0x1000 0 Head.fromBoot (fun p _ => noTarget p) (fun _ _ => []) (fun _ _ => []) with
    effect := fun _ h =>
      let (v, h) := h.drawNat
      let (b, h) := h.drawBytes 14
      let h := h.setPower fun x => { x with bkupLow := v % 65536 < 2200 }
      { head := h
        reply := pack [(4, h.powerStatus), (4, h.clockStatus), (4, h.pllStatus), (2, v)] ++ padTo 14 b ++ leBytes 4 h.power.stretches } }
def execGetPower (p : Packet) (s : State) : Host.Outcome State Fault Refusal := hostExec getPowerCmd p s

/-- SET_POWER_CONFIG. -/
def setPowerConfigCmd : Command :=
  localCommand 0x1001 8 [.commission]
    (fun p => 450 ≤ pu p 0 2 && pu p 0 2 ≤ 5800 && 90 ≤ pu p 2 1 && pu p 2 1 ≤ 120 && 90 ≤ pu p 3 1 && pu p 3 1 ≤ 125
      && pu p 4 1 < 2 && pz p 5 3)
    (fun _ _ => [])
    fun p h => h.setPower fun x => { x with
      vinLowLevel := pu p 0 2, ldLimitLevel := pu p 2 1, pfdLimitLevel := pu p 3 1, bkupCharge := bit (pu p 4 1) 0 }
def execSetPowerConfig (p : Packet) (s : State) : Host.Outcome State Fault Refusal := hostExec setPowerConfigCmd p s

end Sys2Proof.Machine
end

