-- ==== Sys2Proof/Machine/Redundancy.lean ====
section
/-! DEFINITION. The redundant pair (chapter 15): heartbeats (R380), takeover (R387-R391), deposition (R392), roles that change
(R393), hand-over (R394-R397) and the commands of block 0x0D (R398). -/
namespace Sys2Proof.Machine

/-! ### Roles and epochs (R376) -/

/-- A head's epoch changes; the backup domain keeps it. -/
def Head.setEpoch (h : Head) (e : Nat) : Head :=
  { h with peer := { h.peer with epoch := e % 4096 }, backup := { h.backup with lastEpoch := e % 4096 } }

/-- DEDUCED (log 79). -/
def Head.setRole (h : Head) (r : Role) : Head :=
  { h with sys := { h.sys with role := r }, peer := { h.peer with roleCycle := h.time.cycle } }

/-- Role of the last peer heartbeat. -/
def Head.peerRole? (h : Head) : Option Nat := h.peer.state.map fun s => bits s 9 8

/-- The peer head holds ACTIVE or SOLO. -/
def Head.peerCommands (h : Head) : Bool := h.peerRole? = some 1 || h.peerRole? = some 3

/-- Take STANDBY under the active head's epoch: SYNCING, every deferred group refused (R94, R384, R395). -/
def Head.takeStandby (h : Head) (epoch : Nat) : Head :=
  let h := ((h.setRole .standby).setEpoch epoch).dropGroups.endBackupRun
  Head.startSync { h with
    binds := [], deferred := [], net := { h.net with running := h.fromCommission }
    peer := { h.peer with deposed := false, leavesSafe := h.peer.deposed, grant := none, switchover := none, resync := false, peerStandby := false } }

/-! ### Heartbeats (Table 15-3) -/

/-- FLAGS of the own heartbeat. -/
def Head.heartbeatFlags (h : Head) : Nat :=
  let ready : Bool := h.sys.role = .standby && h.peer.mirror = .ready
  flag ready 0 + flag (ready && h.sys.home && h.peer.returnEnable) 1 + flag (h.commands && h.peer.grant.isSome) 2
    + flag h.peer.returnEnable 3 + flag h.peer.hotReturn 4

/-- The 64 bytes of the own heartbeat. DEDUCED (log 62). -/
def Head.heartbeat (h : Head) : List Byte :=
  let sw := h.net.switch.filter fun s => !s.park
  let sent := h.now
  pack [(4, h.sysState), (2, h.claim), (2, h.heartbeatFlags), (6, if h.commands then h.peer.grant.getD 0 else 0),
    (2, (sw.map fun s => h.schedId s.next).getD 0), (6, (sw.map fun s => s.cycle).getD 0),
    (2, if h.commands then h.peer.lastSections.length else 0), (8, sent), (8, h.peer.echo.1),
    (4, if h.peer.echo.1 = 0 then 0 else (sent - h.peer.echo.2) % 2 ^ 32), (4, h.peer.settingSeq),
    (4, if h.commands then crc32 h.peer.lastSections.flatten else 0), (4, 0), (8, h.imageDigest)]

/-- A legal heartbeat section (R379, Table 15-3). -/
def heartbeatOk (bs : List Byte) : Bool :=
  (readSection bs).any fun x => x.1 = 1 && x.2.1 = 1 && x.2.2.1 = 0 && x.2.2.2.length = 64 && field x.2.2.2 6 2 < 32 && zeros x.2.2.2 52 4

/-! ### The return of the home head (R394-R397) -/

/-- The Braked window (R394). -/
def Head.bracedWindow (h : Head) : Bool :=
  (h.inMode [.commission, .service] || (h.sys.mode = .idle && h.sys.depth ≤ 2))
    && (h.axes.all fun a => a.kind ≠ .stepper || a.step.atRest)
    && h.movers.all fun m => match h.axis? m.axis with
      | none => true
      | some a => a.state = .disabled || (a.atRest
          && ((h.track m.track).landings.any fun l => (m.centre - l).natAbs ≤ a.motion.inPos)
          && (h.held m.id).all fun s => !bit s.status 1)

/-- What the window asks for besides: no switch announced, no deferred group, the link UP, the peer READY (R394, R396). -/
def Head.windowBase (h : Head) : Bool :=
  h.net.switch.isNone && h.queues.all (fun q => q.group.isNone) && h.peer.saddleUp && h.peer.mirror = .ready

/-- The return window: of a request by RETURN_ENABLE and HOT_RETURN, of a SWITCHOVER by its HOT flag (R394, R397).
DEDUCED (log 62). -/
def Head.returnWindow (h : Head) (switchover : Option Bool) : Bool :=
  h.windowBase && match switchover with
    | some hot => h.bracedWindow || (hot && h.inMode [.commission, .service])
    | none => h.peer.returnEnable && (h.bracedWindow || (h.peer.hotReturn && h.inMode [.commission, .service]))

/-- Withdraw a pending grant (R396). DEDUCED (log 62). -/
def Head.withdrawGrant (h : Head) : Head :=
  Head.finish { h with peer := { h.peer with grant := none, switchover := none } } .handover Status.withdrawn

/-- The active head judges the window in a cycle: grant, or withdraw before R − 2 (R394, R396). -/
def Head.judgeReturn (h : Head) : Head :=
  if h.sys.role ≠ .active then h
  else match h.peer.grant with
    | some r => if h.time.cycle + 2 < r && !h.returnWindow h.peer.switchover then h.withdrawGrant else h
    | none =>
      if bit h.peer.flags 1 && h.peerRole? = some 2 && h.returnWindow none then
        { h with peer := { h.peer with grant := some (h.time.cycle + 16), switchover := none } }
      else h

/-! ### Receiving a heartbeat -/

/-- What an active head takes from its peer's heartbeat: the peer's readiness, and what has to be sent again (R384, R385). -/
def Head.hearStandby (h : Head) (wasStandby wasReady : Bool) : Head :=
  let isStandby : Bool := h.peerRole? = some 2
  let ready := isStandby && bit h.peer.flags 0
  let h := if !isStandby then { h with peer := { h.peer with mirror := .none } }
    else if !wasStandby || (wasReady && !ready) then h.startBulk else h
  let h := if isStandby && h.sys.role = .solo then { h with peer := { h.peer with peerStandby := true } } else h
  let h := if ready && h.peer.mirror = .syncing && h.peer.bulkSent then
      let h := h.postFor 0x0D05 0xFFFF .peerReady
      Head.finish { h with peer := { h.peer with mirror := .ready, resync := false } } .peerReady 0
    else h
  h.judgeReturn

/-- What a standby head takes from the active head's heartbeat: its epoch, the judgement of the last cycle's mirror.
DEDUCED (log 14). -/
def Head.hearActive (h : Head) (b : List Byte) : Head :=
  if !h.peerCommands then h
  else
    let e := h.peer.claim / 16
    let h := if e = h.peer.epoch then h else h.setEpoch e
    let h := h.judgeCycle (field b 22 2) (field b 48 4)
    let h := if h.peer.digest = h.imageDigest then h else h.loseReady
    h.judgeReady

/-- A valid heartbeat of this cycle. -/
def Head.hear (h : Head) (b : List Byte) : Head :=
  let wasStandby : Bool := h.peerRole? = some 2
  let wasReady := wasStandby && bit h.peer.flags 0
  let h : Head := { h with peer := { h.peer with
    state := some (field b 0 4), claim := field b 4 2, flags := field b 6 2, returnCycle := field b 8 6
    switch := (field b 14 2, field b 16 6), seqs := (field b 44 4 :: h.peer.seqs).take 3, digest := field b 56 8
    heard := true, lastHeard := h.time.cycle, missed := 0, lostPosted := false, restarted := false
    echo := (field b 24 8, h.now) } }
  match h.sys.role with
  | .standby => h.hearActive b
  | .active => h.hearStandby wasStandby wasReady
  | .solo => h.hearStandby wasStandby wasReady
  | .none => h

/-- The last instant at which a heartbeat of the cycle that runs is in time (R380). -/
def Head.heartbeatBy (h : Head) : Nat := h.time.cycleStart + 1000

/-- A heartbeat that arrives now is in time: while no cycle runs yet none is late (R380). -/
def Head.heartbeatInTime (h : Head) : Bool := h.time.cycleStart = 0 || h.now ≤ h.heartbeatBy

/-- HEARTBEAT_RX: the payload of a SADDLE_MIRROR frame with a HEARTBEAT section; one that is not complete by T_k + 1.0 µs is none
of its cycle's (R380). -/
def execHeartbeatRx (bytes : List Byte) (s : State) : Host.Outcome State Fault Refusal :=
  eventExec true (fun h =>
    if h.peer.saddleUp && h.fromBoot && !h.peer.heard && h.heartbeatInTime && heartbeatOk bytes then h.hear (bytes.drop 8) else h) s

/-! ### Takeover (R388) -/

/-- The greater of two epochs, as claims compare them (R375). -/
def laterEpoch (a b : Nat) : Nat := if serialAfter 12 a b then a else b

/-- `k` updates of an observer on prediction only. -/
def coastFor (wrap : Bool) (n bw : Nat) : Nat → Observer → Observer
  | 0, o => o
  | k + 1, o => coastFor wrap n bw k (o.update wrap n bw 0 none)

/-- Cycles from the one a record came from to the one that runs; none without a record (R383). -/
def Head.recordAge (h : Head) (kind object : Nat) : Nat :=
  ((h.peer.records.find? fun r => r.1 = kind * 65536 + object).map fun r => h.time.cycle - r.2).getD 0

/-- Step 4: the observers brought forward by prediction, each predicted cycle counting toward PRED_RUN; one that has a fix is
TRACKING (R256). DEDUCED (log 61). -/
def Head.predictForward (h : Head) : Head :=
  let n := h.cycleNs
  { h with
    movers := h.movers.map fun (m : Mover) =>
      if m.obs.state = .noFix then m else { m with obs := { coastFor false n m.obs.bw (h.recordAge 3 m.id) m.obs with
        state := .tracking } }
    axes := h.axes.map fun (a : Axis) =>
      if a.rotary && a.obs.state ≠ .noFix then { a with obs := { coastFor true n a.obs.bw (h.recordAge 3 (0x1000 + a.id)) a.obs with
        state := .tracking } } else a }

/-- A profile planned again from the mirrored set-point and target (R218, R221, R388). -/
def Motion.replan (m : Motion) (t : Nat) : Motion :=
  let k : Kin := ⟨m.xSet, m.vSet, m.aSet⟩
  match m.move, m.plan with
  | .idle, _ => { m with plan := none }
  | .moving, some p => { m with plan := some (planMove t k p.target (m.limits.getD m.set ⟨1, 1, 1⟩)) }
  | _, _ => { m with plan := some (planStop t k (m.limits.getD (if m.quick then 3 else m.set) ⟨1, 1, 1⟩)) }

/-- A ramp planned again from the mirrored position, speed and target (R330, R388); a homing sequence is not mirrored, and
stops. -/
def Stepper.replan (s : Stepper) (t : Nat) : Stepper :=
  let l := s.limits.getD 0 (1, 1)
  match s.state with
  | .idle => { s with ramp := none }
  | .moving => { s with ramp := some (planRamp t s.pos s.vel s.target l.1 l.2) }
  | _ => { s with ramp := some (planRampStop t s.pos s.vel l.2), state := .stopping }

/-- Step 5, on every axis of the network. DEDUCED (log 61). -/
def Head.replanAll (h : Head) : Head :=
  let t := h.time.cycleStart
  { h with axes := h.axes.map fun (a : Axis) =>
    if a.profiled then { a with motion := a.motion.replan t }
    else if a.kind = .stepper && !a.localStep then { a with step := a.step.replan t } else a }

/-- What the new active head rebuilds (R198, R226, R312), and its own hand-over entries (R189). -/
def Head.rebuild (h : Head) : Head :=
  let h : Head := { h with
    axes := h.axes.map fun (a : Axis) =>
      let a := a.freshHooks
      if a.kind = .segment then { a with current := h.rebuildCurrent a, moverNow := a.mover } else a
    peer := { h.peer with calResume := true } }
  (h.movers.map fun m => m.id).foldl (init := h) fun (h : Head) m => h.armHandover m true

/-- Step 6: E_new of every segment axis. -/
def Head.newEpochs (h : Head) : Head :=
  let k := h.time.cycle
  { h with
    peer := { h.peer with waive := some (k + 1) }
    axes := h.axes.map fun (a : Axis) =>
      if a.kind = .segment then
        let seen := match a.upEpoch with
          | some e => if serialAfter 8 e a.epoch then e else a.epoch
          | none => a.epoch
        let new := (seen + 1) % 256
        { a with epoch := new, epochNow := new, epochCycle := k, epochNew := true, upEpoch := none, zeroRun := 0, bindTimedOut := false }
      else a }

/-- Steps 1 to 6 of R388; the settings whose cycle is to come stay as they wait (step 3). -/
def Head.becomeActive (h : Head) (epoch : Nat) : Head :=
  let h := ((h.setRole .active).setEpoch (epoch + 1)).endBackupRun
  let h : Head := { h with peer := { h.peer with mirror := .none, sections := [], missed := h.peer.missed } }
  h.predictForward.replanAll.newEpochs.rebuild

/-- The whole takeover (R388, R390). -/
def Head.takeOver (h : Head) : Head :=
  let ready : Bool := h.peer.mirror = .ready
  let recent := h.peer.seen.filter fun s => s.2 + 64 > h.time.cycle
  let epoch := recent.foldl (fun e s => laterEpoch s.1 e) h.peer.epoch
  let last := h.peer.lastHeard
  let h := h.becomeActive epoch
  let h : Head := { h with peer := { h.peer with takeovers := satInc (2 ^ 32 - 1) h.peer.takeovers } }
  let h := (h.post 0x0D01 0 0xFFFF [(6, last)]).raise 0 17
  if ready then h else h.raise 0 4

/-- Does a standby head take over (R387, R418, Table 15-7)? -/
def Head.mayTakeOver (h : Head) : Bool :=
  h.sys.role = .standby && h.sys.mode ≠ .safe && h.peer.missed ≥ 2
    && ((h.sys.mode = .idle && h.sys.depth = 4) || (h.peer.witness.2 ≥ 1 && 2 * h.peer.witness.1 ≥ h.peer.witness.2))

/-- Under Valley a standby head restarts its branch lanes at the first missing heartbeat (Table 15-7). -/
def Head.restartLanes (h : Head) : Head :=
  if h.sys.role = .standby && h.net.kind = .valley && h.peer.missed = 1 then
    Head.trainLanes { h with peer := { h.peer with restarted := true }, net := { h.net with running := true } } fun i => i < 32
  else h

/-- HEARTBEAT_MISSING: no valid heartbeat of this cycle by T_k + 1.0 µs, an instant that has then come (R380, R387, R391). -/
def execHeartbeatMissing (s : State) : Host.Outcome State Fault Refusal :=
  eventExec true (fun h =>
    if (h.sys.role ≠ .standby && h.sys.role ≠ .active) || h.peer.heard || h.peer.missedCycle = some h.time.cycle then h
    else
      let h := h.reach h.heartbeatBy
      let h : Head := { h with peer := { h.peer with missed := satInc 255 h.peer.missed, missedCycle := some h.time.cycle } }
      let h := h.restartLanes
      if h.mayTakeOver then h.takeOver
      else if h.peer.missed ≥ 2 && !h.peer.lostPosted then
        (Head.post { h with peer := { h.peer with lostPosted := true } } 0x0D06 0 0xFFFF []).raise 0 16
      else h) s

/-! ### Hand-over (R395, R396) -/

/-- The old active head gives the network up at T_R. -/
def Head.giveUp (h : Head) (r : Nat) : Head :=
  let switched := h.peer.switchover.isSome
  let h := (h.takeStandby (h.peer.epoch + 1)).post 0x0D02 0 0xFFFF [(6, r)]
  let h := h.finish .handover 0
  if switched && h.sys.home then { h with peer := { h.peer with returnEnable := false } } else h

/-- The home head, or the peer that a SWITCHOVER names, takes the network at T_R: from its mirror, with no prediction and
no EPOCH_NEW; or in the manner of a takeover when the link or its mirror has failed since R − 2. -/
def Head.takeNetwork (h : Head) (r : Nat) : Head :=
  let whole : Bool := h.peer.saddleUp && h.peer.mirror = .ready
  let h := if whole then
      let h := ((h.setRole .active).setEpoch (h.peer.epoch + 1)).endBackupRun
      (Head.replanAll { h with peer := { h.peer with mirror := .none, sections := [] } }).rebuild
    else h.becomeActive h.peer.epoch
  h.post 0x0D02 0 0xFFFF [(6, r)]

/-- HANDOVER: T_R of a granted hand-over (R395, R396). -/
def execHandover (s : State) : Host.Outcome State Fault Refusal :=
  eventExec true (fun h => match h.sys.role, h.peer.grant with
    | .active, some r => if r ≤ h.time.cycle then h.giveUp r else h
    | .standby, _ =>
      if bit h.peer.flags 2 && h.peer.returnCycle ≠ 0 && h.peer.returnCycle ≤ h.time.cycle then h.takeNetwork h.peer.returnCycle else h
    | _, _ => h) s

/-! ### Split brain and changing roles (R392, R393) -/

/-- DEPOSED: a greater claim in valid uplink frames of two consecutive cycles (R392). DEDUCED (log 62). -/
def execDeposed (s : State) : Host.Outcome State Fault Refusal :=
  eventExec true (fun h =>
    if !h.commands || h.peer.deposeRun.1 < 2 then h
    else
      let h := (h.setRole .none).dropGroups
      let h := h.finish .transition Status.badState
      let h : Head := { h with
        sys := { h.sys with transition := none, waitingWake := false }
        net := { h.net with running := false, switch := none, waiting := [] }
        peer := { h.peer with deposed := true, deposeRun := (0, 0), grant := none, switchover := none } }
      let h := (h.post 0x0D08 0 0xFFFF []).raise 0 18
      if h.sys.mode = .safe then h else h.reachMode .safe 0 9 none) s

/-- SOLO_TO_ACTIVE: the cycle boundary after the peer head takes STANDBY (R393). -/
def execSoloToActive (s : State) : Host.Outcome State Fault Refusal :=
  eventExec true (fun h =>
    if h.sys.role = .solo && h.peer.peerStandby then
      let h := h.setRole .active
      { h with peer := { h.peer with peerStandby := false } }
    else h) s

/-- SADDLE_UP: all eight saddle lanes UP and deskewed (R378): both heads begin to synchronise (R384). -/
def execSaddleUp (s : State) : Host.Outcome State Fault Refusal :=
  eventExec true (fun h =>
    if h.peer.saddleUp || !((List.range 8).all fun i => (h.lane (32 + i)).link = 2) then h
    else
      let h := Head.post { h with peer := { h.peer with saddleUp := true } } 0x0D04 6 0xFFFF []
      match h.sys.role with
      | .standby => h.startSync
      | .active => if h.peerRole? = some 2 then h.startBulk else h
      | _ => h) s

/-- The active head's mode from its heartbeat, where a standby head follows it (R31). -/
def Head.peerMode? (h : Head) : Option (Mode × Nat) := h.peer.state.bind fun s => match s % 16 with
  | 2 => some (.commission, 0)
  | 3 => some (.service, 0)
  | 4 => some (.rescue, 0)
  | 5 => some (.idle, bits s 6 4)
  | _ => none

/-- At a cycle boundary: a deposed head takes STANDBY under a peer that commands (R392, R393), and a standby head follows the
active head's mode and depth; out of SAFE only as one that was deposed, once no S4 latch is set (R31, R36, R392).  It keeps its
own ON_BATTERY and RESCUE_DONE, which R31 does not name. DESIGN CHOICE (log 97). -/
def Head.followActive (h : Head) : Head :=
  let h := if h.peer.deposed && h.peer.saddleUp && h.peerCommands then h.takeStandby (h.peer.claim / 16) else h
  if h.sys.role ≠ .standby || !h.fromCommission || h.hasS4 || !h.peerCommands
      || (h.sys.mode = .safe && !h.peer.leavesSafe) then h
  else match h.peerMode? with
    | none => h
    | some (m, d) =>
      if m = h.sys.mode && d = h.sys.depth then h
      else Head.reachMode { h with peer := { h.peer with leavesSafe := false } } m d 0x0A none

/-- What the pair does at the opening of a cycle: the mirror of the last cycle is closed, the window judged, the heartbeat
sent, and behind it the changes, the snapshot and the replay (R380, R381, R385, R394). -/
def Head.openPeer (h : Head) : Head :=
  let h : Head := { h with peer := { h.peer with
    lastSections := h.peer.sections, sections := [], heard := false, witness := h.peer.witnessNow, witnessNow := (0, 0)
    settingBytes := 0, waive := h.peer.waive.filter fun k => h.time.cycle ≤ k } }
  let h := h.followActive.judgeReturn
  let h := if h.fromCommission then h.sendSection 1 1 0 h.heartbeat else h
  h.sendMirror

/-! ### Commands of block 0x0D (R398) -/

/-- GET_REDUNDANCY. -/
def getRedundancyCmd : Command :=
  observeCommand 0x0D00 0 Head.fromBoot (fun p _ => noTarget p) (fun _ _ => []) fun _ h =>
    let p := h.peer
    let training := (List.range 8).any fun i => (h.lane (32 + i)).link = 1 || (h.lane (32 + i)).link = 2
    let differ : Bool := p.state.isSome && p.digest ≠ h.imageDigest
    let granted := if h.commands then p.grant.isSome else bit p.flags 2
    pack [(1, roleCode h.sys.role), (1, h.peerRole?.getD 0xFF), (1, if p.saddleUp then 2 else flag training 0),
      (1, match p.mirror with | .none => 0 | .syncing => 1 | .ready => 2), (2, h.claim), (2, p.claim),
      (1, flag p.returnEnable 0 + flag p.hotReturn 1 + flag granted 2 + flag differ 3 + flag p.logFull 4), (1, p.missed),
      (2, if h.sys.role = .standby then p.witness.1 else 0), (4, p.takeovers), (4, p.diverged), (6, p.roleCycle),
      (6, if h.commands then p.grant.getD 0 else if granted then p.returnCycle else 0), (4, p.saddleDelay), (4, p.settingSeq)]
def execGetRedundancy (p : Packet) (s : State) : Host.Outcome State Fault Refusal := hostExec getRedundancyCmd p s

/-- SET_RETURN: clearing RETURN_ENABLE withdraws a pending grant. -/
def setReturnCmd : Command :=
  blockCommand 0x0D01 .operate 4 [.commission, .service, .rescue, .idle, .safe] true
    (fun p _ => noTarget p && pu p 0 1 < 4 && pz p 1 3) (fun _ _ => [])
    fun p h =>
      let enable := bit (pu p 0 1) 0
      let h : Head := { h with peer := { h.peer with returnEnable := enable, hotReturn := bit (pu p 0 1) 1 } }
      { head := if h.commands && !enable && h.peer.grant.any (fun r => h.time.cycle + 2 < r) then h.withdrawGrant else h.judgeReturn }
def execSetReturn (p : Packet) (s : State) : Host.Outcome State Fault Refusal := hostExec setReturnCmd p s

/-- There is a peer head in STANDBY behind a trained link. -/
def Head.hasPeer (h : Head) : Bool := h.peer.saddleUp && h.peerRole? = some 2

/-- SWITCHOVER (R397).  As a setting on the standby head it does nothing (R382): the grant comes with the heartbeat. -/
def switchoverCmd : Command :=
  { blockCommand 0x0D02 .maintain 4 [] true (fun p _ => noTarget p && pu p 0 1 < 2 && pz p 1 3)
      (fun p h => if !h.commands then [] else [(!h.hasPeer, Status.noPeer), (h.peer.mirror ≠ .ready, Status.peerNotReady),
        (h.peer.grant.isNone && !h.returnWindow (some (bit (pu p 0 1) 0)), Status.moving), (h.peer.grant.isSome, Status.busy)])
      (fun p h =>
        let r := h.time.cycle + 16
        if !h.commands then { head := h } else
        { head := { h with peer := { h.peer with grant := some r, switchover := some (bit (pu p 0 1) 0) } }
          reply := pack [(6, r), (2, 0)], wait := some .handover }) with
    stateOk := fun _ h => h.inMode [.commission, .service] || (h.sys.mode = .idle && h.sys.depth ≤ 2) }
def execSwitchover (p : Packet) (s : State) : Host.Outcome State Fault Refusal := hostExec switchoverCmd p s

/-- RESYNC_PEER (R384, R385).  As a setting it takes a READY standby head to SYNCING (R382, R384). -/
def resyncPeerCmd : Command :=
  blockCommand 0x0D03 .maintain 0 [.commission, .service, .idle, .safe] true (fun p _ => noTarget p)
    (fun _ h => if !h.commands then [] else [(!h.hasPeer, Status.noPeer), (h.peer.logFull, Status.logFull)])
    fun _ h =>
      if !h.commands then { head := if h.peer.mirror = .ready then h.startSync else h }
      else { head := Head.startBulk { h with peer := { h.peer with resync := true } }, wait := some .peerReady }
def execResyncPeer (p : Packet) (s : State) : Host.Outcome State Fault Refusal := hostExec resyncPeerCmd p s

end Sys2Proof.Machine
end

