-- ==== Sys2Proof/Machine/Rtc.lean ====
section
/-! DEFINITION. The backup domain: the calendar (R455-R457), ticks, trim and correction (R458), the load of the head time
(R459), the alarm (R460), retention (R452), and the commands of block 0x10 on them (R461). -/
namespace Sys2Proof.Machine

/-! ### The calendar (R455) -/

/-- A leap year. -/
def leapYear (y : Nat) : Bool := (y % 4 = 0 && y % 100 ≠ 0) || y % 400 = 0

/-- Lengths of the twelve months of a year. -/
def monthLengths (y : Nat) : List Nat := [31, if leapYear y then 29 else 28, 31, 30, 31, 30, 31, 31, 30, 31, 30, 31]

/-- Days from 2000-01-01 to the first day of year 2000 + `k`. -/
def yearDays (k : Nat) : Nat := 365 * k + (k + 3) / 4 - (k + 99) / 100 + (k + 399) / 400

/-- Days from 2000-01-01 to a date. -/
def Date.days (d : Date) : Nat := yearDays (d.year - 2000) + sumNat ((monthLengths d.year).take (d.month - 1)) + (d.day - 1)

/-- Seconds of the day. -/
def Date.daySeconds (d : Date) : Nat := d.hour * 3600 + d.minute * 60 + d.second

/-- Seconds from 2000-01-01 00:00:00. -/
def Date.seconds (d : Date) : Nat := d.days * 86400 + d.daySeconds

/-- Days of the 400 years of the calendar (R456). -/
abbrev eraDays : Nat := 146097

/-- Month and day of a day of the year, counted from 0. -/
def monthDay : Nat → Nat → List Nat → Nat × Nat
  | m, d, [] => (m, d + 1)
  | m, d, n :: rest => if d < n then (m, d + 1) else monthDay (m + 1) (d - n) rest

/-- The date and time a number of seconds after 2000-01-01 00:00:00, within the calendar's 400 years. -/
def dateOf (seconds : Nat) : Date :=
  let days := seconds / 86400 % eraDays
  let s := seconds % 86400
  let k := if yearDays (days / 366 + 1) ≤ days then days / 366 + 1 else days / 366
  let (month, day) := monthDay 1 (days - yearDays k) (monthLengths (2000 + k))
  ⟨2000 + k, month, day, s / 3600, s / 60 % 60, s % 60⟩

/-- Weekday, 0 Sunday to 6 Saturday: 2000-01-01 was a Saturday (R453, R455). -/
def Date.weekday (d : Date) : Nat := (d.days + 6) % 7

/-- A possible date and time (R457). -/
def Date.possible (d : Date) : Bool :=
  2000 ≤ d.year && d.year ≤ 2399 && 1 ≤ d.month && d.month ≤ 12 && 1 ≤ d.day
    && d.day ≤ (monthLengths d.year).getD (d.month - 1) 0 && d.hour < 24 && d.minute < 60 && d.second < 60

/-- A date field: 8 bytes, with the last as given (R461). -/
def Date.bytes (d : Date) (last : Nat) : List Byte :=
  pack [(2, d.year), (1, d.month), (1, d.day), (1, d.hour), (1, d.minute), (1, d.second), (1, last)]

/-- The date field of a command's parameters. -/
def dateParam (p : Packet) : Date := ⟨pu p 0 2, pu p 2 1, pu p 3 1, pu p 4 1, pu p 5 1, pu p 6 1⟩

/-- Days from 1970-01-01 to 2000-01-01 (R459). -/
abbrev daysTo2000 : Nat := 10957

/-! ### Time and alarm -/

def Head.setBackup (h : Head) (f : Backup → Backup) : Head := { h with backup := f h.backup }

/-- The head time that R459 loads, in ns from 1970. -/
def Backup.headNs (b : Backup) : Nat :=
  ((b.now.days + daysTo2000) * 86400 + b.now.daySeconds) * 1000000000 + b.ticks * 1000000000 / 32768

/-- The alarm fires (R460): an item that caused it is named as Table 03-12 gives. DEDUCED (log 73). -/
def Head.fireAlarm (h : Head) (item : Option Packet) : Head :=
  let h := h.setBackup fun b => { b with alarmFlag := true, alarm := none }
  if !h.fromBoot then h
  else
    let h := match item with
      | some p => h.postHost 0x1003 0xFFFF p
      | none => h.post 0x1003 0 0xFFFF []
    h.wakeBy 2

/-- Write the RTC: an alarm that the write moves it to or past fires (R460). -/
def Head.writeRtc (h : Head) (d : Date) (ticks : Nat) (item : Option Packet) : Head :=
  let old := h.backup.now.seconds
  let due : Bool := h.backup.alarm.any fun a => old < a.seconds && a.seconds ≤ d.seconds
  let h := h.setBackup fun b => { b with now := d, ticks, timeLost := false }
  if due then h.fireAlarm item else h

/-- The RTC and the head time differ by more than 2 ticks (R458). -/
def Head.rtcOff (h : Head) : Bool :=
  ((h.now : Int) - (h.backup.headNs : Int)).natAbs * 32768 > 2 * 1000000000

/-- The correction of R458: the RTC takes the head time. -/
def Head.correctRtc (h : Head) : Head :=
  let t := h.now
  let seconds := (t / 1000000000 + eraDays * 86400 - daysTo2000 * 86400 % (eraDays * 86400)) % (eraDays * 86400)
  (h.setBackup fun b => { b with syncDue := false }).writeRtc (dateOf seconds) (t % 1000000000 * 32768 / 1000000000) none

/-- A whole second: the date advances or is corrected, the alarm and the head time are compared (R455, R456, R458, R460). -/
def Head.rtcSecond (h : Head) : Head :=
  let wraps : Bool := h.backup.now = ⟨2399, 12, 31, 23, 59, 59⟩
  let h := h.setBackup fun b => { b with now := dateOf (b.now.seconds + 1), centuryWrap := b.centuryWrap || wraps }
  let h := if wraps && h.fromBoot then h.post 0x1004 0 0xFFFF [] else h
  let h := if h.backup.alarm = some h.backup.now then h.fireAlarm none else h
  let h := if h.backup.syncDue && h.fromBoot then h.correctRtc else h
  let due : Bool := h.backup.sync && h.fromBoot && h.time.servo = .locked && h.rtcOff
  h.setBackup fun b => { b with syncDue := due }

/-- Ticks between two applications of the trim (R458). -/
abbrev trimSpan : Nat := 1048576

/-- RTC_TICK: one period of the 32.768 kHz oscillator (R455, R458). DEDUCED (log 73). -/
def Head.rtcTick (h : Head) : Head :=
  let b := h.backup
  let counted := b.trimCount + 1
  let trims : Bool := counted ≥ trimSpan && (b.ticks : Int) + 1 + b.trim ≥ 0
  let ticks := if trims then ((b.ticks : Int) + 1 + b.trim).toNat else b.ticks + 1
  let h := h.setBackup fun b => { b with trimCount := if trims then 0 else counted, ticks := ticks % 32768 }
  if ticks ≥ 32768 then h.rtcSecond else h

/-- RTC_TICK. -/
def execRtcTick (s : State) : Host.Outcome State Fault Refusal := eventExec true Head.rtcTick s

/-- HEAD_TIME_LOAD: on the first tick after POR_N rises (R459). -/
def execHeadTimeLoad (s : State) : Host.Outcome State Fault Refusal :=
  eventExec true (fun h =>
    if h.backup.loadDue && h.sys.porN && h.sys.mode ≠ .off then
      let h := h.setBackup fun b => { b with loadDue := false }
      { h with time := { h.time with head := h.backup.headNs * 2 ^ 32 } }
    else h) s

/-- BROWN_OUT_DETECT: the domain supply below 1.70 V for 1 µs clears both signature words (R452). -/
def execBrownOutDetect (s : State) : Host.Outcome State Fault Refusal :=
  eventExec true (fun h => h.setBackup fun b => { b with signature := false }) s

/-! ### Commands -/

/-- The modes in which the backup domain is configured. -/
abbrev rtcModes : List Mode := [.commission, .service, .rescue, .safe]

/-- GET_RTC. -/
def getRtcCmd : Command :=
  observeCommand 0x1002 0 Head.fromBoot (fun p _ => noTarget p) (fun _ _ => []) fun _ h =>
    let b := h.backup
    b.now.bytes b.now.weekday
      ++ pack [(2, b.ticks), (1, flag b.retValid 0 + flag b.timeLost 1 + flag b.centuryWrap 2 + flag b.alarmFlag 3
          + flag b.alarm.isSome 4 + flag b.sync 5)]
      ++ leInt 1 b.trim ++ (match b.alarm with | some a => a.bytes 0 | none => List.replicate 8 0)
def execGetRtc (p : Packet) (s : State) : Host.Outcome State Fault Refusal := hostExec getRtcCmd p s

/-- SET_RTC (R456, R457). -/
def setRtcCmd : Command :=
  localCommand 0x1003 12 rtcModes (fun p => pz p 7 1 && pu p 8 1 < 2 && pz p 9 3)
    (fun p _ => [(!(dateParam p).possible, Status.invalidDate)])
    fun p h =>
      let h := h.writeRtc (dateParam p) 0 (some p)
      if bit (pu p 8 1) 0 then h.setBackup fun b => { b with centuryWrap := false } else h
def execSetRtc (p : Packet) (s : State) : Host.Outcome State Fault Refusal := hostExec setRtcCmd p s

/-- SET_RTC_ALARM (R457, R460). -/
def setRtcAlarmCmd : Command :=
  localCommand 0x1004 12 rtcModes (fun p => pu p 8 1 < 2 && pz p 9 3 && (pu p 8 1 = 0 || pz p 7 1))
    (fun p h =>
      [ (pu p 8 1 = 1 && !(dateParam p).possible, Status.invalidDate),
        (pu p 8 1 = 1 && (dateParam p).seconds ≤ h.backup.now.seconds, Status.alarmPast) ])
    fun p h => h.setBackup fun b =>
      { b with alarmFlag := false, alarm := if pu p 8 1 = 1 then some (dateParam p) else none }
def execSetRtcAlarm (p : Packet) (s : State) : Host.Outcome State Fault Refusal := hostExec setRtcAlarmCmd p s

/-- SET_RTC_CONFIG (R458). -/
def setRtcConfigCmd : Command :=
  localCommand 0x1005 4 rtcModes (fun p => ps p 0 1 ≠ -128 && pu p 1 1 < 2 && pz p 2 2) (fun _ _ => [])
    fun p h => h.setBackup fun b =>
      { b with trim := ps p 0 1, sync := bit (pu p 1 1) 0, syncDue := b.syncDue && bit (pu p 1 1) 0 }
def execSetRtcConfig (p : Packet) (s : State) : Host.Outcome State Fault Refusal := hostExec setRtcConfigCmd p s

/-- READ_BACKUP (R454). -/
def readBackupCmd : Command :=
  observeCommand 0x1006 0 Head.fromBoot (fun p _ => noTarget p) (fun _ _ => []) fun _ h =>
    let valid := sumNat (h.backup.words.mapIdx fun n w => flag w.isSome n)
    pack ([(1, valid), (1, 0), (2, h.backup.lastEpoch % 4096)] ++ h.backup.words.map fun w => (4, w.getD 0))
def execReadBackup (p : Packet) (s : State) : Host.Outcome State Fault Refusal := hostExec readBackupCmd p s

/-- WRITE_BACKUP (R454). -/
def writeBackupCmd : Command :=
  localCommand 0x1007 8 rtcModes (fun p => pu p 0 1 < 8 && pz p 1 3) (fun _ _ => [])
    fun p h => h.setBackup fun b => { b with words := setAt (pu p 0 1) (fun _ => some (pu p 4 4)) b.words }
def execWriteBackup (p : Packet) (s : State) : Host.Outcome State Fault Refusal := hostExec writeBackupCmd p s


end Sys2Proof.Machine
end

