-- ==== Sys2Proof/Machine/Ptp.lean ====
section
/-! DEFINITION. The PTP instance (R177, R183-R185, Table 07-1): its messages, the choice of a port, the exchanges, and the stamps
they take from the queues.  The messages are those of IEEE 1588-2019, which Table 07-1 names. PRESUMED (log 13).  Instants are
in 2⁻¹⁶ ns. -/
namespace Sys2Proof.Machine

def Head.ptpPort (h : Head) (i : Nat) : PtpPort := h.time.ports.getD i {}
def Head.setPtpPort (h : Head) (i : Nat) (f : PtpPort → PtpPort) : Head :=
  { h with time := { h.time with ports := setAt i f h.time.ports } }

/-! ### Stamps (R183, Table 07-2) -/

/-- A transmit stamp at the MAC, in 2⁻⁸ ns, corrected to the line. -/
def PtpPort.txStamp (x : PtpPort) (stamp : Nat) : Int := stamp + 48 * 256 + x.txExt * 16
/-- A receive stamp at the MAC, in 2⁻⁸ ns, corrected to the line. PRESUMED (log 13). -/
def PtpPort.rxStamp (x : PtpPort) (stamp : Nat) : Int := stamp - 80 * 256 - x.rxExt * 16

/-! ### Messages -/

namespace PtpType
abbrev sync := 0x0
abbrev delayReq := 0x1
abbrev pdelayReq := 0x2
abbrev pdelayResp := 0x3
abbrev followUp := 0x8
abbrev delayResp := 0x9
abbrev pdelayRespFollowUp := 0xA
abbrev announce := 0xB
end PtpType

/-- The fields of a message's common header. -/
structure PtpHeader where
  type       : Nat
  domain     : Nat
  twoStep    : Bool
  /-- correctionField, 2⁻¹⁶ ns -/
  correction : Int
  /-- sourcePortIdentity, 10 bytes -/
  source     : List Byte
  sequence   : Nat
  deriving DecidableEq, Repr

/-- Read a message's header; none for one that is too short or of another version. -/
def ptpHeader (m : List Byte) : Option PtpHeader :=
  if m.length < 44 || beField m 1 1 % 16 ≠ 2 then none
  else some {
    type := beField m 0 1 % 16, domain := beField m 4 1, twoStep := bit (beField m 6 1) 1
    correction := toSigned 64 (beField m 8 8), source := (m.drop 20).take 10, sequence := beField m 30 2 }

/-- A timestamp of 10 bytes. -/
def ptpTime (m : List Byte) (o : Nat) : Int := ((beField m o 6 * 1000000000 + beField m (o + 6) 4) * 65536 : Nat)

/-- An instant as a timestamp of 10 bytes. -/
def ptpTimeBytes (t : Int) : List Byte :=
  let ns := (t / 65536).toNat
  beBytes 6 (ns / 1000000000) ++ beBytes 4 (ns % 1000000000)

/-- The identity of a port of this instance. -/
def ptpIdentity (port : Nat) : List Byte := Config.clockIdentity.toList ++ beBytes 2 (port + 1)

/-- A message of this head. -/
def Head.ptpMessage (h : Head) (port type sequence : Nat) (twoStep : Bool) (correction : Int) (body : List Byte) : List Byte :=
  [BitVec.ofNat 8 type, 0x12] ++ beBytes 2 (34 + body.length) ++ beBytes 1 h.time.domain ++ [0, BitVec.ofNat 8 (flag twoStep 1), 0]
    ++ beBytes 8 (ofSigned 64 correction) ++ beBytes 4 0 ++ ptpIdentity port ++ beBytes 2 sequence
    ++ [if type = PtpType.delayReq then 1 else 5, 0x7F] ++ body

/-- Does a port run P2P, and does it use Annex E (PORT_MECH)? -/
def Head.ptpP2p (h : Head) (port : Nat) : Bool := bit h.time.portMech port
def Head.ptpAnnexE (h : Head) (port : Nat) : Bool := bit h.time.portMech (2 + port)

/-- Put a message on a port: in a frame of Annex E, or to the UDP ports of Annex C. -/
def Head.sendPtp (h : Head) (port type : Nat) (message : List Byte) : Head :=
  let peer : Bool := type = PtpType.pdelayReq || type = PtpType.pdelayResp || type = PtpType.pdelayRespFollowUp
  if h.ptpAnnexE port then
    h.emit (.ethFrame port (beBytes 6 (if peer then 0x0180C200000E else 0x011B19000000) ++ Config.macOf port ++ beBytes 2 0x88F7 ++ message))
  else
    let udp := if type < 8 then 319 else 320
    h.sendUdp port udp (if peer then 0xE000006B else 0xE0000181) udp message

/-- The identifier of a transmit stamp (R184). -/
def stampId (type sequence : Nat) : Nat := type * 4096 + sequence % 4096

/-- Send a request, Delay_Req or Pdelay_Req, which waits for its stamp and its answer. -/
def Head.sendPtpRequest (h : Head) (port type : Nat) (origin receipt : Int) : Head :=
  let n := (h.ptpPort port).sequence
  let h := h.setPtpPort port fun x => { x with
    sequence := (n + 1) % 65536, request := some { type, sequence := n, origin, receipt, stamp := none, response := none } }
  h.sendPtp port type (h.ptpMessage port type n false 0 (List.replicate (if type = PtpType.delayReq then 10 else 20) 0))

/-! ### The queue of transmit stamps (R184) -/

/-- The firmware reads one entry: it belongs to the request, or to an answer whose follow-up goes out now, or to nothing and is
discarded. -/
def Head.pairStamp (h : Head) (port : Nat) (entry : Nat × Nat) : Head :=
  let x := h.ptpPort port
  let t : Int := (entry.2 : Int) * 256
  match x.request.filter fun r => stampId r.type r.sequence = entry.1,
      x.answers.find? fun a => stampId PtpType.pdelayResp a.sequence = entry.1 with
  | some r, _ => h.setPtpPort port fun x => { x with request := some { r with stamp := some t } }
  | none, some a =>
    let h := h.setPtpPort port fun x => { x with answers := x.answers.erase a }
    h.sendPtp port PtpType.pdelayRespFollowUp (h.ptpMessage port PtpType.pdelayRespFollowUp a.sequence false
      (a.correction + t % 65536) (ptpTimeBytes t ++ a.requester))
  | none, none => h

/-- The firmware reads a port's queue, in order, as it takes a message. PRESUMED (log 13). -/
def Head.readStamps (h : Head) (port : Nat) : Head :=
  let entries := (h.ptpPort port).stamps
  entries.foldl (fun (h : Head) e => h.pairStamp port e) (h.setPtpPort port fun x => { x with stamps := [] })

/-! ### The choice of the port (Table 07-1) -/

/-- The data set of an Announce, as a number whose lesser is the better: the grandmaster's priority 1, quality, priority 2 and
identity, the steps to it, and the sender. -/
def announceSet (m : List Byte) (source : List Byte) : Nat :=
  beField ((m.drop 47).take 16 ++ source) 0 26

/-- The sender in a data set. -/
def parentOf (best : Nat) : List Byte := beBytes 10 (best % 2 ^ 80)

/-- A port takes an Announce: from the master it has, or a better one. -/
def PtpPort.hearAnnounce (x : PtpPort) (m : List Byte) (source : List Byte) : PtpPort :=
  let set := announceSet m source
  if m.length < 64 || 255 ≤ beField m 61 2 then x
  else match x.best with
    | none => { x with best := some set }
    | some b => if set < b || parentOf b = source then { x with best := some set } else x

/-- The best master clock algorithm chooses this port: it hears a master, and the other port none that is better.
PRESUMED (log 13). -/
def Head.ptpServes (h : Head) (port : Nat) : Bool := match (h.ptpPort port).best, (h.ptpPort (1 - port)).best with
  | none, _ => false
  | some _, none => true
  | some a, some b => a < b || (a = b && port = 0)

/-- Sorted, ascending. -/
def sortInts : List Int → List Int
  | [] => []
  | x :: xs => insertSorted x (sortInts xs)

/-- Four exchanges whose path delays lie within 1 µs of their median (R178). PRESUMED (log 13). -/
def consistent (xs : List (Int × Int)) : Bool :=
  let sorted := sortInts (xs.map fun x => x.2)
  let twice := sorted.getD 1 0 + sorted.getD 2 0
  xs.length = 4 && xs.all fun x => (2 * x.2 - twice).natAbs ≤ 2000

/-- PORT_STATE of both ports: 4 LISTENING, 7 PASSIVE, 8 UNCALIBRATED, 9 SLAVE. PRESUMED (log 13). -/
def Head.judgePorts (h : Head) : Head :=
  { h with time := { h.time with ports := h.time.ports.mapIdx fun i x => { x with
    state := if !h.portUp i then x.state else if x.best.isNone then 4 else if !h.ptpServes i then 7
      else if consistent x.exchanges then 9 else 8 } } }

/-! ### Exchanges -/

/-- What a message completes: an exchange with its offset, the PTP time less the head time, and its path delay, in ns. -/
abbrev Exchange := Option (Int × Int)

/-- A Sync with its origin is known: under P2P it is an exchange by the neighbour's delay; under E2E it waits for the answer to
a Delay_Req, and each Sync asks again. -/
def Head.syncKnown (h : Head) (port : Nat) (origin receipt : Int) : Head × Exchange :=
  let h := h.setPtpPort port fun x => { x with sync := none }
  if h.ptpP2p port then
    let delay := (h.ptpPort port).linkDelay
    (h.sendPtpRequest port PtpType.pdelayReq origin receipt,
      delay.map fun d => (roundDiv (origin - receipt) 65536 + d, d))
  else (h.sendPtpRequest port PtpType.delayReq origin receipt, none)

/-- The neighbour's delay is known: half the round trip, less what the neighbour and the way took. -/
def Head.linkKnown (h : Head) (port : Nat) (twice : Int) : Head :=
  h.setPtpPort port fun x => { x with request := none, linkDelay := some (roundDiv twice 131072) }

/-- The request that a response answers: of this type, with its sequenceId, asked by this port. -/
def Head.answered? (h : Head) (port type : Nat) (x : PtpHeader) (m : List Byte) : Option PtpRequest :=
  (h.ptpPort port).request.filter fun r => r.type = type && r.sequence = x.sequence && (m.drop 44).take 10 = ptpIdentity port

/-- A message at a port, with its receive stamp on the line. PRESUMED (log 13). -/
def Head.takePtp (h : Head) (port : Nat) (x : PtpHeader) (m : List Byte) (receipt : Int) : Head × Exchange :=
  let y := h.ptpPort port
  let master : Bool := y.best.any fun b => parentOf b = x.source
  if x.type = PtpType.announce then (h.setPtpPort port fun y => y.hearAnnounce m x.source, none)
  else if x.type = PtpType.sync && master then
    if x.twoStep then
      (h.setPtpPort port fun y => { y with sync := some { sequence := x.sequence, receipt, correction := x.correction } }, none)
    else h.syncKnown port (ptpTime m 34 + x.correction) receipt
  else if x.type = PtpType.followUp && master then match y.sync.filter fun s => s.sequence = x.sequence with
    | some s => h.syncKnown port (ptpTime m 34 + s.correction + x.correction) s.receipt
    | none => (h, none)
  else if x.type = PtpType.delayResp && master then match h.answered? port PtpType.delayReq x m with
    | some r =>
      let h := h.setPtpPort port fun y => { y with request := none }
      (h, r.stamp.map fun sent =>
        let there := r.receipt - r.origin
        let back := ptpTime m 34 - x.correction - sent
        (roundDiv (back - there) 131072, roundDiv (there + back) 131072))
    | none => (h, none)
  else if x.type = PtpType.pdelayReq then
    let h := h.setPtpPort port fun y => { y with
      answers := (y.answers ++ [(⟨x.sequence, x.source, x.correction⟩ : PtpAnswer)]).drop (y.answers.length - 15) }
    (h.sendPtp port PtpType.pdelayResp (h.ptpMessage port PtpType.pdelayResp x.sequence true (-(receipt % 65536))
      (ptpTimeBytes receipt ++ x.source)), none)
  else if x.type = PtpType.pdelayResp then match h.answered? port PtpType.pdelayReq x m with
    | some r =>
      if x.twoStep then
        (h.setPtpPort port fun y => { y with
          request := some { r with response := some (ptpTime m 34 - x.correction, receipt) } }, none)
      else match r.stamp with
        | some sent => (h.linkKnown port (receipt - sent - x.correction), none)
        | none => (h.setPtpPort port fun y => { y with request := none }, none)
    | none => (h, none)
  else if x.type = PtpType.pdelayRespFollowUp then match h.answered? port PtpType.pdelayReq x m with
    | some r => match r.response, r.stamp with
      | some (asked, back), some sent => (h.linkKnown port (back - sent - (ptpTime m 34 + x.correction - asked)), none)
      | _, _ => (h.setPtpPort port fun y => { y with request := none }, none)
    | none => (h, none)
  else (h, none)

end Sys2Proof.Machine
end

