-- ==== Sys2Proof/Machine/TimeBase.lean ====
section
/-! DEFINITION. The time base of chapter 07: the servo (R175-R182), the step (R179, R180), time-stamps (R183-R185), the
commands of block 0x05 that concern them, and SET_TRIGGER (R186, R187). -/
namespace Sys2Proof.Machine

/-! ### The servo -/

/-- The highest and lowest INCR (R175). -/
def incrMax : Nat := 0x800346DC6
def incrMin : Nat := 0x7FFCB923A
def incrNominal : Nat := 0x800000000

/-- The rate that a servo update sets: the servo's request (a free value, log 3), or the end of the span while TIME_FAR
holds, within the span of R175. DEDUCED (log 14). -/
def Head.steer (h : Head) (offset : Int) : Head :=
  let (request, h) := h.drawInt
  let wanted : Int := if h.time.far then (if offset > 0 then incrMax else incrMin) else request
  let r := clampTo incrMin incrMax wanted
  { h with time := { h.time with incr := r.1.toNat, clamped := r.2 } }

/-- The states of R178 after a valid offset, with TIME_LOCKED at the entry to LOCKED. -/
def Head.servoState (h : Head) (offset : Int) : Head :=
  let t := h.time
  let run := if offset.natAbs < 100 then min (t.lockRun + 1) 16 else 0
  let locked : Bool := run = 16
  let h := { h with time := { t with
    lockRun := run, offsetAt := h.now, servo := if locked then .locked else .tracking } }
  if locked && t.servo ≠ .locked then h.post 0x0501 5 0xFFFF [] else h

/-- TIME_FAR and TIME_NEAR (R181). -/
def Head.farState (h : Head) (offset : Int) : Head :=
  let t := h.time
  if t.stepOpen || t.stepDue.isSome then h
  else if !t.far && offset.natAbs > t.farThreshold then
    (({ h with time := { t with far := true, nearRun := 0 } }).raise 0 13).post 0x0503 5 0xFFFF []
  else if t.far then
    let run := if 2 * offset.natAbs < t.farThreshold then t.nearRun + 1 else 0
    if run ≥ 16 then ({ h with time := { t with far := false, nearRun := 0 } }).post 0x0504 5 0xFFFF []
    else { h with time := { t with nearRun := run } }
  else h

/-- The step window at a valid offset (R179): a step falls due at the next cycle boundary. -/
def Head.stepWindow (h : Head) (offset : Int) : Head :=
  if !h.time.stepOpen || h.time.stepDue.isSome then h
  else if offset.natAbs > h.time.stepMin then
    { h with time := { h.time with stepDue := some offset, stepCycle := h.time.cycle + 1 } }
  else { h with time := { h.time with stepOpen := false } }

/-- A valid offset, as what is to be added to the head time to reach the source (R178-R181). -/
def Head.validOffset (h : Head) (offset : Int) : Head :=
  (((h.servoState offset).stepWindow offset).farState offset).steer offset

/-- The settings of SET_TIME_SOURCE and the role's own source take effect at a servo update (R177, R199). -/
def Head.servoSettings (h : Head) : Head :=
  match h.time.settings with
  | none => h
  | some (ptp, domain, portMech, servoBw, stepMin, farThreshold) =>
    { h with time := { h.time with ptp, domain, portMech, servoBw, stepMin, farThreshold, settings := none } }

/-- SOURCE NONE: nominal INCR, FREE (R177, R178). -/
def Head.noSource (h : Head) : Head :=
  { h with time := { h.time with
      source := 0, servo := .free, incr := incrNominal, clamped := false, lockRun := 0, offset := 0 } }

/-- A head that has become active leaves PEER at once where no PTP source is configured (R177). -/
def Head.followSource (h : Head) : Head :=
  if h.time.source ≠ 3 || h.sys.role = .standby then h
  else
    let h := h.servoSettings
    if h.time.ptp then h else h.noSource

/-- A servo update from a source, 1 and 2 PTP ports 0 and 1, 3 PEER, with the offset reported and the one to add when the
measurement is valid.  HOLDOVER lasts until an offset is valid, and TRACKING follows (R178). -/
def Head.servoUpdate (h : Head) (source : Nat) (valid : Bool) (reported add : Int) : Head :=
  let h := h.servoSettings
  let peer := h.sys.role = .standby
  if peer ≠ (source = 3) then h
  else if !peer && !(h.commands && h.time.ptp) then h.noSource
  else if h.time.servo = .holdover && !valid then h
  else
    let changed := h.time.source ≠ source
    let h := { h with time := { h.time with
      source, servo := if h.time.servo = .free || changed then .acquiring else h.time.servo
      lockRun := if changed then 0 else h.time.lockRun } }
    if !valid then h else ({ h with time := { h.time with offset := reported } }).validOffset add

/-! ### PTP -/

/-- An exchange on a port is complete: four of them that agree make its offset valid, and the port that the best master clock
algorithm chooses steers a head that is no standby (R177, R178). -/
def Head.usePtp (h : Head) (port : Nat) (offset delay : Int) : Head :=
  let exchanges := ((offset, delay) :: (h.ptpPort port).exchanges).take 4
  let h := h.setPtpPort port fun x => { x with exchanges, meanPath := delay.toNat, offset }
  if h.sys.role = .standby || !h.ptpServes port then h
  else h.servoUpdate (port + 1) (consistent exchanges) offset offset

/-- While no source measures, no servo update comes: the settings that wait take effect before a message is judged by them
(R199). PRESUMED (log 13). -/
def Head.idleSettings (h : Head) : Head :=
  if h.time.servo = .tracking || h.time.servo = .locked then h else h.servoSettings

/-- PTP_MESSAGE_RX: a PTP message at a port, over Annex E or Annex C, with its receive stamp at the MAC in 2⁻⁸ ns (R177, R183,
R184).  Another domain or transport than the one set is not taken (Table 07-1). PRESUMED (log 13). -/
def execPtpMessageRx (port : Nat) (message : PtpMessage) (stamp : Nat) (s : State) : Host.Outcome State Fault Refusal :=
  eventExec (port < 2) (fun h =>
    if !h.portUp port then h
    else
      let h := h.idleSettings
      match ptpHeader message.bytes with
      | none => h
      | some x =>
        if x.domain ≠ h.time.domain || message.annexE ≠ h.ptpAnnexE port then h
        else
          let h := h.readStamps port
          let (h, exchange) := h.takePtp port x message.bytes ((h.ptpPort port).rxStamp stamp * 256)
          (match exchange with
            | some (offset, delay) => h.usePtp port offset delay
            | none => h).judgePorts) s

/-- SERVO_HOLDOVER: no valid offset for 4 s after TRACKING or LOCKED (R178); the last INCR stays, and the master of the port in
use is no longer heard. PRESUMED (log 13). -/
def execServoHoldover (s : State) : Host.Outcome State Fault Refusal :=
  eventExec true (fun h =>
    if (h.time.servo = .tracking || h.time.servo = .locked) && h.time.offsetAt + 4000000000 ≤ h.now then
      let lost (i : Nat) (x : PtpPort) : PtpPort := if i + 1 = h.time.source then { x with best := none, exchanges := [] } else x
      Head.judgePorts { h with time := { h.time with servo := .holdover, lockRun := 0, ports := h.time.ports.mapIdx lost } }
    else h) s

/-- PTP_TX_STAMP: a transmit stamp, in 2⁻⁸ ns at the MAC, enters its port's queue or is dropped (R183-R185).
DEDUCED (log 23). -/
def execPtpTxStamp (port identifier stamp : Nat) (s : State) : Host.Outcome State Fault Refusal :=
  eventExec (port < 2) (fun h =>
    if !h.portUp port then h
    else
      let x := h.ptpPort port
      if x.stamps.length ≥ 16 then
        let h := h.setPtpPort port fun x => { x with dropped := satInc (2 ^ 32 - 1) x.dropped, overflow := true }
        if x.overflow then h else h.post 0x0505 5 port []
      else
        h.setPtpPort port fun x => { x with stamps := x.stamps ++ [(identifier % 65536, (x.txStamp stamp).toNat)] }) s

/-! ### The step -/

/-- A pending instant moved by a step (R180). -/
def moved (d : Int) (t : Nat) : Nat := ((t : Int) + d).toNat
def movedRamp (d : Int) (r : Ramp) : Ramp := { r with t0 := moved d r.t0 }

/-- Everything in the head that waits for an instant, or measures from one, moves by Δ with the head time (R180).
DESIGN CHOICE (log 17). DESIGN CHOICE (log 88). -/
def Head.moveInstants (h : Head) (d : Int) : Head :=
  let m := moved d
  { h with
    queues := h.queues.map fun q => { q with group := q.group.map fun g => { g with time := m g.time } }
    fences := h.fences.map fun f => { f with since := m f.since }
    eth := h.eth.map fun p => { p with reassembly := p.reassembly.map fun r => { r with since := m r.since } }
    faults := { h.faults with kickTime := m h.faults.kickTime, differSince := h.faults.differSince.map m }
    sec := { h.sec with
      sessions := h.sec.sessions.map fun s => { s with lastUse := m s.lastUse }
      debugSession := h.sec.debugSession.map fun x => { x with ends := x.ends.map m }
      nonce := h.sec.nonce.map fun x => (x.1, m x.2)
      debugNonce := h.sec.debugNonce.map fun x => (x.1, m x.2)
      transfer := h.sec.transfer.map fun x => { x with last := m x.last } }
    pins := { h.pins with
      gp := h.pins.gp.map fun p => { p with pulseEnd := p.pulseEnd.map m, parkEnd := m p.parkEnd }
      fout := h.pins.fout.map fun o => { o with shortAt := m o.shortAt }
      fin := h.pins.fin.map fun f => { f with rawSince := m f.rawSince, edges := f.edges.map m } }
    ranges := h.ranges.map fun r => { r with heldLog := r.heldLog.map fun x => (m x.1, x.2) }
    axes := h.axes.map fun a => { a with
      motion := { a.motion with
        plan := a.motion.plan.map fun p => { p with t0 := m p.t0 }
        brakeWait := a.motion.brakeWait.map m, dwellEnd := a.motion.dwellEnd.map m, dropAt := a.motion.dropAt.map m }
      step := { a.step with
        ramp := a.step.ramp.map (movedRamp d), lastMotion := a.step.lastMotion.map m
        homing := a.step.homing.map fun x => { x with since := m x.since, edge := x.edge.map m } }
      work := a.work.map fun w => { w with since := m w.since } }
    cal := { h.cal with comparators := h.cal.comparators.map fun c => { c with time := m c.time } }
    channels := h.channels.map fun c => { c with dirRun := (c.dirRun.1, m c.dirRun.2), divAt := m c.divAt }
    compute := { h.compute with
      lowSince := h.compute.lowSince.map m, loading := h.compute.loading.map fun (a, b, c, t) => (a, b, c, m t) }
    steps := h.steps.map fun c => { c with
      opened := m c.opened, dirAt := c.dirAt.map m, stepAt := c.stepAt.map m, delayed := c.delayed.map m }
    acq := { h.acq with adcs := h.acq.adcs.map fun a => { a with running := a.running.map m } }
    time := { h.time with
      cycleStart := m h.time.cycleStart, offsetAt := m h.time.offsetAt
      ports := h.time.ports.map fun x => { x with sync := none, request := none }
      triggers := h.time.triggers.map fun g => { g with
        start := m g.start, next := g.next.map fun n => ((n : Int) + d * 65536).toNat } } }

/-- TIME_STEPPED: at the next cycle boundary the head time moves by the offset, once, unless the window has closed (R179,
R180). -/
def execTimeStepped (s : State) : Host.Outcome State Fault Refusal :=
  eventExec true (fun h => match h.time.stepDue with
    | none => h
    | some d =>
      if !h.time.stepOpen || h.time.cycle < h.time.stepCycle then h else
      let h := h.moveInstants d
      let head := (((h.time.head : Int) + d * 2 ^ 32) % 2 ^ 96).toNat
      let h := { h with time := { h.time with head, stepOpen := false, stepped := true, stepDelta := d, stepDue := none } }
      h.post 0x0502 5 0xFFFF [(8, ofSigned 64 d)]) s

/-! ### The peer as a source -/

/-- SADDLE_DELAY_MEASURE: once a second, half the round trip of the heartbeat exchange, in ns (R182). -/
def execSaddleDelayMeasure (roundTrip : Nat) (s : State) : Host.Outcome State Fault Refusal :=
  eventExec true (fun h =>
    if h.sys.role = .standby && h.peer.saddleUp then { h with peer := { h.peer with saddleDelay := roundTrip / 2 } } else h) s

/-- The first forwarded beacon of a cycle: `own` is the active head's T_k on the own head time, to which the cycle is aligned,
and `peer` is T_HEAD; what is between them is the offset of a PEER head (R182). DEDUCED (log 14). -/
def Head.takePhase (h : Head) (own : Int) (peer : Nat) : Head :=
  let h : Head := { h with time := { h.time with cycleStart := own.toNat } }
  h.servoUpdate 3 true (own - peer) (peer - own)

/-- FORWARDED_BEACON_RX: `arrival` is the instant in ns after the head's own T_k at which the beacon is complete (R126).
The offset of a PEER head is its /S/ on the own head time, less T_HEAD, less the saddle delay; the head adds its opposite
(R182; log 14). -/
def execForwardedBeaconRx (arrival : Nat) (bytes : List Byte) (s : State) : Host.Outcome State Fault Refusal :=
  eventExec true (fun h =>
    if h.sys.role ≠ .standby || !h.peer.saddleUp then h
    else
      let (lane, bad, truncated, inner) := fwdParts bytes
      let x := frameHeader inner
      let p := framePayload inner
      if lane ≥ 32 then h
      else if arrival > 200 then h.lateOnSaddle lane
      else if bad || lineError inner truncated ≠ .none || x.type ≠ FrameType.beacon || !x.reserved then h
      else
        let start : Int := h.time.cycleStart + arrival - roundDiv ((bytes.length + 20) * 4) 10
        let first : Bool := h.net.branches.all fun b => b.fwdBeacon.isNone
        let h := (h.setBranch lane fun b => { b with fwdBeacon := some inner }).learnBeacon lane p
        if first then h.takePhase (start - h.peer.saddleDelay) (field p 24 8) else h) s

/-! ### Commands -/

/-- GET_TIME. -/
def getTimeCmd : Command :=
  observeCommand 0x0500 0 Head.fromBoot (fun p _ => noTarget p) (fun _ _ => []) fun _ h =>
    let t := h.time
    pack [(8, h.now % 2 ^ 64), (4, t.head % 2 ^ 32), (4, h.timeStatus), (6, t.cycle), (2, 0),
      (8, ofSigned 64 t.offset), (4, ofSigned 32 (roundDiv (((t.incr : Int) - incrNominal) * 1000000000) incrNominal)),
      (8, ofSigned 64 t.stepDelta)]
def execGetTime (p : Packet) (s : State) : Host.Outcome State Fault Refusal := hostExec getTimeCmd p s

/-- SET_TIME_SOURCE (R177-R181). -/
def setTimeSourceCmd : Command :=
  { blockCommand 0x0501 .configure 12 [.boot, .commission] true
    (fun p _ => noTarget p && pu p 0 1 ≤ 1 && pu p 1 1 < 128 && pu p 2 1 < 16 && 1 ≤ pu p 3 1 && pu p 3 1 ≤ 100
      && pu p 4 4 ≤ 1000000 && 100 ≤ pu p 8 4 && pu p 8 4 ≤ 1000000)
    (fun _ _ => [])
    fun p h => { head := { h with time := { h.time with
      settings := some (pu p 0 1 = 1, pu p 1 1, pu p 2 1, pu p 3 1, pu p 4 4, pu p 8 4) } } } with
    shared := fun _ h => !h.roleOpen }
def execSetTimeSource (p : Packet) (s : State) : Host.Outcome State Fault Refusal := hostExec setTimeSourceCmd p s

/-- CLOSE_STEP (R179). -/
def closeStepCmd : Command :=
  { opcode := 0x0502, cls := .operate, len := lenIs 0, active := true, shared := fun _ h => !h.roleOpen
    stateOk := fun _ h => h.inMode [.boot, .commission] && h.time.stepOpen
    paramOk := fun p _ => noTarget p
    effect := fun _ h => { head := { h with time := { h.time with stepOpen := false, stepDue := none } } } }
def execCloseStep (p : Packet) (s : State) : Host.Outcome State Fault Refusal := hostExec closeStepCmd p s

/-- GET_PTP_PORT (R185): the read clears TSQ_DROPPED, and CLEAR the overflow flag. -/
def getPtpPortCmd : Command :=
  { opcode := 0x0503, cls := .observe, len := lenIs 4, stateOk := fun _ h => h.fromBoot
    paramOk := fun p _ => p.target < 2 && pu p 0 1 < 2 && pz p 1 3
    effect := fun p h =>
      let x := h.ptpPort p.target
      { head := h.setPtpPort p.target fun x => { x with dropped := 0, overflow := x.overflow && pu p 0 1 = 0 }
        reply := pack [(1, x.state), (1, x.stamps.length), (1, flag x.overflow 0), (1, 0), (4, x.dropped), (8, x.meanPath),
          (8, ofSigned 64 x.offset)] } }
def execGetPtpPort (p : Packet) (s : State) : Host.Outcome State Fault Refusal := hostExec getPtpPortCmd p s

/-- SET_PORT_LATENCY (Table 07-2, R199): each head takes it for its own ports. -/
def setPortLatencyCmd : Command :=
  { opcode := 0x0504, cls := .configure, len := lenIs 8, stateOk := fun _ h => h.inMode [.boot, .commission]
    paramOk := fun p _ => p.target < 2 && (ps p 0 4).natAbs ≤ 65536 && (ps p 4 4).natAbs ≤ 65536
    effect := fun p h => { head := h.setPtpPort p.target fun x => { x with txExt := ps p 0 4, rxExt := ps p 4 4 } } }
def execSetPortLatency (p : Packet) (s : State) : Host.Outcome State Fault Refusal := hostExec setPortLatencyCmd p s

/-- The instant of a CYCLE trigger in the cycle that runs, in 2⁻¹⁶ ns (Table 07-3). -/
def Head.cycleInstant (h : Head) (g : Trigger) : Option Nat :=
  if g.mode = 3 && h.time.cycle % max g.div 1 = g.phase then some (h.time.cycleStart * 65536 + g.offset * h.cycleNs)
  else none

/-- Only the fields that the mode uses may be set (SET_TRIGGER). -/
def triggerFieldsOk (p : Packet) : Bool :=
  let unusedCycle := pz p 1 2 && pz p 4 2
  let unusedPeriod := pz p 6 2 && pz p 16 4
  match pu p 0 1 with
  | 0 => unusedCycle && unusedPeriod && pz p 8 8
  | 1 => unusedCycle && unusedPeriod
  | 2 => unusedCycle && 100 ≤ pu p 16 4 && pu p 16 4 * 65536 + pu p 6 2 ≤ 1000000000 * 65536
  | 3 => pu p 2 1 ≤ pu p 1 1 && unusedPeriod && pz p 8 8
  | _ => false

/-- SET_TRIGGER (R186, R187). -/
def setTriggerCmd : Command :=
  { opcode := 0x0510, cls := .operate, len := lenIs 20, active := true, stateOk := fun _ h => h.fromCommission
    paramOk := fun p _ => p.target < 8 && pz p 3 1 && triggerFieldsOk p
    refusals := fun p h =>
      [((pu p 0 1 = 1 || pu p 0 1 = 2) && pu p 8 8 < h.now + 1000, Status.triggerPast)]
    effect := fun p h =>
      let g : Trigger := {
        mode := pu p 0 1, div := pu p 1 1 + 1, phase := pu p 2 1, offset := pu p 4 2, start := pu p 8 8
        period := pu p 16 4 * 65536 + pu p 6 2, merged := (h.time.triggers.getD p.target {}).merged }
      let next := if g.mode = 1 || g.mode = 2 then some (g.start * 65536)
        else (h.cycleInstant g).filter fun t => t > h.now * 65536
      { head := { h with time := { h.time with triggers := setAt p.target (fun _ => { g with next }) h.time.triggers } } } }
def execSetTrigger (p : Packet) (s : State) : Host.Outcome State Fault Refusal := hostExec setTriggerCmd p s

end Sys2Proof.Machine
end

