-- ==== Sys2Proof/Machine/Items.lean ====
section
/-! DEFINITION. How the head finds a command by its opcode (R86), takes the next item from its queues (R78, R81), applies a
deferred group at its effect instant (R92), and applies the settings of the active head (R382). -/
namespace Sys2Proof.Machine

/-! ### Opcodes -/

/-- The commands of block 0x01. -/
def block01Cmds : List Command :=
  [getSystemStatusCmd, setModeCmd, enterIdleCmd, setToleranceCmd, wakeCmd, setRescuePolicyCmd, systemResetCmd]

/-- The commands of block 0x02. -/
def block02Cmds : List Command :=
  [getQueueStatusCmd, fenceQueuesCmd, fenceCycleCmd, fenceTimeCmd, flushQueueCmd, sessionChallengeCmd,
   sessionOpenCmd, sessionCloseCmd, setEventRouteCmd]

/-- The commands of block 0x03. -/
def block03Cmds : List Command :=
  [getRangeCmd, setRangeCmd, rangeStartCmd, rangeStopCmd, getAxisCmd, defineAxisCmd, deleteAxisCmd, axisEnableCmd,
   axisDisableCmd, getMoverCmd, defineMoverCmd, bindSegmentCmd, unbindSegmentCmd, setMoverTrackCmd, setGapCmd]

/-- The commands of block 0x04. -/
def block04Cmds : List Command :=
  [getScheduleCmd, getBranchCmd, getNodeCmd, restoreBranchCmd, setJoinCmd, releaseSlotCmd, getLaneCmd,
   calibrateLaneCmd]

/-- The commands of block 0x05. -/
def block05Cmds : List Command :=
  [getTimeCmd, setTimeSourceCmd, closeStepCmd, getPtpPortCmd, setPortLatencyCmd, setTriggerCmd, armContourCmd,
   disarmContourCmd, getContourCmd]

/-- The commands of block 0x06. -/
def block06Cmds : List Command :=
  [getLoopCmd, setCoeffCmd, getCoeffCmd, clearLoopFlagsCmd, moveToCmd, moveLandingCmd, stopMoverCmd, setLimitsCmd,
   setBlendCmd, getOverrunCmd]

/-- The commands of block 0x07. -/
def block07Cmds : List Command :=
  [getChannelCmd, setChannelCmd, clearChannelFlagsCmd, setSensorCmd, setObserverCmd, getObserverCmd]

/-- The commands of block 0x08. -/
def block08Cmds : List Command :=
  [getPlacementCmd, getTileLoadCmd, setAffinityCmd, setDispatchCmd, setPlacerCmd]

/-- The commands of block 0x09. -/
def block09Cmds : List Command :=
  [getModuleCmd, loadModuleCmd, deleteModuleCmd, attachOperationCmd, detachOperationCmd]

/-- The commands of block 0x0A. -/
def block0ACmds : List Command :=
  [getStepperCmd, setStepperCmd, setStepperLimitsCmd, moveStepperCmd, moveGroupCmd, stopStepperCmd, homeStepperCmd,
   setMoveDescCmd, clearStepperFlagsCmd]

/-- The commands of block 0x0B. -/
def block0BCmds : List Command :=
  [getStreamCmd, setProbeCmd, setStreamCmd, streamStartCmd, streamStopCmd, setTrigUnitCmd, armUnitCmd,
   forceTriggerCmd, getTrigUnitCmd, startCaptureCmd, abortCaptureCmd, readSegmentCmd]

/-- The commands of block 0x0C. -/
def block0CCmds : List Command :=
  [getAdcCmd, setAdcCmd, setAdcTriggerCmd, setInputCmd, readChannelCmd, calibrateAdcCmd]

/-- The commands of block 0x0D. -/
def block0DCmds : List Command :=
  [getRedundancyCmd, setReturnCmd, switchoverCmd, resyncPeerCmd]

/-- The commands of block 0x0E. -/
def block0ECmds : List Command :=
  [getFaultSummaryCmd, getFaultsCmd, listFaultsCmd, clearFaultCmd, clearFirstFaultCmd, setAliveCmd,
   setBelayConfigCmd, setOutputGroupCmd]

/-- The commands of block 0x0F. -/
def block0FCmds : List Command :=
  [getSecurityCmd, provisionCmd, setLifecycleCmd, revokeKeyCmd, advanceRollbackCmd, writeImageCmd,
   debugChallengeCmd, debugOpenCmd, debugCloseCmd]

/-- The commands of block 0x10. -/
def block10Cmds : List Command :=
  [getPowerCmd, setPowerConfigCmd, getRtcCmd, setRtcCmd, setRtcAlarmCmd, setRtcConfigCmd, readBackupCmd,
   writeBackupCmd]

/-- The commands of block 0x11. -/
def block11Cmds : List Command :=
  [getPinCmd, setPinCmd, commitPinsCmd, setGpioCmd, getFieldIoCmd, setFieldInputCmd, setFieldOutputCmd,
   setFoutConfigCmd]

/-- Every command of the host interface (R86). -/
def commandTable : List Command :=
  block01Cmds ++ block02Cmds ++ block03Cmds ++ block04Cmds ++ block05Cmds ++ block06Cmds ++ block07Cmds ++
    block08Cmds ++ block09Cmds ++ block0ACmds ++ block0BCmds ++ block0CCmds ++ block0DCmds ++ block0ECmds ++
    block0FCmds ++ block10Cmds ++ block11Cmds

/-- The command of an opcode. -/
def commandOf (opcode : Nat) : Option Command := commandTable.find? fun c => c.opcode == opcode

/-- What an opcode that no command has is judged by: the head refuses it with BAD_OPCODE (R83). -/
def undefinedCmd (opcode : Nat) : Command :=
  { opcode, cls := .observe, len := fun _ => true, defined := false, stateOk := fun _ _ => true
    paramOk := fun _ _ => true, effect := fun _ h => { head := h } }

def commandFor (opcode : Nat) : Command := (commandOf opcode).getD (undefinedCmd opcode)

/-! ### The next item (R78) -/

/-- Run one item. -/
def runOpcode (opcode : Nat) (p : Packet) (h : Head) : Head := runItem (commandFor opcode) p h

/-- May a queue start an item at all: enabled, no fence running (R90), its last item replied to (R78), its completion queue
not full (R80), and no complete group that waits for its instant (R91)? -/
def Queue.open (q : Queue) : Bool :=
  q.enabled && q.async.all (fun i => !i.owed || i.final.isSome) && (q.group.all fun g => g.remaining > 0)
    && (q.ethernet || ((q.replies.all fun r => r.asyncDone) && q.cqFree > 0))

/-- FENCE in an item's header: every earlier item of its queue has its final status (R78). -/
def Queue.unfenced (q : Queue) (flags : Nat) : Bool := !bit flags 1 || q.async.all fun i => i.final.isSome

/-- Has a PCIe queue something to take: a malformed slot, or a packet, which starts its item when no chain is open? -/
def Queue.ready (q : Queue) (id : Nat) : Bool := match readFront q.fgen none 0 [] q.slots with
  | .partly => false
  | .malformed _ _ => true
  | .whole _ bytes => match q.chain with
    | some (_, c) => q.unfenced c.flags
    | none => q.unfenced (readPacket id bytes).2.flags

/-- Does a queue take its turn? -/
def Head.queueReady (h : Head) (q : Nat) : Bool :=
  let x := h.queue q
  x.open && if x.ethernet then match (h.ethQueue q).waiting with
      | [] => false
      | d :: _ => x.unfenced (readPacket q d.bytes).2.flags
    else x.ready q

/-- Take packets from the front of a PCIe queue until an item has run, the queue runs dry, or a slot is malformed
(R77, R81). DEDUCED (log 77). -/
def takePackets (q : Nat) : Nat → Head → Head
  | 0, h => h
  | fuel + 1, h =>
    let x := h.queue q
    match readFront x.fgen none 0 [] x.slots with
    | .partly => h
    | .malformed offset reason => h.slotError q offset reason
    | .whole n bytes =>
      let (op, p) := readPacket q bytes
      match x.chain with
      | none =>
        if bit p.flags 0 && bit p.flags 4 then
          takePackets q fuel (h.setQueue q fun x => { x.consume n with chain := some (op, p) })
        else runOpcode op p (h.setQueue q fun x => x.consume n)
      | some (cop, c) =>
        if bit p.flags 0 then runOpcode cop c (h.setQueue q fun x => { x with chain := none })
        else if op ≠ cop then runOpcode cop c (h.setQueue q fun x => { x.consume n with chain := none })
        else
          let c := { c with rest := c.rest ++ [packetPart p] }
          if bit p.flags 4 && c.rest.length < 16 then
            takePackets q fuel (h.setQueue q fun x => { x.consume n with chain := some (cop, c) })
          else runOpcode cop c (h.setQueue q fun x => { x.consume n with chain := none })

/-- Take the oldest waiting datagram of an Ethernet queue, judged once more by its SEQUENCE: one that has meanwhile run is
answered again or dropped (R72). -/
def Head.takeDatagram (h : Head) (q : Nat) : Head :=
  let e := h.ethQueue q
  match e.waiting with
  | [] => h
  | d :: rest =>
    let h := h.setEthQueue q fun e => { e with waiting := rest }
    let (op, p) := readPacket q d.bytes
    if e.highest.all fun n => serialAfter 32 p.sequence n then
      runOpcode op p (h.setEthQueue q fun e =>
        { e with highest := some p.sequence, ways := (p.tag, p.sequence, d.port, d.srcAddr, d.srcPort) :: e.ways })
    else match e.kept.find? fun k => k.1 == p.sequence with
      | some (_, bytes) => h.sendUdp d.port (h.sys.udpBase + q) d.srcAddr d.srcPort bytes
      | none => h.setQueue q fun x => { x with stale := satInc (2 ^ 32 - 1) x.stale }

/-- The queues in the order of this turn. -/
def Head.turnOrder (h : Head) : List Nat := (List.range 8).map fun i => (h.turn + i) % 8

/-- ITEM_START: skipping queues search on; then the next ready queue in turn gives one item (R78). -/
def Head.startItem (h : Head) : Head :=
  let h : Head := { h with queues := h.queues.map Queue.search }
  if !h.fromBoot || !h.fences.isEmpty then h
  else match h.turnOrder.find? fun q => h.queueReady q with
    | none => h
    | some q =>
      let h : Head := { h with turn := (q + 1) % 8 }
      if (h.queue q).ethernet then h.takeDatagram q else takePackets q 17 h

/-- ITEM_START (R78). -/
def execItemStart (s : State) : Host.Outcome State Fault Refusal := eventExec true Head.startItem s

/-! ### Deferred groups (R92) -/

/-- Time-placed actions, which take effect at the instant of a FENCE_TIME: those of the head's own acquisition and converters,
which run on head time (blocks 0x0B and 0x0C).  DEDUCED (log 19): everything else works by cycles. -/
def timePlaced (opcode : Nat) : Bool := opcode / 256 = 0x0B || opcode / 256 = 0x0C

/-- Set the oldest item of a queue that waits for the group under this echo. -/
def setGrouped (e : Echo) (f : AsyncItem → AsyncItem) : List AsyncItem → List AsyncItem
  | [] => []
  | i :: rest => if i.await = .group ∧ i.echo = e ∧ i.final = none then f i :: rest else i :: setGrouped e f rest

/-- The first word of a SET_COEFF that a group carries lands at the effect instant, when no earlier word of the axis waits, the
cycle is one of its range, and its evaluation is still to come (R227). -/
def Head.landAtEffect (before h : Head) (opcode : Nat) (p : Packet) : Head := match targetAxis? p before with
  | some a =>
    if opcode = 0x0601 && a.pending.isEmpty && !a.landed && (before.supervised || before.inTurn a)
        && (a.graph = .waiting || (a.graph = .ready && a.work.isNone)) then h.landWord a.id
    else h
  | none => h

/-- Apply one item of a group and keep its final status, or what it waits for when it runs on; then what follows its
reply. -/
def Head.applyGrouped (h : Head) (q : Nat) (opcode : Nat) (p : Packet) : Head × (Head → Head) :=
  let echo := echoOf p opcode
  if (h.queue q).async.any fun i => i.await = .group && i.echo = echo && i.final = none then
    let c := commandFor opcode
    let before := h
    let (h, await, status, params) := applyAgain c p h
    let set (i : AsyncItem) : AsyncItem := match await with
      | some a => { i with await := a }
      | none => { i with final := some (status, params) }
    (Head.landAtEffect before (h.setQueue q fun x => { x with async := setGrouped echo set x.async }) opcode p,
      if status = Status.ok then c.after p else id)
  else (h, id)

/-- Apply items in queue order. -/
def applyItems (q : Nat) : List (Nat × Packet) → Head × (Head → Head) → Head × (Head → Head)
  | [], r => r
  | (opcode, p) :: rest, (h, after) =>
    let (h, a) := h.applyGrouped q opcode p
    applyItems q rest (h, fun h => a (after h))

/-- GROUP_EFFECT: the group's instant or boundary has come.  A FENCE_TIME instant inside the running cycle lets the
time-placed items take effect; the rest, and every item of FENCE_CYCLE, follow at the boundary (R92).
DEDUCED (log 19). -/
def Head.groupEffect (h : Head) (q : Nat) : Head :=
  match (h.queue q).group with
  | none => h
  | some g =>
    if g.remaining > 0 then h
    else
      let boundary : Bool := if g.byTime then h.time.cycleStart ≥ g.time else h.time.cycle ≥ g.cycle
      let instant : Bool := g.byTime && g.time < h.time.cycleStart + h.cycleNs
      if !boundary && !instant then h
      else
        let h := if g.byTime then h.reach g.time else h
        let now (x : Nat × Packet) : Bool := boundary || timePlaced x.1
        let rest := g.items.filter fun x => !now x
        let h := h.setQueue q fun x => { x with group := some { g with items := rest } }
        let (h, after) := applyItems q (g.items.filter now) (h, id)
        -- the group has taken effect once nothing of it is left
        let h := if rest.isEmpty then
            h.setQueue q fun x => { x with
              group := none
              async := setGrouped g.fence (fun i => { i with final := some (Status.ok, []) }) x.async }
          else h
        after h

/-- GROUP_EFFECT (R92). -/
def execGroupEffect (q : Nat) (s : State) : Host.Outcome State Fault Refusal :=
  eventExec (q < 8) (fun h => h.groupEffect q) s

/-! ### Settings (R382) -/

/-- A SETTING's body: SEQ, EFFECT_CYCLE and a command packet without its MAC (Table 15-2). -/
def readSetting (body : List Byte) : Option Setting :=
  let (opcode, p) := readPacket 0 (body.drop 12)
  if body.length ≥ 28 && zeros body 10 2 && body.length = 28 + p.length then
    some { seq := field body 0 4, effect := field body 4 6, opcode, packet := p }
  else none

/-- Apply a setting on this head, `again` at a boundary that the active head named in advance. -/
def Head.applySetting (h : Head) (s : Setting) (again : Bool := false) : Head := match commandOf s.opcode with
  | some c => (applyInternal c s.packet h again).1
  | none => h

/-- A setting in its turn: kept in the own log, applied at its boundary, at once when that has passed. -/
def Head.takeSetting (h : Head) (s : Setting) : Head :=
  let h : Head := { h with peer := h.peer.keep s }
  if s.effect > h.time.cycle then { h with peer := { h.peer with waiting := h.peer.waiting ++ [s] } } else h.applySetting s

/-- The settings whose boundary has come, oldest first. DEDUCED (log 75). -/
def Head.dueSettings (h : Head) : Head :=
  let due := h.peer.waiting.filter fun s => s.effect ≤ h.time.cycle
  let h : Head := { h with peer := { h.peer with waiting := h.peer.waiting.filter fun s => s.effect > h.time.cycle } }
  due.foldl (fun h s => h.applySetting s true) h

/-- A SETTING arrives: the next in its order is taken; the log's first starts a replay; a skip costs READY (R386).
DEDUCED (log 76). -/
def Head.receiveSetting (h : Head) (s : Setting) : Head :=
  if s.seq = (h.peer.settingSeq + 1) % 2 ^ 32 then h.takeSetting s
  else if s.seq = 1 then
    Head.takeSetting (Head.loseReady { h with peer := { h.peer with log := [], logBytes := 0, logFull := false, waiting := [] } }) s
  else if serialAfter 32 s.seq h.peer.settingSeq then h.loseReady
  else h

/-- SETTING_RX: the payload of a SADDLE_MIRROR frame with a SETTING section (R379, R382). -/
def execSettingRx (bytes : List Byte) (s : State) : Host.Outcome State Fault Refusal :=
  eventExec true (fun h =>
    if h.sys.role ≠ .standby || !h.peer.saddleUp then h
    else match readSection bytes with
      | some (7, 1, 0, body) => match readSetting body with
        | some x => h.receiveSetting x
        | none => h
      | _ => h) s

end Sys2Proof.Machine
end

