-- ==== Sys2Proof/Machine/Boot.lean ====
section
/-! DEFINITION. The boot chain (R42, R44, R425): what it reads from the image and the record (R423, Table 17-5), the command
records (R424), the saddle window and the role (R45, R46, R393). -/
namespace Sys2Proof.Machine

/-! ### Sections (R423) -/

/-- The sections of a body, in order: type and bytes; none when the directory is malformed or names a type that `allowed`
does not hold. -/
def readSections (allowed : List Nat) (body : List Byte) : Option (List (Nat × List Byte)) :=
  let count := field body 0 4
  let entry (i : Nat) : Option (Nat × List Byte) :=
    let e := body.drop (16 + 16 * i)
    let offset := field e 4 4
    let bytes := field e 8 4
    if zeros e 2 2 && zeros e 12 4 && offset % 16 = 0 && 16 + 16 * count ≤ offset && offset + bytes ≤ body.length
        && allowed.contains (field e 0 2) then
      some (field e 0 2, (body.drop offset).take bytes)
    else none
  if body.length < 16 || !zeros body 4 12 || body.length < 16 + 16 * count then none
  else (List.range count).mapM entry

/-- Every section of a type, joined. -/
def joined (t : Nat) (sections : List (Nat × List Byte)) : List Byte :=
  (sections.filterMap fun s => if s.1 = t then some s.2 else none).flatten

/-- The sections of a type. -/
def sectionsOf (t : Nat) (sections : List (Nat × List Byte)) : List (List Byte) :=
  sections.filterMap fun s => if s.1 = t then some s.2 else none

/-- Parse records one after another until no byte is left. -/
def readAll {α : Type} (one : List Byte → Option (α × List Byte)) : Nat → List Byte → Option (List α)
  | _, [] => some []
  | 0, _ :: _ => none
  | fuel + 1, bs => match one bs with
    | none => none
    | some (x, rest) => (readAll one fuel rest).map fun xs => x :: xs

/-- Signed Q1.23 values in 32-bit containers (R5). -/
def fractions (n : Nat) (bs : List Byte) : List Int := (List.range n).map fun i => sfield bs (4 * i) 3

/-- A terrain table (R207, Table 08-2). -/
def readTerrain (bs : List Byte) : Option (Terrain × List Byte) :=
  let count := field bs 12 4
  if bs.length < 16 || field bs 0 2 > 4094 || field bs 2 1 > 1 || field bs 3 1 > 1 || field bs 8 1 < 4 || field bs 8 1 > 24
      || !zeros bs 9 3 || count < 2 || count > 1048576 || bs.length < 16 + 4 * count then none
  else some ({ id := field bs 0 2, cogging := field bs 2 1 = 1, periodic := field bs 3 1 = 1, origin := sfield bs 4 4
               spacingLog2 := field bs 8 1, entries := fractions count (bs.drop 16) }, bs.drop (16 + 4 * count))

/-- Entries that do not decrease. -/
def notDecreasing : List Nat → Bool
  | a :: b :: rest => a ≤ b && notDecreasing (b :: rest)
  | _ => true

/-- A blend table (R211, R5): 257 entries from 0 to 0x7F_FFFF that do not decrease. -/
def readBlend (bs : List Byte) : Option (List Nat × List Byte) :=
  let t := (List.range 257).map fun i => field bs (4 * i) 3
  if bs.length < 1028 || t.getD 0 1 ≠ 0 || t.getD 256 0 ≠ 0x7FFFFF || !notDecreasing t then none else some (t, bs.drop 1028)

/-- Coordinates that rise. -/
def ascending : List Int → Bool
  | a :: b :: rest => a < b && ascending (b :: rest)
  | _ => true

/-- A landing table (Table 17-5, R219): its track, the travel limits and the landings. -/
def readLanding (bs : List Byte) : Option ((Nat × Int × Int × List Int) × List Byte) :=
  let count := field bs 1 1
  let marks := (List.range count).map fun i => sfield bs (12 + 4 * i) 4
  if bs.length < 12 + 4 * count || field bs 0 1 > 63 || count > 128 || !zeros bs 2 2 || !ascending marks then none
  else some ((field bs 0 1, sfield bs 4 4, sfield bs 8 4, marks), bs.drop (12 + 4 * count))

/-- A module file of the image, padded to 16 bytes (Table 17-5): the file alone. -/
def readModuleFile (bs : List Byte) : Option (List Byte × List Byte) :=
  let n := 64 + 16 * field bs 10 1 + field bs 16 4 + field bs 20 4 + 96
  if bs.length < n then none else some (bs.take n, bs.drop ((n + 15) / 16 * 16))

/-- A command record (R424): opcode and the packet it stands for. -/
def readCommand (bs : List Byte) : Option ((Nat × Packet) × List Byte) :=
  let n := field bs 2 2
  let padded := (n + 3) / 4 * 4
  if bs.length < 8 + padded || !zeros bs 6 2 || !zeros bs (8 + n) (padded - n) then none
  else some ((field bs 0 2,
    { queue := 0, tag := 0, target := field bs 4 2, flags := 1, session := 0, sequence := 0, length := n
      body := (bs.drop 8).take n }), bs.drop (8 + padded))

/-- A host key entry (Table 17-7). -/
def readHostKey (bs : List Byte) : Option (HostKey × List Byte) :=
  if bs.length < 128 || field bs 0 1 ≠ 4 || field bs 97 1 > 7 || !zeros bs 98 30 then none
  else some ({ publicKey := bs.take 97, classes := field bs 97 1 }, bs.drop 128)

/-! ### The configuration image -/

/-- Everything of an image but its schedules and modules; none when a section is malformed. -/
def Head.readImage (h : Head) (sections : List (Nat × List Byte)) : Option Head :=
  let all {α : Type} (one : List Byte → Option (α × List Byte)) (t : Nat) : Option (List α) :=
    let bs := joined t sections
    readAll one bs.length bs
  match all readTerrain 0x0010, all readBlend 0x0011, all readLanding 0x0012, all readCommand 0x0080 with
  | some terrain, some blends, some landings, some _ =>
    let micro := joined 0x0013 sections
    let ids := terrain.map fun t => t.id
    if (blends.length ≠ 0 && blends.length ≠ 16) || (micro.length ≠ 0 && micro.length ≠ 12288)
        || !(ids.all fun i => (ids.filter fun j => j = i).length = 1) then none
    else some { h with
      terrain, blends
      microsteps := if micro.isEmpty then [] else (List.range 3).map fun i => fractions 1024 (micro.drop (4096 * i))
      tracks := landings.foldl (init := h.tracks) fun ts l =>
        setAt l.1 (fun (t : Track) => { t with travel := some (l.2.1, l.2.2.1), landings := l.2.2.2 }) ts }
  | _, _, _, _ => none

/-- The schedules of an image (R143): one base schedule, and at most one rescue schedule that matches it. -/
def readSchedules (sections : List (Nat × List Byte)) : Option (Schedule × Option Schedule) :=
  let one (bs : List Byte) : Option Schedule := match readSchedule bs with
    | some (s, []) => some s
    | _ => none
  match sectionsOf 0x0001 sections, sectionsOf 0x0002 sections with
  | [b], [] => match one b with
    | some base => if base.rescue then none else some (base, none)
    | none => none
  | [b], [r] => match one b, one r with
    | some base, some rescue => if base.rescue || !rescue.rescue || !rescueMatches base rescue then none else some (base, some rescue)
    | _, _ => none
  | _, _ => none

/-- The positions of a branch as its schedule gives them at reset (R136). -/
def positionOf (p : PositionEntry) : Position := { state := if p.spur then .spur else .unlocked }

/-- Put the schedules in force; each has its own JOIN_ENABLE bits (R143). -/
def Head.setSchedules (h : Head) (base : Schedule) (rescue : Option Schedule) : Head :=
  { h with net := { h.net with
    base := some base, rescue
    branches := h.net.branches.mapIdx fun i (b : Branch) => match base.branch? i with
      | some e => { b with
          joinMask := e.join, joinRescue := (rescue.bind fun s => s.branch? i).any fun e => e.join
          positions := e.positions.map positionOf }
      | none => b } }

/-- The modules of an image, in order (R311): none when one is refused. -/
def Head.loadModules : List (List Byte) → Head → Head × Bool
  | [], h => (h, true)
  | file :: rest, h => match h.judgeModule file (field file 8 2) false with
    | .ok m => loadModules rest (h.keepModule m)
    | .error _ => (h, false)

/-! ### The boot options (Table 17-6) -/

/-- A value in its range, 0 standing for the default; none outside. -/
def optionField (v lo hi dflt : Nat) : Option Nat :=
  if v = 0 then some dflt else if lo ≤ v && v ≤ hi then some v else none

/-- A big-endian IPv4 address, first octet first. -/
def ipField (bs : List Byte) (o : Nat) : Nat := leNat ((bs.drop o).take 4).reverse

/-- The port options from byte `o` on. -/
def readPort (bs : List Byte) (o : Nat) : EthPort :=
  { mode := field bs o 1, addr := ipField bs (o + 4), mask := ipField bs (o + 8), gateway := ipField bs (o + 12) }

/-- Apply the boot options; none when a field is out of range or a reserved byte is not 0. -/
def Head.readOptions (h : Head) (bs : List Byte) : Option Head :=
  let portOk (o : Nat) : Bool := field bs o 1 ≤ 2 && zeros bs (o + 1) 3 && zeros bs (o + 16) 8
  if bs.length ≠ 64 || field bs 0 1 > 3 || !zeros bs 1 1 || !zeros bs 12 4 || !portOk 16 || !portOk 40 then none
  else match optionField (field bs 2 2) 10 5000 200, optionField (field bs 4 2) 100 10000 2000,
      optionField (field bs 6 2) 1024 65528 41870, optionField (field bs 8 4) 10 3600 600 with
    | some saddleMs, some buildMs, some udpBase, some sessionIdle => some { h with
        sys := { h.sys with
          soloAllowed := bit (field bs 0 1) 0, autoService := bit (field bs 0 1) 1, saddleMs, buildMs, udpBase }
        sec := { h.sec with sessionIdle }
        eth := [readPort bs 16, readPort bs 40] }
    | _, _, _, _ => none

/-- What the selected record gives besides its command records; none when it is malformed. -/
def Head.readRecord (h : Head) (sections : List (Nat × List Byte)) : Option Head :=
  let commands := joined 0x0080 sections
  match sectionsOf 0x0100 sections, sectionsOf 0x0101 sections, readAll readCommand commands.length commands with
  | [options], [keys], some _ => match readAll readHostKey keys.length keys, h.readOptions options with
    | some hostKeys, some h =>
      if 1 ≤ hostKeys.length && hostKeys.length ≤ 4 then some { h with sec := { h.sec with hostKeys } } else none
    | _, _ => none
  | _, _, _ => none

/-! ### Command records (R424) -/

/-- May an opcode stand in a command record? -/
def recordAllows (c : Command) : Bool :=
  c.opcode = 0x0D01 || (c.cls = .configure && 3 ≤ c.opcode / 256 && c.opcode / 256 ≤ 0x11)

/-- Every word of an axis that waits lands at once: no loop runs in BOOT. -/
def landAll : Nat → Nat → Head → Head
  | 0, _, h => h
  | n + 1, id, h => landAll n id (h.landWord id)

/-- Apply one command record, as if taken in COMMISSION on an active head: the head and the status. -/
def Head.applyRecord (h : Head) (opcode : Nat) (p : Packet) : Head × Nat := match commandOf opcode with
  | none => (h, Status.badOpcode)
  | some c =>
    if !recordAllows c then (h, Status.notPermitted)
    else
      let view : Head := { h with sys := { h.sys with mode := .commission, role := .active } }
      let (v, status) := applyInternal c p view
      let v := if opcode = 0x0601 then landAll 64 (p.target % 4096) v else v
      ({ v with sys := { v.sys with mode := h.sys.mode, role := h.sys.role } }, status)

/-- Apply records in order until one is refused: its running index and status. -/
def applyRecords : Nat → List (Nat × Packet) → Head → Head × Option (Nat × Nat)
  | _, [], h => (h, none)
  | i, (opcode, p) :: rest, h =>
    let (h, status) := h.applyRecord opcode p
    if status = Status.ok then applyRecords (i + 1) rest h else (h, some (i, status))

/-- The command records of a file. -/
def commandsOf (allowed : List Nat) (file : List Byte) : List (Nat × Packet) :=
  let bs := joined 0x0080 ((readSections allowed (imageBody file)).getD [])
  (readAll readCommand bs.length bs).getD []

/-- The section types of an image and of a record (Table 17-5). -/
def imageTypes : List Nat := [0x0001, 0x0002, 0x0010, 0x0011, 0x0012, 0x0013, 0x0020, 0x0080]
def recordTypes : List Nat := [0x0080, 0x0100, 0x0101]

/-! ### The chain (R425, Table 02-4) -/

/-- The chain stops with a BOOT_CODE (R44). DEDUCED (log 78). -/
def Head.failBoot (h : Head) (code : Nat) : Head := { h with sys := { h.sys with bootCode := code, bootFailed := true } }

/-- The next step runs. -/
def Head.bootTo (h : Head) (step : BootStep) : Head := { h with sys := { h.sys with bootStep := step } }

/-- The recovery image as committed, by offset (R74). -/
def Head.recoveryBytes (h : Head) : List Byte :=
  h.pcie.recImage.foldl (init := []) fun acc c =>
    padTo c.1 (acc.take c.1) ++ c.2 ++ acc.drop (c.1 + c.2.length)

/-- The files of a recovery image: stage-1, configuration image and record, concatenated (Table 17-4). -/
def splitRecovery (bs : List Byte) : List (List Byte) :=
  let n (b : List Byte) := imageFrame + field b 12 4
  let image := bs.drop (n bs)
  [bs.take (n bs), image.take (n image), image.drop (n image)]

/-- The files that this boot reads: stage-1, configuration image, record copies. -/
def Head.bootFiles (h : Head) : List (List Byte) :=
  if h.sys.bootsel < 2 then h.imageSet h.sys.bootsel else splitRecovery h.recoveryBytes

/-- A recovery boot waits for its image: on PCIe until the host ends it; on Ethernet the spec gives no transfer, and it waits
on (log 20). -/
def Head.recoveryWaits (h : Head) : Bool :=
  h.sys.bootStep = .stage1 && (h.sys.bootsel = 3 || (h.sys.bootsel = 2 && !h.pcie.recDone))

/-- The PLLs lock; the boot source is opened. DEDUCED (log 72). -/
def Head.bootPlls (h : Head) : Head :=
  let on (p : Pll) : Pll := { p with lock := true, safe := false, lost := false }
  let h : Head := { h with power := { h.power with pllC := on h.power.pllC, pllM := on h.power.pllM, pllD := on h.power.pllD } }
  let h := h.bootTo .stage1
  if h.sys.bootsel < 2 then h
  else { h with
    sys := { h.sys with bootCode := 0x11 }
    pcie := { h.pcie with recReady := h.sys.bootsel = 2 } }

/-- Stage-1 is verified; a BLANK part stops there (Table 17-1). -/
def Head.bootStage1 (h : Head) : Head :=
  let file := h.bootFiles.getD 0 []
  let h : Head := { h with sys := { h.sys with bootCode := 0 } }
  if imageKind file ≠ 1 || !h.intact file then h.failBoot 0x02
  else if !h.imageAdmissible file then h.failBoot 0x03
  else
    let (version, h) := h.drawNat
    let h : Head := { h with sec := { h.sec with stage1 := file }, pcie := { h.pcie with fwVersion := version % 2 ^ 32 } }
    if h.sec.lifecycleNow = 0 then h.failBoot 0x12 else h.bootTo .ddr

/-- The configuration image is verified, and its schedules and modules are checked. DEDUCED (log 78). -/
def Head.bootImage (h : Head) : Head :=
  let file := h.bootFiles.getD 1 []
  if imageKind file ≠ 2 || !h.intact file then h.failBoot 0x06
  else if !h.imageAdmissible file then h.failBoot 0x07
  else match readSections imageTypes (imageBody file) with
    | none => h.failBoot 0x06
    | some sections => match h.readImage sections with
      | none => h.failBoot 0x06
      | some h' => match readSchedules sections with
        | none => h.failBoot 0x08
        | some (base, rescue) =>
          let files := (sectionsOf 0x0020 sections).map fun bs => readAll readModuleFile bs.length bs
          if files.any fun f => f.isNone then h.failBoot 0x09
          else
            let (h', ok) := Head.loadModules ((files.filterMap id).flatten) (h'.setSchedules base rescue)
            if ok then Head.bootTo { h' with sec := { h'.sec with image := file } } .record
            else Head.failBoot { h with drawn := h'.drawn } 0x09

/-- A record is selected and read (R426). DEDUCED (log 78). -/
def Head.bootRecord (h : Head) : Head := match h.selectRecord h.sec.image (h.bootFiles.drop 2) with
  | .none code => h.failBoot code
  | .selected copy file => match (readSections recordTypes (imageBody file)).bind h.readRecord with
    | none => h.failBoot 0x0A
    | some h => Head.bootTo { h with sec := { h.sec with record := file, recordCopy := copy } } .commands

/-- The command records of the image and then of the record are applied; the lanes begin to train (R424, Table 02-4).
DEDUCED (log 78). -/
def Head.bootCommands (h : Head) : Head :=
  match applyRecords 0 (commandsOf imageTypes h.sec.image ++ commandsOf recordTypes h.sec.record) h with
  | (h, some failed) => Head.failBoot { h with sec := { h.sec with failed := some failed } } 0x0D
  | (h, none) =>
    let named (b : Nat) : Bool := h.net.base.any fun s => (s.branch? b).isSome
    Head.bootTo (h.trainLanes fun i => i ≥ 32 || named i) .lanes

/-- The branch lanes have trained: the saddle window opens. -/
def Head.bootLanes (h : Head) : Head :=
  Head.bootTo { h with net := { h.net with
    lanes := h.net.lanes.mapIdx fun i (l : Lane) => if i < 32 && l.link = 1 then { l with link := 2 } else l } } .saddle

/-- The step that runs completes. -/
def Head.bootStepDone (h : Head) : Head := match h.sys.bootStep with
  | .plls => h.bootPlls
  | .stage1 => if h.recoveryWaits then h else h.bootStage1
  | .ddr => h.bootTo .image
  | .image => h.bootImage
  | .record => h.bootRecord
  | .commands => h.bootCommands
  | .lanes => h.bootLanes
  | .saddle => h
  | .built => h

/-- The step that runs fails: the flash does not answer, the memory or the lanes do not train (Table 17-8). -/
def Head.bootStepFailed (h : Head) : Head := match h.sys.bootStep with
  | .plls => h.failBoot 0x04
  | .stage1 => if h.sys.bootsel < 2 then h.failBoot 0x14 else h
  | .ddr => h.failBoot 0x05
  | .image => if h.sys.bootsel < 2 then h.failBoot 0x14 else h
  | .record => if h.sys.bootsel < 2 then h.failBoot 0x14 else h
  | .commands => h
  | .lanes => h.failBoot 0x0E
  | .saddle => h
  | .built => h

/-- A boot step may end. -/
def Head.booting (h : Head) : Bool := h.sys.mode = .boot && !h.sys.bootFailed

/-- BOOT_STEP_DONE (R425). -/
def execBootStepDone (ok : Bool) (s : State) : Host.Outcome State Fault Refusal :=
  eventExec true (fun h => if !h.booting then h else if ok then h.bootStepDone else h.bootStepFailed) s

/-- BOOT_STEP_TIMEOUT: no retry (R44).  A recovery boot has no limit while it waits, and the saddle window is no step that
can fail so. -/
def execBootStepTimeout (s : State) : Host.Outcome State Fault Refusal :=
  eventExec true (fun h =>
    if !h.booting || h.recoveryWaits || h.sys.bootStep = .saddle || h.sys.bootStep = .built then h else h.failBoot 0x04) s

/-! ### The role (R45, R46, R393) -/

/-- A head that takes no role: its branch lanes go to electrical idle (R46). -/
def Head.noRole (h : Head) (code : Nat) : Head :=
  Head.failBoot { h with net := { h.net with
    lanes := h.net.lanes.mapIdx fun i (l : Lane) => if i < 32 then { l with link := 3 } else l } } code

/-- Entry to COMMISSION with the role fixed: ACTIVE and SOLO raise the epoch (R376); a new set of axes is to be placed
(R267).  Branch lanes that were idle for want of a role come up. -/
def Head.takeRole (h : Head) (r : Role) : Head :=
  let named (b : Nat) : Bool := h.net.base.any fun s => (s.branch? b).isSome
  let h : Head := { h with
    sys := { h.sys with bootFailed := false, bootCode := 0, bootStep := .built }
    compute := { h.compute with changed := true }
    net := { h.net with
      lanes := h.net.lanes.mapIdx fun i (l : Lane) => if i < 32 && named i then { l with link := 2 } else l } }
  let h := match r with
    | .standby => h.takeStandby (if h.peer.state.isSome then h.peer.claim / 16 else h.backup.lastEpoch)
    | _ => (h.setRole r).setEpoch (h.backup.lastEpoch + 1)
  h.reachMode .commission 0 0x0B none

/-- The end of the saddle window, with the HEAD_SEL of the peer head when the link is trained (R45, R393). -/
def Head.fixRole (h : Head) (peerHome : Bool) : Head :=
  if h.peer.saddleUp then
    if h.peerCommands then h.takeRole .standby
    else if peerHome = h.sys.home then h.noRole 0x0F
    else h.takeRole (if h.sys.home then .active else .standby)
  else if h.sys.strangers then h.noRole 0x0F
  else if h.sys.soloAllowed then h.takeRole .solo
  else h.noRole 0x10

/-- SADDLE_WINDOW_END: at the window's end, and later when the peer head trains the link after PEER_MISSING (R46).
DEDUCED (log 79). -/
def execSaddleWindowEnd (peerHome : Bool) (s : State) : Host.Outcome State Fault Refusal :=
  eventExec true (fun h =>
    let late : Bool := h.sys.bootFailed && h.sys.bootCode = 0x10 && h.peer.saddleUp
    if h.sys.mode = .boot && h.sys.bootStep = .saddle && (!h.sys.bootFailed || late) then h.fixRole peerHome else h) s

end Sys2Proof.Machine
end

