-- ==== Sys2Proof/Machine/Cycle.lean ====
section
/-! DEFINITION. CYCLE_START: the cycle time trigger closes a cycle and opens the next (R21, R22, R176). -/
namespace Sys2Proof.Machine

/-! ### What a cycle ends with -/

/-- A cycle in which a segment's mover took no turn passes with the coverage that stands (R6, R114). -/
def Head.countUncovered (h : Head) : Head :=
  h.setAxes (fun s => s.linear && s.coverage = 0
      && ((s.mover.bind h.mover?).any fun m => !m.cut)) fun s => { s with zeroRun := satInc 2 s.zeroRun }

/-- A rotary observer updates in each cycle of its range: one that saw neither a frame nor its graph predicts (R257). -/
def Head.predictRotary (h : Head) : Head :=
  if !h.commands || !h.net.running || h.supervised then h
  else (h.axes.filter fun a => a.rotary && a.graph = .waiting && h.inTurn a).foldl
    (fun (h : Head) a => h.observeRotary a.id none) h

/-- Lone claims are refused (R138), the calendar evaluates if it has not (R190), the probes sample (R341), every graph that
has not completed is abandoned (R229), and the load is measured (R283). -/
def Head.closeCycle (h : Head) : Head :=
  let h := if h.commands then h.refuseLone else h
  let h := if h.cal.evaluated then h else h.evaluateCalendar
  let h := h.predictRotary.countUncovered.sampleProbes
  let h := (h.axes.map fun a => a.id).foldl (fun (h : Head) id => h.abandonGraphOf id) h
  h.measureLoad

/-! ### Time -/

/-- The instant at which the next cycle opens: the first one at the tick that runs, any other one cycle length on (R176).
DEDUCED (log 80). -/
def Head.nextOpening (h : Head) : Nat :=
  if h.time.cycle = 0 && h.time.cycleStart = 0 then h.now
  else h.time.cycleStart + h.net.closing.getD h.cycleNs

/-- The cycle number and T_k move on; the head time has reached the tick of T_k (R186, log 17). -/
def Head.nextCycle (h : Head) : Head :=
  let t := h.nextOpening
  { h with
    net := { h.net with closing := none }
    time := { h.time with
      cycle := (h.time.cycle + 1) % 2 ^ 48, cycleStart := t, head := max h.time.head (h.tickAt (t * 65536)) } }

/-- CYCLE triggers take the instant of the cycle that opens: one that is still pending at the same tick merges with it, and one
of an earlier tick fires first (R187). DEDUCED (log 80). -/
def Head.openTriggers (h : Head) : Head :=
  (List.range 8).foldl (init := h) fun (h : Head) k => match h.cycleInstant (h.trigger k) with
    | none => h
    | some t =>
      let same : Bool := (h.trigger k).next.any fun n => h.tickAt n = h.tickAt t
      let h := if same then h else h.fireTrigger k
      h.setTrigger k fun g => { g with next := some t, merged := if same then satInc (2 ^ 32 - 1) g.merged else g.merged }

/-! ### Axes and movers -/

/-- An axis at the opening of a cycle: the copy of R276 is taken, and the cycle's inputs and results are empty. -/
def Axis.openCycle (a : Axis) : Axis :=
  { a with
    kept := { loop := a.loop, motion := a.motion, obs := a.obs }
    graph := .waiting, uplink := none, packed := none, work := none, done := none, held := false, landed := false }

/-- A mover at the opening of a cycle: no reading and no cut-off yet (R201).  Its force command stays until its graph is due
again, so that its segments of the other phase groups read it in their own cycles (R28, R200). DEDUCED (log 96). -/
def Mover.openCycle (keep : Bool) (m : Mover) : Mover :=
  { m with inbox := [], cut := false, force := if keep then m.force else none }

def Head.openAxes (h : Head) : Head :=
  { h with
    axes := h.axes.map Axis.openCycle
    movers := h.movers.map fun m => m.openCycle ((h.axis? m.axis).any fun a => h.due a && !h.inTurn a)
    cal := { h.cal with evaluated := false } }

/-- One coefficient word of every axis whose range has its cycle, and of every axis under a supervision schedule (R227).
DEDUCED (log 81). -/
def Head.landWords (h : Head) : Head :=
  (h.axes.filter fun a => !a.pending.isEmpty && (h.supervised || h.inTurn a)).foldl (fun (h : Head) a => h.landWord a.id) h

/-- Ranges that RANGE_START asked for become RUNNING at their own next boundary (R28, R97). -/
def Head.startRanges (h : Head) : Head :=
  (List.range 8).foldl (init := h) fun (h : Head) r =>
    if (h.range r).starting && h.time.cycle % max (h.divisorOf r) 1 = 0 then h.runRange r else h

/-- The range trigger of a local stepper axis (R320).  Where no graph computes the axis — its range is STOPPED, or the head is a
standby with channels of its own (R237, R340) — its command is formed at once. DESIGN CHOICE (log 107). -/
def Head.stepCycle (h : Head) (a : Axis) : Head :=
  let h := if h.stepHeldLow a then h else h.stepInterval a
  if h.commands && h.due a then h
  else match h.axis? a.id with
    | some a => h.stepCommandOf a
    | none => h

/-- The local stepper channels take their new targets, and homing sequences move on (R22, R320, R335). -/
def Head.openSteppers (h : Head) : Head :=
  let h := (h.axes.filter fun a => a.localStep && h.inTurn a).foldl (init := h) fun (h : Head) a => match h.axis? a.id with
    | some a => h.stepCycle a
    | none => h
  (h.axes.filter fun a => a.step.homing.isSome).foldl (fun (h : Head) a => h.homingProgress h.now a.id) h

/-! ### The network -/

/-- A switch announced for this cycle takes effect (R128). DEDUCED (log 80). -/
def Head.switchNow (h : Head) : Head := match h.net.switch with
  | some w => if w.cycle ≤ h.time.cycle then h.applySwitch w else h
  | none => h

/-- The memory's set point follows the schedule: the slow one under RESCUE and from Col on (R447). DEDUCED (log 80). -/
def Head.followFsp (h : Head) : Head :=
  let slow : Bool := h.net.kind ≠ .base || (h.sys.mode = .idle && h.sys.depth ≥ 2)
  if h.pllOff 2 then h else { h with power := h.power.askFsp slow }

/-- The placement follows the modes: out of Moraine every axis comes back (R277), and at their boundaries the phase groups are
even (R28). -/
def Head.followPlaces (h : Head) : Head :=
  let h := if h.compute.parked && !(h.sys.mode = .idle && h.sys.depth = 4) then h.unpark else h
  h.evenPhases

/-- What follows the modes in each cycle: the depth's precondition, blocked rescues, the base schedule (R49, R59). -/
def Head.testModes (h : Head) : Head := h.testDepth.retryBlocked.restAfterRescue.restoreBase

/-- The opening of a cycle, in the order in which its parts rest on one another. DEDUCED (log 80). -/
def Head.openCycle (h : Head) : Head :=
  let h := h.nextCycle.endPulses.switchNow
  let h := h.openAxes.followPlaces.openNetwork.startRanges
  let h := h.dueSettings.openPeer.followSource
  let h := h.retryDescriptors.landWords.carryOut
  let h := h.sendBeacons
  let h := ((List.range 8).foldl Head.latchChannel h).openTriggers
  h.openSteppers.testModes.followFsp

/-- CYCLE_START: in every mode from COMMISSION on (R176). -/
def execCycleStart (s : State) : Host.Outcome State Fault Refusal :=
  eventExec true (fun h => if h.fromCommission then h.closeCycle.openCycle else h) s

end Sys2Proof.Machine
end

