-- ==== Sys2Proof/Machine/Dispatch.lean ====
section
/-! DEFINITION. What every command does to the state but its queue: one arm per row of the table. -/
namespace Sys2Proof.Machine

/-- The effect of a command (the queue of waiting commands is the step's). -/
def exec (i : Instr) (s : State) : Host.Outcome State Fault Refusal :=
  match i with
  | .sqTailWrite queue index slots => Sys2Proof.Machine.execSqTailWrite queue index slots s
  | .cqHeadWrite queue index => Sys2Proof.Machine.execCqHeadWrite queue index s
  | .sqFlushWrite queue value => Sys2Proof.Machine.execSqFlushWrite queue value s
  | .queueEnable queue => Sys2Proof.Machine.execQueueEnable queue s
  | .queueDisable queue => Sys2Proof.Machine.execQueueDisable queue s
  | .eqEnable => Sys2Proof.Machine.execEqEnable s
  | .eqDisable => Sys2Proof.Machine.execEqDisable s
  | .eqHeadWrite index => Sys2Proof.Machine.execEqHeadWrite index s
  | .sqSkippedRead queue => Sys2Proof.Machine.execSqSkippedRead queue s
  | .eqDroppedRead => Sys2Proof.Machine.execEqDroppedRead s
  | .headTimeLoRead wide => Sys2Proof.Machine.execHeadTimeLoRead wide s
  | .cycleLoRead wide => Sys2Proof.Machine.execCycleLoRead wide s
  | .recCommit length window => Sys2Proof.Machine.execRecCommit length window s
  | .recEnd => Sys2Proof.Machine.execRecEnd s
  | .registerWrite offset wide value => Sys2Proof.Machine.execRegisterWrite offset wide value s
  | .pciePowerState d3hot pme => Sys2Proof.Machine.execPciePowerState d3hot pme s
  | .perstAssert => Sys2Proof.Machine.execPerstAssert s
  | .pcieLinkDown => Sys2Proof.Machine.execPcieLinkDown s
  | .itemStart => Sys2Proof.Machine.execItemStart s
  | .completionWrite queue => Sys2Proof.Machine.execCompletionWrite queue s
  | .asyncDone queue => Sys2Proof.Machine.execAsyncDone queue s
  | .fenceTimeout => Sys2Proof.Machine.execFenceTimeout s
  | .groupEffect queue => Sys2Proof.Machine.execGroupEffect queue s
  | .groupAbandoned queue => Sys2Proof.Machine.execGroupAbandoned queue s
  | .ethDatagramRx port srcAddr srcPort dstPort payload => Sys2Proof.Machine.execEthDatagramRx port srcAddr srcPort dstPort payload s
  | .ethFrameRx port frame => Sys2Proof.Machine.execEthFrameRx port frame s
  | .reassemblyTimeout port index => Sys2Proof.Machine.execReassemblyTimeout port index s
  | .eventDatagramSend count => Sys2Proof.Machine.execEventDatagramSend count s
  | .getSystemStatus p => Sys2Proof.Machine.execGetSystemStatus p s
  | .setMode p => Sys2Proof.Machine.execSetMode p s
  | .enterIdle p => Sys2Proof.Machine.execEnterIdle p s
  | .setTolerance p => Sys2Proof.Machine.execSetTolerance p s
  | .wake p => Sys2Proof.Machine.execWake p s
  | .setRescuePolicy p => Sys2Proof.Machine.execSetRescuePolicy p s
  | .systemReset p => Sys2Proof.Machine.execSystemReset p s
  | .vinStart vin => Sys2Proof.Machine.execVinStart vin s
  | .railSequenceFail => Sys2Proof.Machine.execRailSequenceFail s
  | .railRetry => Sys2Proof.Machine.execRailRetry s
  | .porNRise bootsel headSel testN => Sys2Proof.Machine.execPorNRise bootsel headSel testN s
  | .headTimeLoad => Sys2Proof.Machine.execHeadTimeLoad s
  | .bootStepDone ok => Sys2Proof.Machine.execBootStepDone ok s
  | .bootStepTimeout => Sys2Proof.Machine.execBootStepTimeout s
  | .saddleWindowEnd peerHome => Sys2Proof.Machine.execSaddleWindowEnd peerHome s
  | .soloToActive => Sys2Proof.Machine.execSoloToActive s
  | .networkBuildEnd => Sys2Proof.Machine.execNetworkBuildEnd s
  | .autoService => Sys2Proof.Machine.execAutoService s
  | .resetNFall => Sys2Proof.Machine.execResetNFall s
  | .modeTransitionDone => Sys2Proof.Machine.execModeTransitionDone s
  | .wakeSource source => Sys2Proof.Machine.execWakeSource source s
  | .rescueTriggerFieldInput => Sys2Proof.Machine.execRescueTriggerFieldInput s
  | .rescueTriggerVin vin => Sys2Proof.Machine.execRescueTriggerVin vin s
  | .rescueTilesGated => Sys2Proof.Machine.execRescueTilesGated s
  | .rescueDone => Sys2Proof.Machine.execRescueDone s
  | .cycleStart => Sys2Proof.Machine.execCycleStart s
  | .backupBeaconSlot => Sys2Proof.Machine.execBackupBeaconSlot s
  | .forwardedBeaconRx arrival bytes => Sys2Proof.Machine.execForwardedBeaconRx arrival bytes s
  | .uplinkFrameRx branch start bytes truncated => Sys2Proof.Machine.execUplinkFrameRx branch start bytes truncated s
  | .forwardedUplinkRx bytes => Sys2Proof.Machine.execForwardedUplinkRx bytes s
  | .settlingDone observer => Sys2Proof.Machine.execSettlingDone observer s
  | .positionLost observer => Sys2Proof.Machine.execPositionLost observer s
  | .sensorSuspect source => Sys2Proof.Machine.execSensorSuspect source s
  | .sensorReadmitted source => Sys2Proof.Machine.execSensorReadmitted source s
  | .moverCutoff mover => Sys2Proof.Machine.execMoverCutoff mover s
  | .axisGraphComplete axis => Sys2Proof.Machine.execAxisGraphComplete axis s
  | .moverForceTimeout mover => Sys2Proof.Machine.execMoverForceTimeout mover s
  | .recordReadyDeadline node => Sys2Proof.Machine.execRecordReadyDeadline node s
  | .holdFault axis => Sys2Proof.Machine.execHoldFault axis s
  | .rangeOverrun range => Sys2Proof.Machine.execRangeOverrun range s
  | .downlinkSlot node => Sys2Proof.Machine.execDownlinkSlot node s
  | .forwardedDownlinkRx bytes => Sys2Proof.Machine.execForwardedDownlinkRx bytes s
  | .graphAbandoned axis => Sys2Proof.Machine.execGraphAbandoned axis s
  | .dynRequestSend branch mini => Sys2Proof.Machine.execDynRequestSend branch mini s
  | .dynReplyRx branch channel start bytes truncated => Sys2Proof.Machine.execDynReplyRx branch channel start bytes truncated s
  | .contourLate entry => Sys2Proof.Machine.execContourLate entry s
  | .joinClaimRx branch channel start bytes truncated => Sys2Proof.Machine.execJoinClaimRx branch channel start bytes truncated s
  | .joinGrantEffective node => Sys2Proof.Machine.execJoinGrantEffective node s
  | .nodeSilent node => Sys2Proof.Machine.execNodeSilent node s
  | .nodeLost node => Sys2Proof.Machine.execNodeLost node s
  | .revokeComplete node => Sys2Proof.Machine.execRevokeComplete node s
  | .scheduleSwitch => Sys2Proof.Machine.execScheduleSwitch s
  | .laneCalibrationStart branch channel => Sys2Proof.Machine.execLaneCalibrationStart branch channel s
  | .laneCalibrationDone branch channel => Sys2Proof.Machine.execLaneCalibrationDone branch channel s
  | .laneDown lane => Sys2Proof.Machine.execLaneDown lane s
  | .laneUp lane inverted => Sys2Proof.Machine.execLaneUp lane inverted s
  | .saddleUp => Sys2Proof.Machine.execSaddleUp s
  | .migrationPrepare axis tile core => Sys2Proof.Machine.execMigrationPrepare axis tile core s
  | .migrationCommit axis => Sys2Proof.Machine.execMigrationCommit axis s
  | .migrationAborted axis => Sys2Proof.Machine.execMigrationAborted axis s
  | .fullPlacement => Sys2Proof.Machine.execFullPlacement s
  | .windowLoad tile table coordinate => Sys2Proof.Machine.execWindowLoad tile table coordinate s
  | .tableLoadDone tile slot => Sys2Proof.Machine.execTableLoadDone tile slot s
  | .bufferSwitch tile slot => Sys2Proof.Machine.execBufferSwitch tile slot s
  | .tileRemoved tile => Sys2Proof.Machine.execTileRemoved tile s
  | .axisRestore => Sys2Proof.Machine.execAxisRestore s
  | .operationDispatch list => Sys2Proof.Machine.execOperationDispatch list s
  | .preemption list => Sys2Proof.Machine.execPreemption list s
  | .shedLevelRise => Sys2Proof.Machine.execShedLevelRise s
  | .shedLevelFall => Sys2Proof.Machine.execShedLevelFall s
  | .firstFaultDecision => Sys2Proof.Machine.execFirstFaultDecision s
  | .deferredBindingChange axis => Sys2Proof.Machine.execDeferredBindingChange axis s
  | .deferredRelease axis => Sys2Proof.Machine.execDeferredRelease axis s
  | .bindingInForce axis => Sys2Proof.Machine.execBindingInForce axis s
  | .bindTimeout axis => Sys2Proof.Machine.execBindTimeout axis s
  | .followingError axis => Sys2Proof.Machine.execFollowingError axis s
  | .noCoverage mover => Sys2Proof.Machine.execNoCoverage mover s
  | .brakeStuck axis => Sys2Proof.Machine.execBrakeStuck axis s
  | .holdDwellExpired axis => Sys2Proof.Machine.execHoldDwellExpired axis s
  | .moveDone axis => Sys2Proof.Machine.execMoveDone axis s
  | .stopDone axis => Sys2Proof.Machine.execStopDone axis s
  | .stopOvertime axis => Sys2Proof.Machine.execStopOvertime axis s
  | .segmentDeenergise axis => Sys2Proof.Machine.execSegmentDeenergise axis s
  | .faultDetected source code => Sys2Proof.Machine.execFaultDetected source code s
  | .dieLinkLost => Sys2Proof.Machine.execDieLinkLost s
  | .fieldInputSnapshot levels time => Sys2Proof.Machine.execFieldInputSnapshot levels time s
  | .fieldInputReversed input => Sys2Proof.Machine.execFieldInputReversed input s
  | .fieldInputOpen input => Sys2Proof.Machine.execFieldInputOpen input s
  | .fieldOutputShort output => Sys2Proof.Machine.execFieldOutputShort output s
  | .shortRetry output short => Sys2Proof.Machine.execShortRetry output short s
  | .fieldOutputOpenLoad output present => Sys2Proof.Machine.execFieldOutputOpenLoad output present s
  | .safeInput levelA levelB => Sys2Proof.Machine.execSafeInput levelA levelB s
  | .safeDiscrepancy => Sys2Proof.Machine.execSafeDiscrepancy s
  | .belayReadback balls => Sys2Proof.Machine.execBelayReadback balls s
  | .kickSend => Sys2Proof.Machine.execKickSend s
  | .kickLapsed => Sys2Proof.Machine.execKickLapsed s
  | .aliveToggle => Sys2Proof.Machine.execAliveToggle s
  | .vinStop vin => Sys2Proof.Machine.execVinStop vin s
  | .vinOvervoltage vin => Sys2Proof.Machine.execVinOvervoltage vin s
  | .vinOvervoltageEnd vin => Sys2Proof.Machine.execVinOvervoltageEnd vin s
  | .vinLow vin => Sys2Proof.Machine.execVinLow vin s
  | .railFault rail => Sys2Proof.Machine.execRailFault rail s
  | .railLost => Sys2Proof.Machine.execRailLost s
  | .referenceLost => Sys2Proof.Machine.execReferenceLost s
  | .pllLockLost pll trip => Sys2Proof.Machine.execPllLockLost pll trip s
  | .pllLocked pll => Sys2Proof.Machine.execPllLocked pll s
  | .pllRelockTimeout pll => Sys2Proof.Machine.execPllRelockTimeout pll s
  | .ddrFspChangeDone => Sys2Proof.Machine.execDdrFspChangeDone s
  | .droopCrossing domain level => Sys2Proof.Machine.execDroopCrossing domain level s
  | .droopRestore domain => Sys2Proof.Machine.execDroopRestore domain s
  | .thermalLimit pfd => Sys2Proof.Machine.execThermalLimit pfd s
  | .thermalShutdown pfd => Sys2Proof.Machine.execThermalShutdown pfd s
  | .thermalClear pfd shutdown => Sys2Proof.Machine.execThermalClear pfd shutdown s
  | .brownOutDetect => Sys2Proof.Machine.execBrownOutDetect s
  | .rtcTick => Sys2Proof.Machine.execRtcTick s
  | .ppsOut => Sys2Proof.Machine.execPpsOut s
  | .ppsInEdge time => Sys2Proof.Machine.execPpsInEdge time s
  | .ptpMessageRx port message stamp => Sys2Proof.Machine.execPtpMessageRx port message stamp s
  | .timeStepped => Sys2Proof.Machine.execTimeStepped s
  | .servoHoldover => Sys2Proof.Machine.execServoHoldover s
  | .ptpTxStamp port identifier stamp => Sys2Proof.Machine.execPtpTxStamp port identifier stamp s
  | .saddleDelayMeasure roundTrip => Sys2Proof.Machine.execSaddleDelayMeasure roundTrip s
  | .generalTriggerFire trigger => Sys2Proof.Machine.execGeneralTriggerFire trigger s
  | .adcPassDone adc samples => Sys2Proof.Machine.execAdcPassDone adc samples s
  | .openWire input => Sys2Proof.Machine.execOpenWire input s
  | .adcCalibrationDone adc offset gain => Sys2Proof.Machine.execAdcCalibrationDone adc offset gain s
  | .skewCalibrationDone pair ok skew => Sys2Proof.Machine.execSkewCalibrationDone pair ok skew s
  | .adcCalDue adc temperature => Sys2Proof.Machine.execAdcCalDue adc temperature s
  | .consumerPoll stream consumer => Sys2Proof.Machine.execConsumerPoll stream consumer s
  | .gapPacket stream => Sys2Proof.Machine.execGapPacket stream s
  | .triggerHoldoffEnd unit => Sys2Proof.Machine.execTriggerHoldoffEnd unit s
  | .measurementDone unit => Sys2Proof.Machine.execMeasurementDone unit s
  | .segmentDone unit => Sys2Proof.Machine.execSegmentDone unit s
  | .quadratureEdge channel positive => Sys2Proof.Machine.execQuadratureEdge channel positive s
  | .quadError channel => Sys2Proof.Machine.execQuadError channel s
  | .indexEdge channel time gated => Sys2Proof.Machine.execIndexEdge channel time gated s
  | .direction channel => Sys2Proof.Machine.execDirection channel s
  | .hallTransition channel code => Sys2Proof.Machine.execHallTransition channel code s
  | .ssiFrameDone channel ready frame extra => Sys2Proof.Machine.execSsiFrameDone channel ready frame extra s
  | .resynced channel => Sys2Proof.Machine.execResynced channel s
  | .bridgeFault channel low => Sys2Proof.Machine.execBridgeFault channel low s
  | .stall axis => Sys2Proof.Machine.execStall axis s
  | .stepperDone axis => Sys2Proof.Machine.execStepperDone axis s
  | .stepperStopDone axis => Sys2Proof.Machine.execStepperStopDone axis s
  | .limitTripped axis positive => Sys2Proof.Machine.execLimitTripped axis positive s
  | .homingLatch axis => Sys2Proof.Machine.execHomingLatch axis s
  | .homed axis => Sys2Proof.Machine.execHomed axis s
  | .homingFailed axis => Sys2Proof.Machine.execHomingFailed axis s
  | .chatter input => Sys2Proof.Machine.execChatter input s
  | .heartbeatRx bytes => Sys2Proof.Machine.execHeartbeatRx bytes s
  | .heartbeatMissing => Sys2Proof.Machine.execHeartbeatMissing s
  | .mirrorSectionRx bytes => Sys2Proof.Machine.execMirrorSectionRx bytes s
  | .settingRx bytes => Sys2Proof.Machine.execSettingRx bytes s
  | .handover => Sys2Proof.Machine.execHandover s
  | .deposed => Sys2Proof.Machine.execDeposed s
  | .sessionIdleTimeout session => Sys2Proof.Machine.execSessionIdleTimeout session s
  | .debugSessionExpiry => Sys2Proof.Machine.execDebugSessionExpiry s
  | .moduleLoadTimeout => Sys2Proof.Machine.execModuleLoadTimeout s
  | .pinParkEnd pin => Sys2Proof.Machine.execPinParkEnd pin s
  | .debugHalt kind tile core => Sys2Proof.Machine.execDebugHalt kind tile core s
  | .debugStep kind tile core => Sys2Proof.Machine.execDebugStep kind tile core s
  | .debugResume kind tile core => Sys2Proof.Machine.execDebugResume kind tile core s
  | .jtagIdcode => Sys2Proof.Machine.execJtagIdcode s
  | .jtagBypass => Sys2Proof.Machine.execJtagBypass s
  | .jtagExtest chain => Sys2Proof.Machine.execJtagExtest chain s
  | .jtagSamplePreload balls chain => Sys2Proof.Machine.execJtagSamplePreload balls chain s
  | .jtagIntest chain => Sys2Proof.Machine.execJtagIntest chain s
  | .jtagClamp => Sys2Proof.Machine.execJtagClamp s
  | .getQueueStatus p => Sys2Proof.Machine.execGetQueueStatus p s
  | .fenceQueues p => Sys2Proof.Machine.execFenceQueues p s
  | .fenceCycle p => Sys2Proof.Machine.execFenceCycle p s
  | .fenceTime p => Sys2Proof.Machine.execFenceTime p s
  | .flushQueue p => Sys2Proof.Machine.execFlushQueue p s
  | .setEventRoute p => Sys2Proof.Machine.execSetEventRoute p s
  | .sessionChallenge p => Sys2Proof.Machine.execSessionChallenge p s
  | .sessionOpen p => Sys2Proof.Machine.execSessionOpen p s
  | .sessionClose p => Sys2Proof.Machine.execSessionClose p s
  | .getRange p => Sys2Proof.Machine.execGetRange p s
  | .setRange p => Sys2Proof.Machine.execSetRange p s
  | .rangeStart p => Sys2Proof.Machine.execRangeStart p s
  | .rangeStop p => Sys2Proof.Machine.execRangeStop p s
  | .getAxis p => Sys2Proof.Machine.execGetAxis p s
  | .defineAxis p => Sys2Proof.Machine.execDefineAxis p s
  | .deleteAxis p => Sys2Proof.Machine.execDeleteAxis p s
  | .axisEnable p => Sys2Proof.Machine.execAxisEnable p s
  | .axisDisable p => Sys2Proof.Machine.execAxisDisable p s
  | .getMover p => Sys2Proof.Machine.execGetMover p s
  | .defineMover p => Sys2Proof.Machine.execDefineMover p s
  | .bindSegment p => Sys2Proof.Machine.execBindSegment p s
  | .unbindSegment p => Sys2Proof.Machine.execUnbindSegment p s
  | .setMoverTrack p => Sys2Proof.Machine.execSetMoverTrack p s
  | .setGap p => Sys2Proof.Machine.execSetGap p s
  | .getSchedule p => Sys2Proof.Machine.execGetSchedule p s
  | .getBranch p => Sys2Proof.Machine.execGetBranch p s
  | .getNode p => Sys2Proof.Machine.execGetNode p s
  | .restoreBranch p => Sys2Proof.Machine.execRestoreBranch p s
  | .setJoin p => Sys2Proof.Machine.execSetJoin p s
  | .releaseSlot p => Sys2Proof.Machine.execReleaseSlot p s
  | .getLane p => Sys2Proof.Machine.execGetLane p s
  | .calibrateLane p => Sys2Proof.Machine.execCalibrateLane p s
  | .getTime p => Sys2Proof.Machine.execGetTime p s
  | .setTimeSource p => Sys2Proof.Machine.execSetTimeSource p s
  | .closeStep p => Sys2Proof.Machine.execCloseStep p s
  | .getPtpPort p => Sys2Proof.Machine.execGetPtpPort p s
  | .setPortLatency p => Sys2Proof.Machine.execSetPortLatency p s
  | .setTrigger p => Sys2Proof.Machine.execSetTrigger p s
  | .armContour p => Sys2Proof.Machine.execArmContour p s
  | .disarmContour p => Sys2Proof.Machine.execDisarmContour p s
  | .getContour p => Sys2Proof.Machine.execGetContour p s
  | .getLoop p => Sys2Proof.Machine.execGetLoop p s
  | .setCoeff p => Sys2Proof.Machine.execSetCoeff p s
  | .getCoeff p => Sys2Proof.Machine.execGetCoeff p s
  | .clearLoopFlags p => Sys2Proof.Machine.execClearLoopFlags p s
  | .moveTo p => Sys2Proof.Machine.execMoveTo p s
  | .moveLanding p => Sys2Proof.Machine.execMoveLanding p s
  | .stopMover p => Sys2Proof.Machine.execStopMover p s
  | .setLimits p => Sys2Proof.Machine.execSetLimits p s
  | .setBlend p => Sys2Proof.Machine.execSetBlend p s
  | .getOverrun p => Sys2Proof.Machine.execGetOverrun p s
  | .getChannel p => Sys2Proof.Machine.execGetChannel p s
  | .setChannel p => Sys2Proof.Machine.execSetChannel p s
  | .clearChannelFlags p => Sys2Proof.Machine.execClearChannelFlags p s
  | .setSensor p => Sys2Proof.Machine.execSetSensor p s
  | .setObserver p => Sys2Proof.Machine.execSetObserver p s
  | .getObserver p => Sys2Proof.Machine.execGetObserver p s
  | .getPlacement p => Sys2Proof.Machine.execGetPlacement p s
  | .getTileLoad p => Sys2Proof.Machine.execGetTileLoad p s
  | .setAffinity p => Sys2Proof.Machine.execSetAffinity p s
  | .setDispatch p => Sys2Proof.Machine.execSetDispatch p s
  | .setPlacer p => Sys2Proof.Machine.execSetPlacer p s
  | .getModule p => Sys2Proof.Machine.execGetModule p s
  | .loadModule p => Sys2Proof.Machine.execLoadModule p s
  | .deleteModule p => Sys2Proof.Machine.execDeleteModule p s
  | .attachOperation p => Sys2Proof.Machine.execAttachOperation p s
  | .detachOperation p => Sys2Proof.Machine.execDetachOperation p s
  | .getStepper p => Sys2Proof.Machine.execGetStepper p s
  | .setStepper p => Sys2Proof.Machine.execSetStepper p s
  | .setStepperLimits p => Sys2Proof.Machine.execSetStepperLimits p s
  | .moveStepper p => Sys2Proof.Machine.execMoveStepper p s
  | .moveGroup p => Sys2Proof.Machine.execMoveGroup p s
  | .stopStepper p => Sys2Proof.Machine.execStopStepper p s
  | .homeStepper p => Sys2Proof.Machine.execHomeStepper p s
  | .setMoveDesc p => Sys2Proof.Machine.execSetMoveDesc p s
  | .clearStepperFlags p => Sys2Proof.Machine.execClearStepperFlags p s
  | .getStream p => Sys2Proof.Machine.execGetStream p s
  | .setProbe p => Sys2Proof.Machine.execSetProbe p s
  | .setStream p => Sys2Proof.Machine.execSetStream p s
  | .streamStart p => Sys2Proof.Machine.execStreamStart p s
  | .streamStop p => Sys2Proof.Machine.execStreamStop p s
  | .setTrigUnit p => Sys2Proof.Machine.execSetTrigUnit p s
  | .armUnit p => Sys2Proof.Machine.execArmUnit p s
  | .forceTrigger p => Sys2Proof.Machine.execForceTrigger p s
  | .getTrigUnit p => Sys2Proof.Machine.execGetTrigUnit p s
  | .startCapture p => Sys2Proof.Machine.execStartCapture p s
  | .abortCapture p => Sys2Proof.Machine.execAbortCapture p s
  | .readSegment p => Sys2Proof.Machine.execReadSegment p s
  | .getAdc p => Sys2Proof.Machine.execGetAdc p s
  | .setAdc p => Sys2Proof.Machine.execSetAdc p s
  | .setAdcTrigger p => Sys2Proof.Machine.execSetAdcTrigger p s
  | .setInput p => Sys2Proof.Machine.execSetInput p s
  | .readChannel p => Sys2Proof.Machine.execReadChannel p s
  | .calibrateAdc p => Sys2Proof.Machine.execCalibrateAdc p s
  | .getRedundancy p => Sys2Proof.Machine.execGetRedundancy p s
  | .setReturn p => Sys2Proof.Machine.execSetReturn p s
  | .switchover p => Sys2Proof.Machine.execSwitchover p s
  | .resyncPeer p => Sys2Proof.Machine.execResyncPeer p s
  | .getFaultSummary p => Sys2Proof.Machine.execGetFaultSummary p s
  | .getFaults p => Sys2Proof.Machine.execGetFaults p s
  | .listFaults p => Sys2Proof.Machine.execListFaults p s
  | .clearFault p => Sys2Proof.Machine.execClearFault p s
  | .clearFirstFault p => Sys2Proof.Machine.execClearFirstFault p s
  | .setAlive p => Sys2Proof.Machine.execSetAlive p s
  | .setBelayConfig p => Sys2Proof.Machine.execSetBelayConfig p s
  | .setOutputGroup p => Sys2Proof.Machine.execSetOutputGroup p s
  | .getSecurity p => Sys2Proof.Machine.execGetSecurity p s
  | .provision p => Sys2Proof.Machine.execProvision p s
  | .setLifecycle p => Sys2Proof.Machine.execSetLifecycle p s
  | .revokeKey p => Sys2Proof.Machine.execRevokeKey p s
  | .advanceRollback p => Sys2Proof.Machine.execAdvanceRollback p s
  | .writeImage p => Sys2Proof.Machine.execWriteImage p s
  | .debugChallenge p => Sys2Proof.Machine.execDebugChallenge p s
  | .debugOpen p => Sys2Proof.Machine.execDebugOpen p s
  | .debugClose p => Sys2Proof.Machine.execDebugClose p s
  | .getPower p => Sys2Proof.Machine.execGetPower p s
  | .setPowerConfig p => Sys2Proof.Machine.execSetPowerConfig p s
  | .getRtc p => Sys2Proof.Machine.execGetRtc p s
  | .setRtc p => Sys2Proof.Machine.execSetRtc p s
  | .setRtcAlarm p => Sys2Proof.Machine.execSetRtcAlarm p s
  | .setRtcConfig p => Sys2Proof.Machine.execSetRtcConfig p s
  | .readBackup p => Sys2Proof.Machine.execReadBackup p s
  | .writeBackup p => Sys2Proof.Machine.execWriteBackup p s
  | .getPin p => Sys2Proof.Machine.execGetPin p s
  | .setPin p => Sys2Proof.Machine.execSetPin p s
  | .commitPins p => Sys2Proof.Machine.execCommitPins p s
  | .setGpio p => Sys2Proof.Machine.execSetGpio p s
  | .getFieldIo p => Sys2Proof.Machine.execGetFieldIo p s
  | .setFieldInput p => Sys2Proof.Machine.execSetFieldInput p s
  | .setFieldOutput p => Sys2Proof.Machine.execSetFieldOutput p s
  | .setFoutConfig p => Sys2Proof.Machine.execSetFoutConfig p s
  | .porNFall => Sys2Proof.Machine.execPorNFall s
  | .resetNRise => Sys2Proof.Machine.execResetNRise s
  | .pcieLinkUp => Sys2Proof.Machine.execPcieLinkUp s
  | .fieldInputOpenEnd input => Sys2Proof.Machine.execFieldInputOpenEnd input s
  | .fieldInputReversedEnd input => Sys2Proof.Machine.execFieldInputReversedEnd input s
  | .vinLowEnd vin => Sys2Proof.Machine.execVinLowEnd vin s
  | .calendarComparatorFire entry => Sys2Proof.Machine.execCalendarComparatorFire entry s
  | .imageTransferTimeout => Sys2Proof.Machine.execImageTransferTimeout s

end Sys2Proof.Machine
end

