-- ==== Sys2Proof/Machine/Tick.lean ====
section
/-! DEFINITION. What the block does while no command waits: one tick of its 8 ns time base (R174, log 2). -/
namespace Sys2Proof.Machine

/-- Head time grows by INCR, the pulses whose width has passed end (R174, R465), and the bridges' PWM periods pass (R322).  In
OFF and RESET nothing counts.
DESIGN CHOICE (log 2). DESIGN CHOICE (log 88). -/
def Head.tick (h : Head) : Head :=
  let h := { h with sent := [] }
  if h.fromBoot then
    let now := (h.time.head + h.time.incr) % 2 ^ 96
    (Head.endPulses { h with time := { h.time with head := now } }).pwmPeriods h.now
  else h

end Sys2Proof.Machine
end

