-- ==== Sys2Proof/Machine/Step.lean ====
section
/-! DEFINITION. One step of the block, and a state in which a given command is next. -/
namespace Sys2Proof.Machine

/-- The command at the front acts on everything but the queue; with none waiting the time base ticks (log 2).
DEDUCED (log 5). DESIGN CHOICE (log 88). -/
def step (s : State) : Host.Outcome State Fault Refusal :=
  match s.pending with
  | i :: rest => exec i { s with pending := rest }
  | [] => .next { s with head := s.head.tick }

/-- The state with the command that a word spells in front; unchanged where the word spells none. DEDUCED (log 5). -/
def State.withFetchWord (s : State) (nbits w : Nat) : State :=
  match decodeTableWord nbits w with
  | some i => { s with pending := i :: s.pending }
  | none => s

end Sys2Proof.Machine
end

