-- ==== Sys2Proof/Machine/Balls.lean ====
section
/-! DEFINITION. The balls (R462) and what state each takes (R38, R235, R318, R363, R404, R432, R440, R464). -/
namespace Sys2Proof.Machine

/-- A ball group of Table 19-1: its name and how many balls it has. -/
def ballGroups : List (String × Nat) :=
  [ ("Geunet lanes", 160), ("Geunet references", 4), ("SerDes calibration", 2), ("PCIe", 21), ("Ethernet", 12), ("LPDDR4X", 68)
  , ("xSPI", 12), ("Analogue", 36), ("Feedback", 40), ("Stepper", 56), ("Field inputs", 32), ("Field outputs", 4)
  , ("Safety logic", 6), ("General purpose", 40), ("Reset and configuration", 7), ("JTAG and trace", 14), ("Crystals", 4)
  , ("Regulator control and sense", 34), ("Backup cell", 1), ("Supply and ground", 347) ]

/-- Outputs of a local stepper channel (Table 12-2). -/
inductive StepBall where
  | pa1 | pa2 | pb1 | pb2 | step | dir
  deriving DecidableEq, Repr

/-- The balls whose state Table 19-2 gives. -/
inductive Ball where
  /-- transmit pair of a lane, B00-B31 then S0-S7 -/
  | lane (lane : Nat)
  | pcie
  /-- transmit pair of an Ethernet port; 2 stands for MDC and MDIO -/
  | ethernet (port : Nat)
  | ppsOut
  /-- DDR_RESET_N and DDR_CKE_A/B -/
  | ddrReset
  /-- the other balls of LPDDR4X -/
  | ddr
  | xspiReset
  | xspiCs
  | ain (input : Nat)
  | fb (channel ball : Nat)
  | div (channel : Nat)
  | st (channel : Nat) (ball : StepBall)
  | bflt (channel : Nat)
  | gp (ball : Nat)
  | fin (input : Nat)
  | fout (output : Nat)
  | safeInA
  | safeInB
  | alive
  | faultN
  | belayA
  | belayB
  | tdo
  /-- TRACE_CLK and TRACE_D -/
  | trace
  | enAux
  deriving DecidableEq, Repr

/-- What a ball does: undriven or at high impedance, an input with a weak pull, a level, electrical idle, a cell of the boundary
chain, or the signals of its interface. -/
inductive BallState where
  | undriven
  | highZ
  | pullDown
  | pullUp
  | level (high : Bool)
  | electricalIdle
  | scanned
  | running
  deriving DecidableEq, Repr

/-- A weak pull as SET_PIN codes it. -/
def pullState : Nat → BallState
  | 1 => .pullUp
  | 2 => .pullDown
  | _ => .highZ

/-- The channel mode assigns the balls FBn_0 to FBn_3; those it leaves unused are inputs with their weak pull, as its inputs are
(Table 09-1, R235). -/
def Head.fbState (h : Head) (n ball : Nat) : BallState :=
  if ball = 0 && (h.channel n).cfg.mode = 2 then (if (h.channel n).ssiBusy then .running else .level true) else .pullDown

/-- STEP is high for STEP_WIDTH from its rising edge (R321). -/
def Head.stepHigh (h : Head) (a : Axis) (c : StepChannel) : Bool :=
  c.stepAt.any fun t => t ≤ h.now && h.now < t + 10 * a.step.cfg.stepWidth

/-- The outputs of a local stepper channel by its mode: 1 BRIDGE, 2 STEP_DIR; a ball that the mode does not use is an input with
its weak pull (Table 12-2, R318). -/
def Head.stState (h : Head) (n : Nat) (b : StepBall) : BallState :=
  let c := h.steps.getD n {}
  let pwm (duty : Nat) : BallState := if duty = 0 then .level false else .running
  match h.axes.find? fun a => a.localStep && a.stepChannel = n with
  | none => .pullDown
  | some a =>
    let bridge : Bool := a.step.cfg.mode = 1
    match b with
    | .pa1 => if bridge then pwm c.duty.1 else .pullDown
    | .pa2 => if bridge then pwm c.duty.2.1 else .pullDown
    | .pb1 => if bridge then pwm c.duty.2.2.1 else .pullDown
    | .pb2 => if bridge then pwm c.duty.2.2.2 else .pullDown
    | .step => if bridge then .pullDown else .level (h.stepHigh a c)
    | .dir => if bridge then .pullDown else .level c.dir

/-- A general-purpose ball: parked, at its safe level, driving, or an input (R465-R468). -/
def Pin.state (p : Pin) : BallState := match p.drives with
  | some high => .level high
  | none => pullState p.set.pull

/-- Is the ball one of the LD, which boundary scan may drive (Table 19-1, R432)? -/
def Ball.onLd : Ball → Bool
  | .fin _ => false | .fout _ => false | .safeInA => false | .safeInB => false | .alive => false | .faultN => false
  | .belayA => false | .belayB => false | .enAux => false
  | _ => true

/-- The state of a ball from COMMISSION on (Table 19-2). DEDUCED (log 110). -/
def Head.ballRunning (h : Head) : Ball → BallState
  | .lane n => match (h.lane n).link with
    | 3 => .electricalIdle
    | _ => .running
  | .pcie => .running
  | .ethernet port => if port < 2 && (h.eth.getD port {}).mode = 0 then .highZ else .running
  | .ppsOut => .level h.pins.ppsOut
  | .ddrReset => .running
  | .ddr => .running
  | .xspiReset => .level true
  | .xspiCs => .level true
  | .ain n => match (h.acq.inputs.getD n {}).pull with
    | 0 => .highZ | 1 => .pullUp | 3 => .pullUp | _ => .pullDown
  | .fb n ball => h.fbState n ball
  | .div n => .level (h.channel n).divLevel
  | .st n b => h.stState n b
  | .bflt _ => .pullUp
  | .gp k => (h.pin k).state
  | .fin _ => .highZ
  | .fout n => .level (h.fieldOut n).on
  | .safeInA => .highZ
  | .safeInB => .highZ
  | .alive => .level h.faults.aliveLevel
  | .faultN => if h.faultN then .level false else .highZ
  | .belayA => .level !h.belayA
  | .belayB => .level !h.belayB
  | .tdo => .highZ
  | .trace => if h.sec.debugLevel = 0 then .level false else .running
  | .enAux => .level true

/-- The state of a ball in RESET and BOOT (Table 19-2). DEDUCED (log 110). -/
def Head.ballStarting (h : Head) (b : Ball) : BallState :=
  let boot : Bool := h.sys.mode = .boot
  match b with
  | .lane n => if boot then h.ballRunning (.lane n) else .electricalIdle
  | .pcie => if boot then .running else .electricalIdle
  | .ethernet port => if boot && h.sys.bootsel = 3 then h.ballRunning (.ethernet port) else .highZ
  | .ppsOut => .level false
  | .ddrReset => if boot then .running else .level false
  | .ddr => if boot then .running else .highZ
  | .xspiReset => .level boot
  | .xspiCs => if boot then .running else .level true
  | .ain n => if boot then h.ballRunning (.ain n) else .highZ
  | .fb _ _ => .pullDown
  | .div _ => .level false
  | .st _ .dir => .level false
  | .st _ _ => .pullDown
  | .gp _ => .pullDown
  | .fout _ => .level false
  | .alive => .level false
  | .enAux => .level h.power.railsGood
  | b => h.ballRunning b

/-- The state of a ball (R464): in OFF nothing is driven, the field outputs are off and the belay outputs source no current (R38);
a boundary-scan instruction drives the LD's balls in place of their function (R432). DEDUCED (log 110). -/
def Head.ballState (h : Head) (b : Ball) : BallState :=
  if h.sec.scanDrives && b.onLd && b ≠ .tdo then .scanned
  else if h.sys.mode = .off then (match b with
    | .fout _ => .level false
    | .belayA => .level false
    | .belayB => .level false
    | .ain _ => .highZ
    | _ => .undriven)
  else if h.fromCommission then h.ballRunning b
  else h.ballStarting b

end Sys2Proof.Machine
end

