-- ==== Sys2Proof/Machine/HostRows.lean ====
section
/-! DEFINITION. The host-command rows as `Command`s: what the statements quantify over. -/
namespace Sys2Proof.Machine

/-- The command and the packet of a host-command row (Table 03-7); none for an event row. -/
def hostCommand : Instr → Option (Command × Packet)
  | .sqTailWrite _ _ _ => none
  | .cqHeadWrite _ _ => none
  | .sqFlushWrite _ _ => none
  | .queueEnable _ => none
  | .queueDisable _ => none
  | .eqEnable => none
  | .eqDisable => none
  | .eqHeadWrite _ => none
  | .sqSkippedRead _ => none
  | .eqDroppedRead => none
  | .headTimeLoRead _ => none
  | .cycleLoRead _ => none
  | .recCommit _ _ => none
  | .recEnd => none
  | .registerWrite _ _ _ => none
  | .pciePowerState _ _ => none
  | .perstAssert => none
  | .pcieLinkDown => none
  | .itemStart => none
  | .completionWrite _ => none
  | .asyncDone _ => none
  | .fenceTimeout => none
  | .groupEffect _ => none
  | .groupAbandoned _ => none
  | .ethDatagramRx _ _ _ _ _ => none
  | .ethFrameRx _ _ => none
  | .reassemblyTimeout _ _ => none
  | .eventDatagramSend _ => none
  | .getSystemStatus p => some (getSystemStatusCmd, p)
  | .setMode p => some (setModeCmd, p)
  | .enterIdle p => some (enterIdleCmd, p)
  | .setTolerance p => some (setToleranceCmd, p)
  | .wake p => some (wakeCmd, p)
  | .setRescuePolicy p => some (setRescuePolicyCmd, p)
  | .systemReset p => some (systemResetCmd, p)
  | .vinStart _ => none
  | .railSequenceFail => none
  | .railRetry => none
  | .porNRise _ _ _ => none
  | .headTimeLoad => none
  | .bootStepDone _ => none
  | .bootStepTimeout => none
  | .saddleWindowEnd _ => none
  | .soloToActive => none
  | .networkBuildEnd => none
  | .autoService => none
  | .resetNFall => none
  | .modeTransitionDone => none
  | .wakeSource _ => none
  | .rescueTriggerFieldInput => none
  | .rescueTriggerVin _ => none
  | .rescueTilesGated => none
  | .rescueDone => none
  | .cycleStart => none
  | .backupBeaconSlot => none
  | .forwardedBeaconRx _ _ => none
  | .uplinkFrameRx _ _ _ _ => none
  | .forwardedUplinkRx _ => none
  | .settlingDone _ => none
  | .positionLost _ => none
  | .sensorSuspect _ => none
  | .sensorReadmitted _ => none
  | .moverCutoff _ => none
  | .axisGraphComplete _ => none
  | .moverForceTimeout _ => none
  | .recordReadyDeadline _ => none
  | .holdFault _ => none
  | .rangeOverrun _ => none
  | .downlinkSlot _ => none
  | .forwardedDownlinkRx _ => none
  | .graphAbandoned _ => none
  | .dynRequestSend _ _ => none
  | .dynReplyRx _ _ _ _ _ => none
  | .contourLate _ => none
  | .joinClaimRx _ _ _ _ _ => none
  | .joinGrantEffective _ => none
  | .nodeSilent _ => none
  | .nodeLost _ => none
  | .revokeComplete _ => none
  | .scheduleSwitch => none
  | .laneCalibrationStart _ _ => none
  | .laneCalibrationDone _ _ => none
  | .laneDown _ => none
  | .laneUp _ _ => none
  | .saddleUp => none
  | .migrationPrepare _ _ _ => none
  | .migrationCommit _ => none
  | .migrationAborted _ => none
  | .fullPlacement => none
  | .windowLoad _ _ _ => none
  | .tableLoadDone _ _ => none
  | .bufferSwitch _ _ => none
  | .tileRemoved _ => none
  | .axisRestore => none
  | .operationDispatch _ => none
  | .preemption _ => none
  | .shedLevelRise => none
  | .shedLevelFall => none
  | .firstFaultDecision => none
  | .deferredBindingChange _ => none
  | .deferredRelease _ => none
  | .bindingInForce _ => none
  | .bindTimeout _ => none
  | .followingError _ => none
  | .noCoverage _ => none
  | .brakeStuck _ => none
  | .holdDwellExpired _ => none
  | .moveDone _ => none
  | .stopDone _ => none
  | .stopOvertime _ => none
  | .segmentDeenergise _ => none
  | .faultDetected _ _ => none
  | .dieLinkLost => none
  | .fieldInputSnapshot _ _ => none
  | .fieldInputReversed _ => none
  | .fieldInputOpen _ => none
  | .fieldOutputShort _ => none
  | .shortRetry _ _ => none
  | .fieldOutputOpenLoad _ _ => none
  | .safeInput _ _ => none
  | .safeDiscrepancy => none
  | .belayReadback _ => none
  | .kickSend => none
  | .kickLapsed => none
  | .aliveToggle => none
  | .vinStop _ => none
  | .vinOvervoltage _ => none
  | .vinOvervoltageEnd _ => none
  | .vinLow _ => none
  | .railFault _ => none
  | .railLost => none
  | .referenceLost => none
  | .pllLockLost _ _ => none
  | .pllLocked _ => none
  | .pllRelockTimeout _ => none
  | .ddrFspChangeDone => none
  | .droopCrossing _ _ => none
  | .droopRestore _ => none
  | .thermalLimit _ => none
  | .thermalShutdown _ => none
  | .thermalClear _ _ => none
  | .brownOutDetect => none
  | .rtcTick => none
  | .ppsOut => none
  | .ppsInEdge _ => none
  | .ptpMessageRx _ _ _ => none
  | .timeStepped => none
  | .servoHoldover => none
  | .ptpTxStamp _ _ _ => none
  | .saddleDelayMeasure _ => none
  | .generalTriggerFire _ => none
  | .adcPassDone _ _ => none
  | .openWire _ => none
  | .adcCalibrationDone _ _ _ => none
  | .skewCalibrationDone _ _ _ => none
  | .adcCalDue _ _ => none
  | .consumerPoll _ _ => none
  | .gapPacket _ => none
  | .triggerHoldoffEnd _ => none
  | .measurementDone _ => none
  | .segmentDone _ => none
  | .quadratureEdge _ _ => none
  | .quadError _ => none
  | .indexEdge _ _ _ => none
  | .direction _ => none
  | .hallTransition _ _ => none
  | .ssiFrameDone _ _ _ _ => none
  | .resynced _ => none
  | .bridgeFault _ _ => none
  | .stall _ => none
  | .stepperDone _ => none
  | .stepperStopDone _ => none
  | .limitTripped _ _ => none
  | .homingLatch _ => none
  | .homed _ => none
  | .homingFailed _ => none
  | .chatter _ => none
  | .heartbeatRx _ => none
  | .heartbeatMissing => none
  | .mirrorSectionRx _ => none
  | .settingRx _ => none
  | .handover => none
  | .deposed => none
  | .sessionIdleTimeout _ => none
  | .debugSessionExpiry => none
  | .moduleLoadTimeout => none
  | .pinParkEnd _ => none
  | .debugHalt _ _ _ => none
  | .debugStep _ _ _ => none
  | .debugResume _ _ _ => none
  | .jtagIdcode => none
  | .jtagBypass => none
  | .jtagExtest _ => none
  | .jtagSamplePreload _ _ => none
  | .jtagIntest _ => none
  | .jtagClamp => none
  | .getQueueStatus p => some (getQueueStatusCmd, p)
  | .fenceQueues p => some (fenceQueuesCmd, p)
  | .fenceCycle p => some (fenceCycleCmd, p)
  | .fenceTime p => some (fenceTimeCmd, p)
  | .flushQueue p => some (flushQueueCmd, p)
  | .setEventRoute p => some (setEventRouteCmd, p)
  | .sessionChallenge p => some (sessionChallengeCmd, p)
  | .sessionOpen p => some (sessionOpenCmd, p)
  | .sessionClose p => some (sessionCloseCmd, p)
  | .getRange p => some (getRangeCmd, p)
  | .setRange p => some (setRangeCmd, p)
  | .rangeStart p => some (rangeStartCmd, p)
  | .rangeStop p => some (rangeStopCmd, p)
  | .getAxis p => some (getAxisCmd, p)
  | .defineAxis p => some (defineAxisCmd, p)
  | .deleteAxis p => some (deleteAxisCmd, p)
  | .axisEnable p => some (axisEnableCmd, p)
  | .axisDisable p => some (axisDisableCmd, p)
  | .getMover p => some (getMoverCmd, p)
  | .defineMover p => some (defineMoverCmd, p)
  | .bindSegment p => some (bindSegmentCmd, p)
  | .unbindSegment p => some (unbindSegmentCmd, p)
  | .setMoverTrack p => some (setMoverTrackCmd, p)
  | .setGap p => some (setGapCmd, p)
  | .getSchedule p => some (getScheduleCmd, p)
  | .getBranch p => some (getBranchCmd, p)
  | .getNode p => some (getNodeCmd, p)
  | .restoreBranch p => some (restoreBranchCmd, p)
  | .setJoin p => some (setJoinCmd, p)
  | .releaseSlot p => some (releaseSlotCmd, p)
  | .getLane p => some (getLaneCmd, p)
  | .calibrateLane p => some (calibrateLaneCmd, p)
  | .getTime p => some (getTimeCmd, p)
  | .setTimeSource p => some (setTimeSourceCmd, p)
  | .closeStep p => some (closeStepCmd, p)
  | .getPtpPort p => some (getPtpPortCmd, p)
  | .setPortLatency p => some (setPortLatencyCmd, p)
  | .setTrigger p => some (setTriggerCmd, p)
  | .armContour p => some (armContourCmd, p)
  | .disarmContour p => some (disarmContourCmd, p)
  | .getContour p => some (getContourCmd, p)
  | .getLoop p => some (getLoopCmd, p)
  | .setCoeff p => some (setCoeffCmd, p)
  | .getCoeff p => some (getCoeffCmd, p)
  | .clearLoopFlags p => some (clearLoopFlagsCmd, p)
  | .moveTo p => some (moveToCmd, p)
  | .moveLanding p => some (moveLandingCmd, p)
  | .stopMover p => some (stopMoverCmd, p)
  | .setLimits p => some (setLimitsCmd, p)
  | .setBlend p => some (setBlendCmd, p)
  | .getOverrun p => some (getOverrunCmd, p)
  | .getChannel p => some (getChannelCmd, p)
  | .setChannel p => some (setChannelCmd, p)
  | .clearChannelFlags p => some (clearChannelFlagsCmd, p)
  | .setSensor p => some (setSensorCmd, p)
  | .setObserver p => some (setObserverCmd, p)
  | .getObserver p => some (getObserverCmd, p)
  | .getPlacement p => some (getPlacementCmd, p)
  | .getTileLoad p => some (getTileLoadCmd, p)
  | .setAffinity p => some (setAffinityCmd, p)
  | .setDispatch p => some (setDispatchCmd, p)
  | .setPlacer p => some (setPlacerCmd, p)
  | .getModule p => some (getModuleCmd, p)
  | .loadModule p => some (loadModuleCmd, p)
  | .deleteModule p => some (deleteModuleCmd, p)
  | .attachOperation p => some (attachOperationCmd, p)
  | .detachOperation p => some (detachOperationCmd, p)
  | .getStepper p => some (getStepperCmd, p)
  | .setStepper p => some (setStepperCmd, p)
  | .setStepperLimits p => some (setStepperLimitsCmd, p)
  | .moveStepper p => some (moveStepperCmd, p)
  | .moveGroup p => some (moveGroupCmd, p)
  | .stopStepper p => some (stopStepperCmd, p)
  | .homeStepper p => some (homeStepperCmd, p)
  | .setMoveDesc p => some (setMoveDescCmd, p)
  | .clearStepperFlags p => some (clearStepperFlagsCmd, p)
  | .getStream p => some (getStreamCmd, p)
  | .setProbe p => some (setProbeCmd, p)
  | .setStream p => some (setStreamCmd, p)
  | .streamStart p => some (streamStartCmd, p)
  | .streamStop p => some (streamStopCmd, p)
  | .setTrigUnit p => some (setTrigUnitCmd, p)
  | .armUnit p => some (armUnitCmd, p)
  | .forceTrigger p => some (forceTriggerCmd, p)
  | .getTrigUnit p => some (getTrigUnitCmd, p)
  | .startCapture p => some (startCaptureCmd, p)
  | .abortCapture p => some (abortCaptureCmd, p)
  | .readSegment p => some (readSegmentCmd, p)
  | .getAdc p => some (getAdcCmd, p)
  | .setAdc p => some (setAdcCmd, p)
  | .setAdcTrigger p => some (setAdcTriggerCmd, p)
  | .setInput p => some (setInputCmd, p)
  | .readChannel p => some (readChannelCmd, p)
  | .calibrateAdc p => some (calibrateAdcCmd, p)
  | .getRedundancy p => some (getRedundancyCmd, p)
  | .setReturn p => some (setReturnCmd, p)
  | .switchover p => some (switchoverCmd, p)
  | .resyncPeer p => some (resyncPeerCmd, p)
  | .getFaultSummary p => some (getFaultSummaryCmd, p)
  | .getFaults p => some (getFaultsCmd, p)
  | .listFaults p => some (listFaultsCmd, p)
  | .clearFault p => some (clearFaultCmd, p)
  | .clearFirstFault p => some (clearFirstFaultCmd, p)
  | .setAlive p => some (setAliveCmd, p)
  | .setBelayConfig p => some (setBelayConfigCmd, p)
  | .setOutputGroup p => some (setOutputGroupCmd, p)
  | .getSecurity p => some (getSecurityCmd, p)
  | .provision p => some (provisionCmd, p)
  | .setLifecycle p => some (setLifecycleCmd, p)
  | .revokeKey p => some (revokeKeyCmd, p)
  | .advanceRollback p => some (advanceRollbackCmd, p)
  | .writeImage p => some (writeImageCmd, p)
  | .debugChallenge p => some (debugChallengeCmd, p)
  | .debugOpen p => some (debugOpenCmd, p)
  | .debugClose p => some (debugCloseCmd, p)
  | .getPower p => some (getPowerCmd, p)
  | .setPowerConfig p => some (setPowerConfigCmd, p)
  | .getRtc p => some (getRtcCmd, p)
  | .setRtc p => some (setRtcCmd, p)
  | .setRtcAlarm p => some (setRtcAlarmCmd, p)
  | .setRtcConfig p => some (setRtcConfigCmd, p)
  | .readBackup p => some (readBackupCmd, p)
  | .writeBackup p => some (writeBackupCmd, p)
  | .getPin p => some (getPinCmd, p)
  | .setPin p => some (setPinCmd, p)
  | .commitPins p => some (commitPinsCmd, p)
  | .setGpio p => some (setGpioCmd, p)
  | .getFieldIo p => some (getFieldIoCmd, p)
  | .setFieldInput p => some (setFieldInputCmd, p)
  | .setFieldOutput p => some (setFieldOutputCmd, p)
  | .setFoutConfig p => some (setFoutConfigCmd, p)
  | .porNFall => none
  | .resetNRise => none
  | .pcieLinkUp => none
  | .fieldInputOpenEnd _ => none
  | .fieldInputReversedEnd _ => none
  | .vinLowEnd _ => none
  | .calendarComparatorFire _ => none
  | .imageTransferTimeout => none

end Sys2Proof.Machine
end

