-- ==== Sys2Proof/WellFormed.lean ====
section
/-! DEFINITION. What makes a command well formed: the objects it names exist on the part, and its operands fit the fields
that carry them. -/
namespace Sys2Proof

/-- A packet further down a chain: every header field fits its place (Table 03-7). -/
def ChainPart.wf (c : ChainPart) : Bool :=
  c.flags < 2 ^ 8 && c.session < 2 ^ 8 && c.sequence < 2 ^ 32 && c.length < 2 ^ 16 && c.tag < 2 ^ 32 && c.target < 2 ^ 16

/-- A packet as a queue delivers it: one of the eight queues (R71), every header field within its place (Table 03-7). -/
def Packet.wf (p : Packet) : Bool :=
  p.queue < 8 && p.tag < 2 ^ 32 && p.target < 2 ^ 16 && p.flags < 2 ^ 8 && p.session < 2 ^ 8 && p.sequence < 2 ^ 32
    && p.length < 2 ^ 16 && p.rest.all ChainPart.wf

/-- Do the objects that the command names exist on the part (a queue, a branch, a lane, an axis number, …)?.
DESIGN CHOICE (log 82). -/
def Instr.objects (i : Instr) : Bool :=
  match i with
  | .sqTailWrite queue index _ => queue < 8 && index < 4096
  | .cqHeadWrite queue index => queue < 8 && index < 4096
  | .sqFlushWrite queue _ => queue < 8
  | .queueEnable queue => queue < 8
  | .queueDisable queue => queue < 8
  | .eqEnable => true
  | .eqDisable => true
  | .eqHeadWrite index => index < 4096
  | .sqSkippedRead queue => queue < 8
  | .eqDroppedRead => true
  | .headTimeLoRead _ => true
  | .cycleLoRead _ => true
  | .recCommit _ _ => true
  | .recEnd => true
  | .registerWrite offset _ _ => offset < 0x400000
  | .pciePowerState _ _ => true
  | .perstAssert => true
  | .pcieLinkDown => true
  | .itemStart => true
  | .completionWrite queue => queue < 8
  | .asyncDone queue => queue < 8
  | .fenceTimeout => true
  | .groupEffect queue => queue < 8
  | .groupAbandoned queue => queue < 8
  | .ethDatagramRx port _ _ _ _ => port < 2
  | .ethFrameRx port _ => port < 2
  | .reassemblyTimeout port index => port < 2 && index < 4
  | .eventDatagramSend count => 1 ≤ count && count ≤ 32
  | .getSystemStatus p => p.queue < 8
  | .setMode p => p.queue < 8
  | .enterIdle p => p.queue < 8
  | .setTolerance p => p.queue < 8
  | .wake p => p.queue < 8
  | .setRescuePolicy p => p.queue < 8
  | .systemReset p => p.queue < 8
  | .vinStart _ => true
  | .railSequenceFail => true
  | .railRetry => true
  | .porNRise bootsel _ _ => bootsel < 8
  | .headTimeLoad => true
  | .bootStepDone _ => true
  | .bootStepTimeout => true
  | .saddleWindowEnd _ => true
  | .soloToActive => true
  | .networkBuildEnd => true
  | .autoService => true
  | .resetNFall => true
  | .modeTransitionDone => true
  | .wakeSource source => source < 3
  | .rescueTriggerFieldInput => true
  | .rescueTriggerVin _ => true
  | .rescueTilesGated => true
  | .rescueDone => true
  | .cycleStart => true
  | .backupBeaconSlot => true
  | .forwardedBeaconRx _ _ => true
  | .uplinkFrameRx branch _ _ _ => branch < 32
  | .forwardedUplinkRx _ => true
  | .settlingDone observer => observer < 256 || (0x1000 ≤ observer && observer < 0x2008)
  | .positionLost observer => observer < 256 || (0x1000 ≤ observer && observer < 0x2008)
  | .sensorSuspect source => source < 4096 || (0x2000 ≤ source && source < 0x2008)
  | .sensorReadmitted source => source < 4096 || (0x2000 ≤ source && source < 0x2008)
  | .moverCutoff mover => mover < 256
  | .axisGraphComplete axis => axis < 4096
  | .moverForceTimeout mover => mover < 256
  | .recordReadyDeadline node => node < 1024
  | .holdFault axis => axis < 4096
  | .rangeOverrun range => range < 8
  | .downlinkSlot node => node < 1024
  | .forwardedDownlinkRx _ => true
  | .graphAbandoned axis => axis < 4096
  | .dynRequestSend branch _ => branch < 32
  | .dynReplyRx branch channel _ _ _ => branch < 32 && channel < 2
  | .contourLate entry => entry < 8192
  | .joinClaimRx branch channel _ _ _ => branch < 32 && channel < 2
  | .joinGrantEffective node => node < 1024
  | .nodeSilent node => node < 1024
  | .nodeLost node => node < 1024
  | .revokeComplete node => node < 1024
  | .scheduleSwitch => true
  | .laneCalibrationStart branch channel => branch < 32 && channel < 2
  | .laneCalibrationDone branch channel => branch < 32 && channel < 2
  | .laneDown lane => lane < 40
  | .laneUp lane _ => lane < 40
  | .saddleUp => true
  | .migrationPrepare axis tile _ => axis < 4096 && tile < 16
  | .migrationCommit axis => axis < 4096
  | .migrationAborted axis => axis < 4096
  | .fullPlacement => true
  | .windowLoad tile _ _ => tile < 16
  | .tableLoadDone tile slot => tile < 16 && slot < 16
  | .bufferSwitch tile slot => tile < 16 && slot < 16
  | .tileRemoved tile => tile < 16
  | .axisRestore => true
  | .operationDispatch list => list < 33
  | .preemption list => list < 33
  | .shedLevelRise => true
  | .shedLevelFall => true
  | .firstFaultDecision => true
  | .deferredBindingChange axis => axis < 4096
  | .deferredRelease axis => axis < 4096
  | .bindingInForce axis => axis < 4096
  | .bindTimeout axis => axis < 4096
  | .followingError axis => axis < 4096
  | .noCoverage mover => mover < 256
  | .brakeStuck axis => axis < 4096
  | .holdDwellExpired axis => axis < 4096
  | .moveDone axis => axis < 4096
  | .stopDone axis => axis < 4096
  | .stopOvertime axis => axis < 4096
  | .segmentDeenergise axis => axis < 4096
  | .faultDetected source code => source < 0x10000 && code < 32
  | .dieLinkLost => true
  | .fieldInputSnapshot levels _ => levels < 2 ^ 32
  | .fieldInputReversed input => input < 32
  | .fieldInputOpen input => input < 32
  | .fieldOutputShort output => output < 4
  | .shortRetry output _ => output < 4
  | .fieldOutputOpenLoad output _ => output < 4
  | .safeInput _ _ => true
  | .safeDiscrepancy => true
  | .belayReadback balls => balls < 8
  | .kickSend => true
  | .kickLapsed => true
  | .aliveToggle => true
  | .vinStop _ => true
  | .vinOvervoltage _ => true
  | .vinOvervoltageEnd _ => true
  | .vinLow _ => true
  | .railFault rail => rail < 4
  | .railLost => true
  | .referenceLost => true
  | .pllLockLost pll _ => pll < 3
  | .pllLocked pll => pll < 3
  | .pllRelockTimeout pll => pll < 3
  | .ddrFspChangeDone => true
  | .droopCrossing domain level => domain < 18 && 1 ≤ level && level ≤ 2
  | .droopRestore domain => domain < 18
  | .thermalLimit _ => true
  | .thermalShutdown _ => true
  | .thermalClear _ _ => true
  | .brownOutDetect => true
  | .rtcTick => true
  | .ppsOut => true
  | .ppsInEdge _ => true
  | .ptpMessageRx port _ _ => port < 2
  | .timeStepped => true
  | .servoHoldover => true
  | .ptpTxStamp port _ _ => port < 2
  | .saddleDelayMeasure _ => true
  | .generalTriggerFire trigger => trigger < 8
  | .adcPassDone adc _ => adc < 4
  | .openWire input => input < 32
  | .adcCalibrationDone adc _ _ => adc < 4
  | .skewCalibrationDone pair _ _ => pair < 2
  | .adcCalDue adc _ => adc < 4
  | .consumerPoll stream _ => stream < 4
  | .gapPacket stream => stream < 4
  | .triggerHoldoffEnd unit => unit < 8
  | .measurementDone unit => unit < 8
  | .segmentDone unit => unit < 8
  | .quadratureEdge channel _ => channel < 8
  | .quadError channel => channel.value < 8
  | .indexEdge channel _ _ => channel < 8
  | .direction channel => channel < 8
  | .hallTransition channel _ => channel < 8
  | .ssiFrameDone channel _ _ _ => channel < 8
  | .resynced channel => channel < 8
  | .bridgeFault channel _ => channel < 8
  | .stall axis => axis < 4096
  | .stepperDone axis => axis < 4096
  | .stepperStopDone axis => axis < 4096
  | .limitTripped axis _ => axis < 4096
  | .homingLatch axis => axis < 4096
  | .homed axis => axis < 4096
  | .homingFailed axis => axis < 4096
  | .chatter input => input < 32
  | .heartbeatRx _ => true
  | .heartbeatMissing => true
  | .mirrorSectionRx _ => true
  | .settingRx _ => true
  | .handover => true
  | .deposed => true
  | .sessionIdleTimeout session => 1 ≤ session && session ≤ 15
  | .debugSessionExpiry => true
  | .moduleLoadTimeout => true
  | .pinParkEnd pin => pin < 40
  | .debugHalt kind tile core => (kind = 0 && tile < 16 && core < 4) || (kind = 1 && core < 4) || kind = 2
  | .debugStep kind tile core => (kind = 0 && tile < 16 && core < 4) || (kind = 1 && core < 4) || kind = 2
  | .debugResume kind tile core => (kind = 0 && tile < 16 && core < 4) || (kind = 1 && core < 4) || kind = 2
  | .jtagIdcode => true
  | .jtagBypass => true
  | .jtagExtest _ => true
  | .jtagSamplePreload _ _ => true
  | .jtagIntest _ => true
  | .jtagClamp => true
  | .getQueueStatus p => p.queue < 8
  | .fenceQueues p => p.queue < 8
  | .fenceCycle p => p.queue < 8
  | .fenceTime p => p.queue < 8
  | .flushQueue p => p.queue < 8
  | .setEventRoute p => p.queue < 8
  | .sessionChallenge p => p.queue < 8
  | .sessionOpen p => p.queue < 8
  | .sessionClose p => p.queue < 8
  | .getRange p => p.queue < 8
  | .setRange p => p.queue < 8
  | .rangeStart p => p.queue < 8
  | .rangeStop p => p.queue < 8
  | .getAxis p => p.queue < 8
  | .defineAxis p => p.queue < 8
  | .deleteAxis p => p.queue < 8
  | .axisEnable p => p.queue < 8
  | .axisDisable p => p.queue < 8
  | .getMover p => p.queue < 8
  | .defineMover p => p.queue < 8
  | .bindSegment p => p.queue < 8
  | .unbindSegment p => p.queue < 8
  | .setMoverTrack p => p.queue < 8
  | .setGap p => p.queue < 8
  | .getSchedule p => p.queue < 8
  | .getBranch p => p.queue < 8
  | .getNode p => p.queue < 8
  | .restoreBranch p => p.queue < 8
  | .setJoin p => p.queue < 8
  | .releaseSlot p => p.queue < 8
  | .getLane p => p.queue < 8
  | .calibrateLane p => p.queue < 8
  | .getTime p => p.queue < 8
  | .setTimeSource p => p.queue < 8
  | .closeStep p => p.queue < 8
  | .getPtpPort p => p.queue < 8
  | .setPortLatency p => p.queue < 8
  | .setTrigger p => p.queue < 8
  | .armContour p => p.queue < 8
  | .disarmContour p => p.queue < 8
  | .getContour p => p.queue < 8
  | .getLoop p => p.queue < 8
  | .setCoeff p => p.queue < 8
  | .getCoeff p => p.queue < 8
  | .clearLoopFlags p => p.queue < 8
  | .moveTo p => p.queue < 8
  | .moveLanding p => p.queue < 8
  | .stopMover p => p.queue < 8
  | .setLimits p => p.queue < 8
  | .setBlend p => p.queue < 8
  | .getOverrun p => p.queue < 8
  | .getChannel p => p.queue < 8
  | .setChannel p => p.queue < 8
  | .clearChannelFlags p => p.queue < 8
  | .setSensor p => p.queue < 8
  | .setObserver p => p.queue < 8
  | .getObserver p => p.queue < 8
  | .getPlacement p => p.queue < 8
  | .getTileLoad p => p.queue < 8
  | .setAffinity p => p.queue < 8
  | .setDispatch p => p.queue < 8
  | .setPlacer p => p.queue < 8
  | .getModule p => p.queue < 8
  | .loadModule p => p.queue < 8
  | .deleteModule p => p.queue < 8
  | .attachOperation p => p.queue < 8
  | .detachOperation p => p.queue < 8
  | .getStepper p => p.queue < 8
  | .setStepper p => p.queue < 8
  | .setStepperLimits p => p.queue < 8
  | .moveStepper p => p.queue < 8
  | .moveGroup p => p.queue < 8
  | .stopStepper p => p.queue < 8
  | .homeStepper p => p.queue < 8
  | .setMoveDesc p => p.queue < 8
  | .clearStepperFlags p => p.queue < 8
  | .getStream p => p.queue < 8
  | .setProbe p => p.queue < 8
  | .setStream p => p.queue < 8
  | .streamStart p => p.queue < 8
  | .streamStop p => p.queue < 8
  | .setTrigUnit p => p.queue < 8
  | .armUnit p => p.queue < 8
  | .forceTrigger p => p.queue < 8
  | .getTrigUnit p => p.queue < 8
  | .startCapture p => p.queue < 8
  | .abortCapture p => p.queue < 8
  | .readSegment p => p.queue < 8
  | .getAdc p => p.queue < 8
  | .setAdc p => p.queue < 8
  | .setAdcTrigger p => p.queue < 8
  | .setInput p => p.queue < 8
  | .readChannel p => p.queue < 8
  | .calibrateAdc p => p.queue < 8
  | .getRedundancy p => p.queue < 8
  | .setReturn p => p.queue < 8
  | .switchover p => p.queue < 8
  | .resyncPeer p => p.queue < 8
  | .getFaultSummary p => p.queue < 8
  | .getFaults p => p.queue < 8
  | .listFaults p => p.queue < 8
  | .clearFault p => p.queue < 8
  | .clearFirstFault p => p.queue < 8
  | .setAlive p => p.queue < 8
  | .setBelayConfig p => p.queue < 8
  | .setOutputGroup p => p.queue < 8
  | .getSecurity p => p.queue < 8
  | .provision p => p.queue < 8
  | .setLifecycle p => p.queue < 8
  | .revokeKey p => p.queue < 8
  | .advanceRollback p => p.queue < 8
  | .writeImage p => p.queue < 8
  | .debugChallenge p => p.queue < 8
  | .debugOpen p => p.queue < 8
  | .debugClose p => p.queue < 8
  | .getPower p => p.queue < 8
  | .setPowerConfig p => p.queue < 8
  | .getRtc p => p.queue < 8
  | .setRtc p => p.queue < 8
  | .setRtcAlarm p => p.queue < 8
  | .setRtcConfig p => p.queue < 8
  | .readBackup p => p.queue < 8
  | .writeBackup p => p.queue < 8
  | .getPin p => p.queue < 8
  | .setPin p => p.queue < 8
  | .commitPins p => p.queue < 8
  | .setGpio p => p.queue < 8
  | .getFieldIo p => p.queue < 8
  | .setFieldInput p => p.queue < 8
  | .setFieldOutput p => p.queue < 8
  | .setFoutConfig p => p.queue < 8
  | .porNFall => true
  | .resetNRise => true
  | .pcieLinkUp => true
  | .fieldInputOpenEnd input => input < 32
  | .fieldInputReversedEnd input => input < 32
  | .vinLowEnd _ => true
  | .calendarComparatorFire entry => entry < 8192
  | .imageTransferTimeout => true

/-- Do the operands fit the fields that carry them? -/
def Instr.inWidth (i : Instr) : Bool :=
  match i with
  | .sqTailWrite _ _ slots => slots.length < 4096 && slots.all (fun x => x.length = 64)
  | .cqHeadWrite _ _ => true
  | .sqFlushWrite _ value => value < 2 ^ 64
  | .queueEnable _ => true
  | .queueDisable _ => true
  | .eqEnable => true
  | .eqDisable => true
  | .eqHeadWrite _ => true
  | .sqSkippedRead _ => true
  | .eqDroppedRead => true
  | .headTimeLoRead _ => true
  | .cycleLoRead _ => true
  | .recCommit length window => length < 2 ^ 32 && window.length ≤ 4096
  | .recEnd => true
  | .registerWrite _ _ value => value < 2 ^ 64
  | .pciePowerState _ _ => true
  | .perstAssert => true
  | .pcieLinkDown => true
  | .itemStart => true
  | .completionWrite _ => true
  | .asyncDone _ => true
  | .fenceTimeout => true
  | .groupEffect _ => true
  | .groupAbandoned _ => true
  | .ethDatagramRx _ srcAddr srcPort dstPort payload => srcAddr < 2 ^ 32 && srcPort < 2 ^ 16 && dstPort < 2 ^ 16 && payload.length < 2 ^ 16
  | .ethFrameRx _ frame => frame.length < 2 ^ 16
  | .reassemblyTimeout _ _ => true
  | .eventDatagramSend _ => true
  | .getSystemStatus p => p.wf
  | .setMode p => p.wf
  | .enterIdle p => p.wf
  | .setTolerance p => p.wf
  | .wake p => p.wf
  | .setRescuePolicy p => p.wf
  | .systemReset p => p.wf
  | .vinStart _ => true
  | .railSequenceFail => true
  | .railRetry => true
  | .porNRise _ _ _ => true
  | .headTimeLoad => true
  | .bootStepDone _ => true
  | .bootStepTimeout => true
  | .saddleWindowEnd _ => true
  | .soloToActive => true
  | .networkBuildEnd => true
  | .autoService => true
  | .resetNFall => true
  | .modeTransitionDone => true
  | .wakeSource _ => true
  | .rescueTriggerFieldInput => true
  | .rescueTriggerVin _ => true
  | .rescueTilesGated => true
  | .rescueDone => true
  | .cycleStart => true
  | .backupBeaconSlot => true
  | .forwardedBeaconRx _ bytes => bytes.length < 2 ^ 16
  | .uplinkFrameRx _ _ bytes _ => bytes.length < 2 ^ 16
  | .forwardedUplinkRx bytes => bytes.length < 2 ^ 16
  | .settlingDone _ => true
  | .positionLost _ => true
  | .sensorSuspect _ => true
  | .sensorReadmitted _ => true
  | .moverCutoff _ => true
  | .axisGraphComplete _ => true
  | .moverForceTimeout _ => true
  | .recordReadyDeadline _ => true
  | .holdFault _ => true
  | .rangeOverrun _ => true
  | .downlinkSlot _ => true
  | .forwardedDownlinkRx bytes => bytes.length < 2 ^ 16
  | .graphAbandoned _ => true
  | .dynRequestSend _ mini => mini < 256
  | .dynReplyRx _ _ _ bytes _ => bytes.length < 2 ^ 16
  | .contourLate _ => true
  | .joinClaimRx _ _ _ bytes _ => bytes.length < 2 ^ 16
  | .joinGrantEffective _ => true
  | .nodeSilent _ => true
  | .nodeLost _ => true
  | .revokeComplete _ => true
  | .scheduleSwitch => true
  | .laneCalibrationStart _ _ => true
  | .laneCalibrationDone _ _ => true
  | .laneDown _ => true
  | .laneUp _ _ => true
  | .saddleUp => true
  | .migrationPrepare _ _ core => core < 256
  | .migrationCommit _ => true
  | .migrationAborted _ => true
  | .fullPlacement => true
  | .windowLoad _ table coordinate => table < 2 ^ 16 && -2 ^ 31 ≤ coordinate && coordinate < 2 ^ 31
  | .tableLoadDone _ _ => true
  | .bufferSwitch _ _ => true
  | .tileRemoved _ => true
  | .axisRestore => true
  | .operationDispatch _ => true
  | .preemption _ => true
  | .shedLevelRise => true
  | .shedLevelFall => true
  | .firstFaultDecision => true
  | .deferredBindingChange _ => true
  | .deferredRelease _ => true
  | .bindingInForce _ => true
  | .bindTimeout _ => true
  | .followingError _ => true
  | .noCoverage _ => true
  | .brakeStuck _ => true
  | .holdDwellExpired _ => true
  | .moveDone _ => true
  | .stopDone _ => true
  | .stopOvertime _ => true
  | .segmentDeenergise _ => true
  | .faultDetected _ _ => true
  | .dieLinkLost => true
  | .fieldInputSnapshot _ time => time < 2 ^ 64
  | .fieldInputReversed _ => true
  | .fieldInputOpen _ => true
  | .fieldOutputShort _ => true
  | .shortRetry _ _ => true
  | .fieldOutputOpenLoad _ _ => true
  | .safeInput _ _ => true
  | .safeDiscrepancy => true
  | .belayReadback _ => true
  | .kickSend => true
  | .kickLapsed => true
  | .aliveToggle => true
  | .vinStop _ => true
  | .vinOvervoltage _ => true
  | .vinOvervoltageEnd _ => true
  | .vinLow _ => true
  | .railFault _ => true
  | .railLost => true
  | .referenceLost => true
  | .pllLockLost _ _ => true
  | .pllLocked _ => true
  | .pllRelockTimeout _ => true
  | .ddrFspChangeDone => true
  | .droopCrossing _ _ => true
  | .droopRestore _ => true
  | .thermalLimit _ => true
  | .thermalShutdown _ => true
  | .thermalClear _ _ => true
  | .brownOutDetect => true
  | .rtcTick => true
  | .ppsOut => true
  | .ppsInEdge time => time < 2 ^ 64
  | .ptpMessageRx _ message _ => message.bytes.length < 2 ^ 16
  | .timeStepped => true
  | .servoHoldover => true
  | .ptpTxStamp _ identifier _ => identifier < 2 ^ 16
  | .saddleDelayMeasure _ => true
  | .generalTriggerFire _ => true
  | .adcPassDone _ samples => samples.length ≤ 16
  | .openWire _ => true
  | .adcCalibrationDone _ _ _ => true
  | .skewCalibrationDone _ _ _ => true
  | .adcCalDue _ _ => true
  | .consumerPoll _ _ => true
  | .gapPacket _ => true
  | .triggerHoldoffEnd _ => true
  | .measurementDone _ => true
  | .segmentDone _ => true
  | .quadratureEdge _ _ => true
  | .quadError _ => true
  | .indexEdge _ time _ => time < 2 ^ 64
  | .direction _ => true
  | .hallTransition _ code => code.value < 8
  | .ssiFrameDone _ _ _ _ => true
  | .resynced _ => true
  | .bridgeFault _ _ => true
  | .stall _ => true
  | .stepperDone _ => true
  | .stepperStopDone _ => true
  | .limitTripped _ _ => true
  | .homingLatch _ => true
  | .homed _ => true
  | .homingFailed _ => true
  | .chatter _ => true
  | .heartbeatRx bytes => bytes.length < 2 ^ 16
  | .heartbeatMissing => true
  | .mirrorSectionRx bytes => bytes.length < 2 ^ 16
  | .settingRx bytes => bytes.length < 2 ^ 16
  | .handover => true
  | .deposed => true
  | .sessionIdleTimeout _ => true
  | .debugSessionExpiry => true
  | .moduleLoadTimeout => true
  | .pinParkEnd _ => true
  | .debugHalt _ _ _ => true
  | .debugStep _ _ _ => true
  | .debugResume _ _ _ => true
  | .jtagIdcode => true
  | .jtagBypass => true
  | .jtagExtest chain => chain.length = 900
  | .jtagSamplePreload balls chain => balls.length = 900 && chain.length = 900
  | .jtagIntest chain => chain.length = 900
  | .jtagClamp => true
  | .getQueueStatus p => p.wf
  | .fenceQueues p => p.wf
  | .fenceCycle p => p.wf
  | .fenceTime p => p.wf
  | .flushQueue p => p.wf
  | .setEventRoute p => p.wf
  | .sessionChallenge p => p.wf
  | .sessionOpen p => p.wf
  | .sessionClose p => p.wf
  | .getRange p => p.wf
  | .setRange p => p.wf
  | .rangeStart p => p.wf
  | .rangeStop p => p.wf
  | .getAxis p => p.wf
  | .defineAxis p => p.wf
  | .deleteAxis p => p.wf
  | .axisEnable p => p.wf
  | .axisDisable p => p.wf
  | .getMover p => p.wf
  | .defineMover p => p.wf
  | .bindSegment p => p.wf
  | .unbindSegment p => p.wf
  | .setMoverTrack p => p.wf
  | .setGap p => p.wf
  | .getSchedule p => p.wf
  | .getBranch p => p.wf
  | .getNode p => p.wf
  | .restoreBranch p => p.wf
  | .setJoin p => p.wf
  | .releaseSlot p => p.wf
  | .getLane p => p.wf
  | .calibrateLane p => p.wf
  | .getTime p => p.wf
  | .setTimeSource p => p.wf
  | .closeStep p => p.wf
  | .getPtpPort p => p.wf
  | .setPortLatency p => p.wf
  | .setTrigger p => p.wf
  | .armContour p => p.wf
  | .disarmContour p => p.wf
  | .getContour p => p.wf
  | .getLoop p => p.wf
  | .setCoeff p => p.wf
  | .getCoeff p => p.wf
  | .clearLoopFlags p => p.wf
  | .moveTo p => p.wf
  | .moveLanding p => p.wf
  | .stopMover p => p.wf
  | .setLimits p => p.wf
  | .setBlend p => p.wf
  | .getOverrun p => p.wf
  | .getChannel p => p.wf
  | .setChannel p => p.wf
  | .clearChannelFlags p => p.wf
  | .setSensor p => p.wf
  | .setObserver p => p.wf
  | .getObserver p => p.wf
  | .getPlacement p => p.wf
  | .getTileLoad p => p.wf
  | .setAffinity p => p.wf
  | .setDispatch p => p.wf
  | .setPlacer p => p.wf
  | .getModule p => p.wf
  | .loadModule p => p.wf
  | .deleteModule p => p.wf
  | .attachOperation p => p.wf
  | .detachOperation p => p.wf
  | .getStepper p => p.wf
  | .setStepper p => p.wf
  | .setStepperLimits p => p.wf
  | .moveStepper p => p.wf
  | .moveGroup p => p.wf
  | .stopStepper p => p.wf
  | .homeStepper p => p.wf
  | .setMoveDesc p => p.wf
  | .clearStepperFlags p => p.wf
  | .getStream p => p.wf
  | .setProbe p => p.wf
  | .setStream p => p.wf
  | .streamStart p => p.wf
  | .streamStop p => p.wf
  | .setTrigUnit p => p.wf
  | .armUnit p => p.wf
  | .forceTrigger p => p.wf
  | .getTrigUnit p => p.wf
  | .startCapture p => p.wf
  | .abortCapture p => p.wf
  | .readSegment p => p.wf
  | .getAdc p => p.wf
  | .setAdc p => p.wf
  | .setAdcTrigger p => p.wf
  | .setInput p => p.wf
  | .readChannel p => p.wf
  | .calibrateAdc p => p.wf
  | .getRedundancy p => p.wf
  | .setReturn p => p.wf
  | .switchover p => p.wf
  | .resyncPeer p => p.wf
  | .getFaultSummary p => p.wf
  | .getFaults p => p.wf
  | .listFaults p => p.wf
  | .clearFault p => p.wf
  | .clearFirstFault p => p.wf
  | .setAlive p => p.wf
  | .setBelayConfig p => p.wf
  | .setOutputGroup p => p.wf
  | .getSecurity p => p.wf
  | .provision p => p.wf
  | .setLifecycle p => p.wf
  | .revokeKey p => p.wf
  | .advanceRollback p => p.wf
  | .writeImage p => p.wf
  | .debugChallenge p => p.wf
  | .debugOpen p => p.wf
  | .debugClose p => p.wf
  | .getPower p => p.wf
  | .setPowerConfig p => p.wf
  | .getRtc p => p.wf
  | .setRtc p => p.wf
  | .setRtcAlarm p => p.wf
  | .setRtcConfig p => p.wf
  | .readBackup p => p.wf
  | .writeBackup p => p.wf
  | .getPin p => p.wf
  | .setPin p => p.wf
  | .commitPins p => p.wf
  | .setGpio p => p.wf
  | .getFieldIo p => p.wf
  | .setFieldInput p => p.wf
  | .setFieldOutput p => p.wf
  | .setFoutConfig p => p.wf
  | .porNFall => true
  | .resetNRise => true
  | .pcieLinkUp => true
  | .fieldInputOpenEnd _ => true
  | .fieldInputReversedEnd _ => true
  | .vinLowEnd _ => true
  | .calendarComparatorFire _ => true
  | .imageTransferTimeout => true

/-- A well-formed command. -/
def Instr.wf (i : Instr) : Bool := i.objects && i.inWidth

end Sys2Proof
end

