-- ==== Sys2Proof/Safety.lean ====
section
/-! DEFINITION. What counts as a safe run of the head, in the terms the statements use. -/
namespace Sys2Proof.Machine

/-- Every waiting command names objects that the part has. -/
def State.wellQueued (s : State) : Prop := ∀ i ∈ s.pending, i.objects = true

/-- Every field output of a group in belay is off, with what was written to it gone (R404, R471). -/
def Head.fieldOutputsHeld (h : Head) : Prop :=
  ∀ (n : Nat) (o : FieldOutput), h.pins.fout[n]? = some o → h.outputBelayed n = true →
    o.on = false ∧ o.written = false ∧ o.short = false

/-- Every general-purpose ball of a group in belay is at its safe level when its function drives it, released otherwise,
neither parked nor pulsing (R404, R467, R468). -/
def Head.ballsHeld (h : Head) : Prop :=
  ∀ (k : Nat) (p : Pin), h.pins.gp[k]? = some p → h.outputBelayed (4 + k) = true →
    p.drives = (if p.set.drivesBall then some (h.output (4 + k)).safeHigh else none) ∧ p.parked = false ∧ p.pulseEnd = none

/-- Every local stepper channel whose axis is not ENABLED, in belay or shed, or that no axis uses, holds its outputs low
(R323, R333). -/
def Head.stepsHeld (h : Head) : Prop :=
  ∀ (n : Nat) (c : StepChannel), h.steps[n]? = some c →
    ((h.axes.find? fun a => a.localStep && a.stepChannel = n).all fun a => h.stepHeldLow a) = true →
    c.vel = 0 ∧ c.ticks = 0 ∧ c.delayed = [] ∧ c.duty = (0, 0, 0, 0)

/-- ALIVE is stopped and low, the kick watchdog disarmed, on any S4 latch, in SAFE, and before COMMISSION (R39, R414). -/
def Head.aliveHeld (h : Head) : Prop :=
  (h.hasS4 || h.sys.mode = .safe || !h.fromCommission) = true →
    h.faults.aliveRun = false ∧ h.faults.aliveLevel = false ∧ h.faults.kickArmed = false

/-- An S4 latch finds the head in SAFE whenever anything runs at all (R489). -/
def Head.modeHeld (h : Head) : Prop := h.hasS4 = true → h.fromBoot = true → h.sys.mode = .safe

/-- A range in use with an S3 latch, or under an S4 latch, stands in BELAY (R97, R409). -/
def Head.rangesHeld (h : Head) : Prop :=
  ∀ r < 8, (h.hasS3 r || h.hasS4) = true → (h.range r).state = .unused ∨ (h.range r).state = .belay

/-- Everything the fault reactions of Table 16-3 promise of the outputs of the part. -/
def Head.outputsHeld (h : Head) : Prop := h.fieldOutputsHeld ∧ h.ballsHeld ∧ h.stepsHeld ∧ h.aliveHeld

/-! ### How a command ends, in the terms of the statements -/

/-- The head as a command finds it: the outputs of the one before are gone. DESIGN CHOICE (log 85). -/
def State.fresh (s : State) : Head := { s.head with sent := [] }

/-- The state after a command that left the head like this: the fault reactions follow (Table 16-3). -/
def State.reacted (s : State) (k : Head) : State := { s with head := k.settle }

/-- The head takes this item of a queue and nothing refuses it: the part runs, the queue holds no deferred group and no
late one, and no status of R83 applies. -/
def State.serves (s : State) (c : Command) (p : Packet) : Prop :=
  p.queue < 8 ∧ s.fresh.fromBoot = true ∧ (s.fresh.queue p.queue).lateItems = 0 ∧ (s.fresh.queue p.queue).group = none
    ∧ judge c .queue p s.fresh = none

/-- The head that the effect of a served item acts on: its session has moved on (R430, R431). -/
def State.taken (s : State) (p : Packet) : Head := acceptPacket p s.fresh

/-- The state after an item that finishes at once with this head and these reply parameters: passed to the peer (R382),
replied OK (R84). DEDUCED (log 16). -/
def State.answered (s : State) (c : Command) (p : Packet) (k : Head) (reply : List Byte) : State :=
  s.reacted (c.after p ((logSetting c (s.taken p).time.cycle p k).answer p c.opcode Status.ok reply))

/-- Fewer than 64 items of the queue await their final status (R80). -/
def State.room (s : State) (p : Packet) : Prop := ((s.taken p).queue p.queue).pendingAsync < 64

/-- The state after an item that runs on: ACCEPTED now, its final reply once `a` comes (R85). -/
def State.accepted (s : State) (c : Command) (p : Packet) (k : Head) (reply : List Byte) (a : Await)
    (final : Option (Nat × List Byte) := none) : State :=
  s.reacted (((logSetting c (s.taken p).time.cycle p k).setQueue p.queue fun q =>
    { q with async := q.async ++ [{ echo := echoOf p c.opcode, await := a, owed := false, final }] }).answer p c.opcode
      Status.accepted reply)

/-- The state after an item that owes its one reply until `a` comes (R90, R97). DEDUCED (log 16). -/
def State.owing (s : State) (c : Command) (p : Packet) (k : Head) (a : Await) : State :=
  s.reacted ((logSetting c (s.taken p).time.cycle p k).setQueue p.queue fun q =>
    { q with async := q.async ++ [{ echo := echoOf p c.opcode, await := a, owed := true, final := none }] })

end Sys2Proof.Machine
end

