-- ==== Sys2Proof/Certificates/Slice0/Obligations.lean ====
section
/-! DEFINITION. The statements for the provers: the machine as a whole, how the head takes an item, data rules; then, family
by family, the state that each command ends in.  `State.fresh` is the head as a command finds it, `State.reacted` the state
after the fault reactions, and `State.answered`, `accepted` and `owing` a served item's three ways of ending (Safety). -/
set_option autoImplicit false
open Sys2Proof Sys2Proof.Machine

/-! ### Steps, the queue of waiting commands, and reset -/

/-- A step takes the command at the front of the queue and runs it with the rest. -/
def Obligations.StepRunsFront : Prop := ∀ (i : Instr) (rest : List Instr) (h : Head),
  step { head := h, pending := i :: rest } = exec i { head := h, pending := rest }

/-- With nothing waiting a step is one tick of the time base (R174).  That the tick is what an idle step does is the model's
choice (log 2): while the part runs head time grows by INCR, pulses whose width has passed end, bridges whose PWM period
begins take new duties and may be marked limited (log 107), and nothing else changes. -/
def Obligations.IdleStepTicks : Prop := ∀ h : Head,
  step { head := h, pending := [] } = .next { head := h.tick, pending := [] } ∧
  (h.fromBoot = false → h.tick = { h with sent := [] }) ∧
  (h.fromBoot = true → ∃ (pins : Pins) (sent : List Output) (steps : List StepChannel) (axes : List Axis), h.tick =
      { h with time := { h.time with head := (h.time.head + h.time.incr) % 2 ^ 96 }, pins, sent, steps, axes } ∧
    steps.map (fun c => { c with duty := (0, 0, 0, 0) }) = h.steps.map (fun c => { c with duty := (0, 0, 0, 0) }) ∧
    axes.map (fun a => { a with step := { a.step with flags := 0 } }) =
      h.axes.map fun a => { a with step := { a.step with flags := 0 } })

/-- Progress: when every waiting command names objects that the part has, a step answers a next state, which has lost exactly
the front of the queue and is of that kind again. -/
def Obligations.WellQueuedStateRuns : Prop := ∀ s : State, s.wellQueued →
  ∃ t : State, step s = .next t ∧ t.wellQueued ∧ t.pending = s.pending.tail

/-- The only stop: a command stops the machine exactly when it names an object that the part does not have, with the one
fault (the model's own stop, log 82); nothing is refused, and no command touches the queue. -/
def Obligations.OnlyMissingObjectsStop : Prop := ∀ (i : Instr) (s : State),
  (i.objects = false → exec i s = .fault .noSuchObject) ∧
  (i.objects = true → ∃ h : Head, exec i s = .next { s with head := h })

/-- Reset: the head is in BOOT with no role (Table 02-7), nothing waits or runs, no axis, mover or latch exists, the queues and
the event queue are disabled and empty, and the invariants hold.  Values the spec does not give are the model's choice
(log 1); none is named here.  The balls (R38, R464; log 110): at reset the general-purpose balls are inputs pulled down,
field outputs are off and ALIVE is low; in OFF no ball is driven high and none runs, scanning apart. -/
def Obligations.ResetState : Prop :=
  State.reset.pending = [] ∧ State.reset.head.sys.mode = .boot ∧ State.reset.head.sys.role = .none ∧
  State.reset.head.sys.transition = none ∧ State.reset.head.axes = [] ∧ State.reset.head.movers = [] ∧
  State.reset.head.faults.latches = [] ∧ State.reset.head.faults.first = none ∧ State.reset.head.faults.aliveRun = false ∧
  State.reset.head.queues.length = 8 ∧ (State.reset.head.queues.all fun q => !q.enabled && q.fgen = 0 && q.slots = []) = true ∧
  State.reset.head.evq.enabled = false ∧ State.reset.head.evq.seq = 0 ∧ State.reset.head.evq.dropped = 0 ∧
  State.reset.head.ranges.length = 8 ∧ State.reset.head.tracks.length = 64 ∧
  State.reset.head.outputsHeld ∧ State.reset.head.modeHeld ∧ State.reset.head.rangesHeld ∧ State.reset.wellQueued ∧
  (∀ k, State.reset.head.ballState (.gp k) = .pullDown) ∧ (∀ n, State.reset.head.ballState (.fout n) = .level false) ∧
  State.reset.head.ballState .alive = .level false ∧
  (∀ (h : Head) (b : Ball), h.sys.mode = .off → (h.sec.scanDrives = false ∨ b.onLd = false) →
    h.ballState b ≠ .level true ∧ h.ballState b ≠ .running)

/-- The outputs of a group in belay, of a stepper channel that nothing may drive, and ALIVE are held in every state that a
step reaches from one in which they are held: every command ends with the reactions of Table 16-3, and a tick of the time
base moves none of them. -/
def Obligations.StepKeepsOutputsHeld : Prop := ∀ s t : State,
  s.head.outputsHeld → step s = .next t → t.head.outputsHeld

/-- An S4 latch finds the running head in SAFE, and a range in use with an S3 latch or under an S4 latch stands in BELAY:
after every command, whatever it latched, and through every tick. -/
def Obligations.StepKeepsModeAndRanges : Prop := ∀ s t : State,
  s.head.modeHeld → s.head.rangesHeld → step s = .next t → t.head.modeHeld ∧ t.head.rangesHeld

/-- The frame of the reactions: with no mode change due they leave every setting, the time base, the supply, the backup
domain, security, placement, acquisition, the network and the calendar's schedule of the head as the command left them. -/
def Obligations.SettleFrame : Prop := ∀ h : Head, (h.hasS4 = false ∨ h.fromBoot = false ∨ h.sys.mode = .safe) →
  h.settle.sys = h.sys ∧ h.settle.time = h.time ∧ h.settle.net = h.net ∧ h.settle.sec = h.sec ∧ h.settle.backup = h.backup ∧
  h.settle.power = h.power ∧ h.settle.movers = h.movers ∧ h.settle.tracks = h.tracks ∧ h.settle.binds = h.binds ∧
  h.settle.deferred = h.deferred ∧ h.settle.terrain = h.terrain ∧ h.settle.blends = h.blends ∧
  h.settle.channels = h.channels ∧ h.settle.compute = h.compute ∧ h.settle.microsteps = h.microsteps ∧
  h.settle.acq = h.acq ∧ h.settle.ethq = h.ethq ∧ h.settle.eth = h.eth ∧ h.settle.faults.latches = h.faults.latches ∧
  h.settle.faults.first = h.faults.first ∧ h.settle.turn = h.turn ∧ h.settle.drawn = h.drawn

/-! ### How the head takes an item -/

/-- The first eight stages of R83, in their order, for an item that a queue delivers. -/
def Obligations.RefusalOrder : Prop := ∀ (c : Command) (p : Packet) (h : Head),
  judge c .queue p h =
    if headersBad p = true then some Status.badLength
    else if macsOk c.opcode p h = false then some Status.notPermitted
    else if c.defined = false then some Status.badOpcode
    else if (chunks p).all c.len = false ∨ c.lenIn p h = false then some Status.badLength
    else if classOk c p h = false ∨ c.permitted p h = false then some Status.notPermitted
    else if c.active = true ∧ c.shared p h = true ∧ h.commands = false then some Status.notActive
    else if c.stateOk p h = false then some Status.badState
    else if itemOk c p h = false ∨ c.paramOk p h = false then some Status.badParam
    else firstRefusal (c.refusals p h)

/-- A refused item of any command has no effect (R83): the head answers it, moves the session of an authenticated one on and
counts what the refusal counts; modes, time, network, ranges, movers, faults, balls, supply, calendar, channels, placement,
steppers, acquisition and the peer stay, and an axis changes in STALE_HOST alone. -/
def Obligations.RefusedItem : Prop := ∀ (i : Instr) (c : Command) (p : Packet) (s : State) (status : Nat),
  hostCommand i = some (c, p) → p.queue < 8 → s.fresh.fromBoot = true → (s.fresh.queue p.queue).lateItems = 0 →
  (s.fresh.queue p.queue).group = none → judge c .queue p s.fresh = some status →
  ∃ k : Head, exec i s = .next (s.reacted k) ∧ k = refuseItem c status p s.fresh ∧
    k.sys = s.head.sys ∧ k.time = s.head.time ∧ k.net = s.head.net ∧ k.ranges = s.head.ranges ∧ k.movers = s.head.movers ∧
    k.tracks = s.head.tracks ∧ k.faults = s.head.faults ∧ k.pins = s.head.pins ∧ k.power = s.head.power ∧
    k.backup = s.head.backup ∧ k.cal = s.head.cal ∧ k.channels = s.head.channels ∧ k.compute = s.head.compute ∧
    k.steps = s.head.steps ∧ k.acq = s.head.acq ∧ k.peer = s.head.peer ∧ k.binds = s.head.binds ∧
    k.evq = s.head.evq ∧ k.fences = s.head.fences ∧
    k.axes.map (fun a => { a with staleHost := 0 }) = s.head.axes.map fun a => { a with staleHost := 0 }

/-- What an item meets that the head does not serve at once: nothing takes it while the part does not run (R30); an item that
an ended group still owes is refused with the group's FENCE_LATE or NOT_ACTIVE, or with what R83 puts before it (R93, R94); a complete group holds its queue (R91); and a judged item of an
open group is ACCEPTED and kept for the group's instant, its effect left out until then (R91). -/
def Obligations.ItemsHeldBack : Prop := ∀ (i : Instr) (c : Command) (p : Packet) (s : State),
  hostCommand i = some (c, p) → p.queue < 8 →
  (s.fresh.fromBoot = false → exec i s = .next (s.reacted s.fresh)) ∧
  (∀ j : Head, s.fresh.fromBoot = true → 0 < (s.fresh.queue p.queue).lateItems →
    (s.fresh.setQueue p.queue fun q => { q with lateItems := q.lateItems - 1 }) = j →
    exec i s = .next (s.reacted (refuseItem { c with onRefuse := fun _ _ h => h }
      (lateJudge c (s.fresh.queue p.queue).lateStatus p j) p j)) ∧
    (judge c .queue p j = none → lateJudge c (s.fresh.queue p.queue).lateStatus p j = (s.fresh.queue p.queue).lateStatus)) ∧
  (∀ g : Group, s.fresh.fromBoot = true → (s.fresh.queue p.queue).lateItems = 0 → (s.fresh.queue p.queue).group = some g →
    g.remaining = 0 → exec i s = .next (s.reacted s.fresh)) ∧
  (∀ (g : Group) (j k : Head), s.fresh.fromBoot = true → (s.fresh.queue p.queue).lateItems = 0 →
    (s.fresh.queue p.queue).group = some g → 0 < g.remaining →
    (s.fresh.setQueue p.queue fun q => { q with group := q.group.map fun g => { g with remaining := g.remaining - 1 } }) = j →
    judge c .queue p j = none → acceptPacket p j = k → (k.queue p.queue).pendingAsync < 64 →
    exec i s = .next (s.reacted (((logSetting c (((k.queue p.queue).group.map fun g => g.effectCycle k).getD k.time.cycle) p k).setQueue
      p.queue fun q => { q with
        async := q.async ++ [{ echo := echoOf p c.opcode, await := .group, owed := false, final := none }],
        group := q.group.map fun g => { g with items := g.items ++ [(c.opcode, p)] } }).answer p c.opcode Status.accepted [])))

/-- No setting without a session: a CONFIGURE or MAINTAIN item without a MAC, which its command does not take without one,
is refused with BAD_LENGTH or NOT_PERMITTED whatever the state (R82, R83). -/
def Obligations.UnauthenticatedItem : Prop := ∀ (i : Instr) (c : Command) (p : Packet) (s : State),
  hostCommand i = some (c, p) → (c.cls = .configure ∨ c.cls = .maintain) → hasMac p.flags = false → c.open_ p s.fresh = false →
  p.queue < 8 → s.fresh.fromBoot = true → (s.fresh.queue p.queue).lateItems = 0 → (s.fresh.queue p.queue).group = none →
  ∃ status, (status = Status.badLength ∨ status = Status.notPermitted) ∧
    exec i s = .next (s.reacted (refuseItem c status p s.fresh))

/-- A forged item: a whole item whose MAC or SEQUENCE does not verify is answered NOT_PERMITTED and counted in AUTH_FAIL, and
that is all, whatever its opcode (R82). -/
def Obligations.ForgedItem : Prop := ∀ (i : Instr) (c : Command) (p : Packet) (s : State),
  hostCommand i = some (c, p) → p.queue < 8 → s.fresh.fromBoot = true → (s.fresh.queue p.queue).lateItems = 0 →
  (s.fresh.queue p.queue).group = none → headersBad p = false → macsOk c.opcode p s.fresh = false →
  exec i s = .next (s.reacted (Head.answer
    { s.fresh with sec := { s.fresh.sec with authFail := satInc (2 ^ 32 - 1) s.fresh.sec.authFail } } p c.opcode
    Status.notPermitted [] false))

/-- An OBSERVE item that is served finishes at once and changes the head in nothing but the free values it draws, the PTP
counts that GET_PTP_PORT clears, the peaks that GET_TILE_LOAD clears and the factor it finds, and the BKUP_LOW that
GET_POWER's measurement finds. -/
def Obligations.ObserveChangesNothing : Prop := ∀ (i : Instr) (c : Command) (p : Packet) (s : State),
  hostCommand i = some (c, p) → c.cls = .observe → s.serves c p →
  ∃ (reply : List Byte) (drawn : Nat) (ports : List PtpPort) (tiles : List Tile) (sagFactor : Nat) (bkupLow : Bool),
    exec i s = .next (s.answered c p { s.taken p with
      drawn, time := { (s.taken p).time with ports }, compute := { (s.taken p).compute with tiles, sagFactor },
      power := { (s.taken p).power with bkupLow } } reply) ∧
    (c.opcode ≠ 0x0503 → ports = (s.taken p).time.ports) ∧ (c.opcode ≠ 0x0801 → tiles = (s.taken p).compute.tiles ∧ sagFactor = (s.taken p).compute.sagFactor) ∧
    (c.opcode ≠ 0x1000 → bkupLow = (s.taken p).power.bkupLow)

/-- R32: SET_MODE, ENTER_IDLE, SET_TOLERANCE, WAKE and SET_RESCUE_POLICY are answered NOT_ACTIVE by a head that is neither
ACTIVE nor SOLO and change nothing but the reply and the session; GET_SYSTEM_STATUS and SYSTEM_RESET are never refused so. -/
def Obligations.StandbyRefuses : Prop := ∀ (i : Instr) (c : Command) (p : Packet) (s : State),
  hostCommand i = some (c, p) →
  (c.opcode ∈ [0x0101, 0x0102, 0x0103, 0x0104, 0x0105] → s.fresh.commands = false → p.queue < 8 → s.fresh.fromBoot = true →
    (s.fresh.queue p.queue).lateItems = 0 → (s.fresh.queue p.queue).group = none → headersBad p = false →
    macsOk c.opcode p s.fresh = true → (chunks p).all c.len = true → classOk c p s.fresh = true →
    exec i s = .next (s.reacted ((acceptPacket p s.fresh).answer p c.opcode Status.notActive []))) ∧
  (c.opcode ∈ [0x0100, 0x0106] → judge c .queue p s.fresh ≠ some Status.notActive)

/-! ### Data rules -/

/-- R375: a claim is greater by its epoch, 1 to 2,047 ahead modulo 4,096, or at equal epochs by its priority; epochs 2,048
apart rank neither; and a head's own claim carries its epoch and the priority of Table 15-1. -/
def Obligations.ClaimOrder : Prop :=
  (∀ c d : Nat, c < 65536 → d < 65536 → (claimGreater c d = true ↔
    (1 ≤ (c / 16 + 4096 - d / 16) % 4096 ∧ (c / 16 + 4096 - d / 16) % 4096 ≤ 2047) ∨ (c / 16 = d / 16 ∧ d % 16 < c % 16))) ∧
  (∀ c d : Nat, c < 65536 → d < 65536 → (c / 16 + 4096 - d / 16) % 4096 = 2048 →
    claimGreater c d = false ∧ claimGreater d c = false) ∧
  (∀ h : Head, h.claim / 16 = h.peer.epoch ∧ h.claim % 16 = match h.commands, h.sys.home with
    | true, true => 0xC | true, false => 0x8 | false, true => 0x4 | false, false => 0x0)

/-- The RTC's calendar (R455-R457): a date is possible just when its parts lie in their ranges; every second of the 400 years
is a possible date, and date and second spell each other; the second after the last is the first again. -/
def Obligations.Calendar : Prop :=
  (∀ d : Date, d.possible = true ↔ 2000 ≤ d.year ∧ d.year ≤ 2399 ∧ 1 ≤ d.month ∧ d.month ≤ 12 ∧ 1 ≤ d.day ∧
    d.day ≤ (if d.month = 2 then (if leapYear d.year then 29 else 28) else if d.month ∈ [4, 6, 9, 11] then 30 else 31) ∧
    d.hour ≤ 23 ∧ d.minute ≤ 59 ∧ d.second ≤ 59) ∧
  (∀ n < 146097 * 86400, (dateOf n).possible = true ∧ (dateOf n).seconds = n) ∧
  (∀ d : Date, d.possible = true → d.seconds < 146097 * 86400 ∧ dateOf d.seconds = d) ∧
  dateOf (146097 * 86400) = ⟨2000, 1, 1, 0, 0, 0⟩

/-- A frame of a head carries its fields (R148, R150): a receiver finds no line error, and reads back the type, the flags, the
address, the channel, the sender's claim, the low 24 bits of its cycle, the length and the payload.  A lane carries a frame
between its delimiters as code groups that each stand for their symbol alone (R146, R147; the tables are log 105's). -/
def Obligations.FrameRoundTrip : Prop := ∀ (h : Head) (type flags addr channel : Nat) (payload : List Byte),
  type < 16 → flags < 16 → addr < 1024 → channel < 2 → payload.length < 65536 → h.claim < 65536 →
  lineError (h.frame type flags addr channel payload) false = .none ∧
  framePayload (h.frame type flags addr channel payload) = payload ∧
  frameHeader (h.frame type flags addr channel payload) =
    { type, flags, addr, channel, claim := h.claim, cycle := h.time.cycle % 2 ^ 24, length := payload.length,
      reserved := flags &&& (15 - typeFlags type) = 0 } ∧
  ∃ code : List CodeGroup, (h.sendLane (addr / 32) channel payload).sent = h.sent ++ [.laneFrame (addr / 32) channel payload code] ∧
    code.map decodeGroup = (framed payload).map some

/-- A SETTING of the mirror (R382, Table 15-2) reads back as the setting that was sent, at every value its fields admit. -/
def Obligations.SettingRoundTrip : Prop := ∀ x : Setting,
  x.seq < 2 ^ 32 → x.effect < 2 ^ 48 → x.opcode < 2 ^ 16 → x.packet.queue = 0 → x.packet.tag < 2 ^ 32 →
  x.packet.target < 2 ^ 16 → x.packet.flags < 2 ^ 8 → x.packet.session < 2 ^ 8 → x.packet.sequence < 2 ^ 32 →
  x.packet.length < 2 ^ 16 → x.packet.body.length = x.packet.length → x.packet.rest = [] →
  readSetting x.bytes = some x

/-- R88 on the PCIe route: with the ring full, or with ENABLE 0, an event is dropped, counted and remembered, its SEQ consumed,
with no fault state lost; with room again EVENTS_LOST is written first, and an event with nothing lost before it becomes the
next entry, of 32 bytes.  R69: in D3hot with PME enabled an event, written or dropped, asserts WAKE_N, and else leaves it. -/
def Obligations.EventPosting : Prop := ∀ (h : Head) (code source object time cycle : Nat) (data : List Byte),
  h.evq.route = 0 →
  ((h.evq.enabled = false ∨ (h.evq.tail + 1) % 4096 = h.evq.head) → h.postAt code source object time cycle data =
    Head.wakeHost { h with evq := { h.evq with
        seq := (h.evq.seq + 1) % 2 ^ 32, dropped := satInc (2 ^ 32 - 1) h.evq.dropped, overflow := true,
        lost := satInc (2 ^ 32 - 1) h.evq.lost, firstLost := if h.evq.lost = 0 then h.now % 2 ^ 32 else h.evq.firstLost } }) ∧
  (h.evq.enabled = true → (h.evq.tail + 1) % 4096 ≠ h.evq.head → h.evq.lost ≠ 0 → h.flushLost.evq.lost = 0 ∧
    h.flushLost.evq.seq = (h.evq.seq + 1) % 2 ^ 32 ∧ h.flushLost.sent.take (h.sent.length + 1) = h.sent ++
      [.eventEntry h.evq.tail (eventBytes 0x0220 0 h.evq.seq h.now h.time.cycle 0xFFFF h.evq.phase
        (leBytes 4 h.evq.lost ++ leBytes 4 h.evq.firstLost))] ∧
    h.postAt code source object time cycle data = h.flushLost.postAt code source object time cycle data) ∧
  (h.evq.enabled = true → (h.evq.tail + 1) % 4096 ≠ h.evq.head → h.evq.lost = 0 →
    (h.postAt code source object time cycle data).evq.seq = (h.evq.seq + 1) % 2 ^ 32 ∧
    (h.postAt code source object time cycle data).evq.tail = (h.evq.tail + 1) % 4096 ∧
    (h.postAt code source object time cycle data).sent.take (h.sent.length + 1) =
      h.sent ++ [.eventEntry h.evq.tail (eventBytes code source h.evq.seq time cycle object h.evq.phase data)] ∧
    (eventBytes code source h.evq.seq time cycle object h.evq.phase data).length = 32) ∧
  (h.postAt code source object time cycle data).faults = h.faults ∧
  (h.postAt code source object time cycle data).pcie.wakeN = (h.pcie.wakeN || (h.pcie.d3hot && h.pcie.pme))

/-- A detection (R400): its latch is set and every latch that was set stays; a second detection of a set latch changes the
latch words nowhere. -/
def Obligations.DetectionLatches : Prop := ∀ (h : Head) (source code severity : Nat), severity? source code = some severity →
  (h.raise source code).latched source code = true ∧
  (∀ x c, h.latched x c = true → (h.raise source code).latched x c = true) ∧
  (∀ x c, h.latched source code = true → (h.raise source code).latched x c = h.latched x c)

/-- R365: a result is the code cut to its resolution, at the right with a differential one sign-extended and any other padded
with zeros, or at the left with zeros below; a trigger unit takes a differential result by its sign.  R362: a temperature is
taken as it stands. -/
def Obligations.ConverterResult : Prop := ∀ (cfg : AdcCfg) (channel : Nat) (code : Int),
  8 ≤ cfg.res → cfg.res ≤ 16 →
  (isDiff channel = true → -32768 ≤ code → code < 32768 →
    resultOf cfg channel code < 65536 ∧ resultValue channel (resultOf cfg channel code) =
      if cfg.left then code / 2 ^ (16 - cfg.res) * 2 ^ (16 - cfg.res) else code / 2 ^ (16 - cfg.res)) ∧
  (isDiff channel = false → isTemperature channel = false → 0 ≤ code → code < 65536 →
    (resultOf cfg channel code : Int) =
      (if cfg.left then code / 2 ^ (16 - cfg.res) * 2 ^ (16 - cfg.res) else code / 2 ^ (16 - cfg.res)) ∧
    resultValue channel (resultOf cfg channel code) = resultOf cfg channel code) ∧
  (isTemperature channel = true → 0 ≤ code → code < 65536 → (resultOf cfg channel code : Int) = code)

/-- The rounding and the saturation of R8: to the nearest value, an exact half to the even one; and a stored word is the
nearest value of Q1.23, with a flag exactly when the range cut it. -/
def Obligations.Rounding : Prop :=
  (∀ (n : Int) (d : Nat), 0 < d → 2 * (n - roundDiv n d * d).natAbs ≤ d ∧
    (2 * (n - roundDiv n d * d).natAbs = d → roundDiv n d % 2 = 0)) ∧
  (∀ x : Int, -(2 ^ 23) ≤ (sat24 x).1 ∧ (sat24 x).1 < 2 ^ 23 ∧ ((sat24 x).2 = false ↔ (sat24 x).1 = x)) ∧
  (∀ acc : Int, store24 acc = sat24 (roundDiv acc (2 ^ 24)))

/-! ### The rows of the host interface, block by block -/

/-- Block 0x01: mode commands and the mode register (R34, R37, R55, R65): each command of the block, served, ends in the
state its description gives. Where the rules leave room it states the model's own choice (log entries 16, 51, 54 and 94).
-/
def Obligations.ModeCommands : Prop :=
  ∀ (p : Packet) (s : State) (h : Head), s.taken p = h →
    (s.serves getSystemStatusCmd p → exec (.getSystemStatus p) s = .next (s.answered getSystemStatusCmd p h (pack [(4,
        h.sysState), (6, h.time.cycle), (2, 0), (4, if h.sys.mode = Mode.idle then h.sys.tolerance else 0), (8,
        h.sys.modeTime)]))) ∧
    (s.serves setModeCmd p → s.room p → pu p 0 1 = 2 → exec (.setMode p) s = .next (s.accepted setModeCmd p ((if h.sys.mode =
        Mode.rescue then h.powerTiles else h).beginMode .commission 0 1 (originOf p) false) [] .transition)) ∧
    (s.serves setModeCmd p → s.room p → ∀ k, pu p 0 1 = 3 → { h with sys := { h.sys with onBattery := false } } = k → exec
        (.setMode p) s = .next (s.accepted setModeCmd p ((if k.sys.mode = Mode.rescue then k.powerTiles else k).beginMode
        .service 0 1 (originOf p) false) [] .transition)) ∧
    (s.serves setModeCmd p → s.room p → pu p 0 1 = 4 → (h.enterRescue 1 (originOf p)).sys.transition.isSome = true → exec
        (.setMode p) s = .next (s.accepted setModeCmd p (h.enterRescue 1 (originOf p)) [] .transition)) ∧
    (s.serves setModeCmd p → pu p 0 1 = 4 → (h.enterRescue 1 (originOf p)).sys.transition.isSome = false → exec (.setMode p)
        s = .next (s.answered setModeCmd p (h.enterRescue 1 (originOf p)) [])) ∧
    (s.serves enterIdleCmd p → s.room p → ∀ d, h.depthFor (pu p 0 4) = some d → exec (.enterIdle p) s = .next (s.accepted
        enterIdleCmd p
        (({ h with sys := { h.sys with tolerance := pu p 0 4, wakeSources := pu p 4 1, wakeInput := pu p 5 1 } } :
        Head).beginMode .idle d 1 (originOf p) false) (depthReply d) .transition)) ∧
    (s.serves setToleranceCmd p → s.room p → pu p 0 4 < 2 → exec (.setTolerance p) s = .next (s.accepted setToleranceCmd p
        (h.wake 1 (originOf p)) (depthReply 0) .transition)) ∧
    (s.serves setToleranceCmd p → 2 ≤ pu p 0 4 → (h.depthFor (pu p 0 4)).getD h.sys.depth = h.sys.depth → exec (.setTolerance
        p) s = .next (s.answered setToleranceCmd p ({ h with sys := { h.sys with tolerance := pu p 0 4 } }) (depthReply
        h.sys.depth))) ∧
    (s.serves setToleranceCmd p → s.room p → ∀ d, 2 ≤ pu p 0 4 → (h.depthFor (pu p 0 4)).getD h.sys.depth = d → d ≠
        h.sys.depth → exec (.setTolerance p) s = .next (s.accepted setToleranceCmd p
        (({ h with sys := { h.sys with tolerance := pu p 0 4 } } : Head).beginMode .idle d 1 (originOf p) false) (depthReply
        d) .transition)) ∧
    (s.serves wakeCmd p → s.room p → exec (.wake p) s = .next (s.accepted wakeCmd p (h.wake 1 (originOf p)) [] .transition)) ∧
    (s.serves setRescuePolicyCmd p → exec (.setRescuePolicy p) s = .next (s.answered setRescuePolicyCmd p
        ({ h with sys := { h.sys with triggers := pu p 0 1 / 2 * 2 + 1, mainsInput := pu p 1 1, vinThreshold := pu p 2 2, restTolerance := pu p 4 4 } })
        [])) ∧
    (s.serves systemResetCmd p → exec (.systemReset p) s = .next (s.answered systemResetCmd p h []))

/-- Block 0x02: queues, fences, flush and event route (R89-R95): each command of the block, served, ends in the state its
description gives. Where the rules leave room it states the model's own choice (log entries 16, 40 and 41). -/
def Obligations.QueueCommands : Prop :=
  ∀ (p : Packet) (s : State) (h : Head), s.taken p = h →
    (s.serves getQueueStatusCmd p → exec (.getQueueStatus p) s = .next (s.answered getQueueStatusCmd p h (pack [(4, (h.queue
        (pu p 0 1)).status), (2, (h.queue (pu p 0 1)).sqHead), (2, (h.queue (pu p 0 1)).sqTail), (4, (h.queue (pu p 0
        1)).skippedTotal), (4, (h.queue (pu p 0 1)).stale)]))) ∧
    (s.serves fenceQueuesCmd p → exec (.fenceQueues p) s = .next (s.owing fenceQueuesCmd p
        ({ h with fences := h.fences ++ [{ queue := p.queue, echo := echoOf p 0x0201, timeout := pu p 0 4, since := h.now }] })
        .fence)) ∧
    (s.serves fenceCycleCmd p → s.room p → exec (.fenceCycle p) s = .next (s.accepted fenceCycleCmd p (h.setQueue p.queue fun
        q =>
        { q with group := some { byTime := false, cycle := pu p 0 6, time := 0, remaining := pu p 6 1, fence := echoOf p 0x0202, items := [] } })
        [] .group)) ∧
    (s.serves fenceTimeCmd p → s.room p → exec (.fenceTime p) s = .next (s.accepted fenceTimeCmd p (h.setQueue p.queue fun q
        =>
        { q with group := some { byTime := true, cycle := 0, time := pu p 0 8, remaining := pu p 8 1, fence := echoOf p 0x0203, items := [] } })
        [] .group)) ∧
    (s.serves flushQueueCmd p → ∀ k items discarded fgen, h.flushQueue (pu p 0 1) 0 p.queue = (k, items, discarded, fgen) →
        exec (.flushQueue p) s = .next (s.answered flushQueueCmd p k (pack [(2, items), (2, discarded), (1, fgen), (3, 0)]))) ∧
    (s.serves setEventRouteCmd p → ∀ k, (if h.evq.route ≠ 0 then sendAllEvents 128 h else h) = k → pu p 0 1 = 0 → exec
        (.setEventRoute p) s = .next (s.answered setEventRouteCmd p ({ k with evq := { k.evq with route := 0 } }) [])) ∧
    (s.serves setEventRouteCmd p → ∀ k, (if h.evq.route ≠ 0 then sendAllEvents 128 h else h) = k → 0 < pu p 0 1 → exec
        (.setEventRoute p) s = .next (s.answered setEventRouteCmd p
        ({ k with evq := { k.evq with route := pu p 0 1, destAddr := leNat (((prm p).drop 4).take 4).reverse, destPort := pu p 8 2 } })
        []))

/-- Sessions of block 0x02 (R429-R431): each command of the block, served, ends in the state its description gives. Where
the rules leave room it states the model's own choice (log entries 4, 16 and 68). -/
def Obligations.SessionCommands : Prop :=
  ∀ (p : Packet) (s : State) (h : Head), s.taken p = h →
    (s.serves sessionChallengeCmd p → exec (.sessionChallenge p) s = .next (s.answered sessionChallengeCmd p
        ({ h with sec := { h.sec with nonce := some (padTo 48 (Config.freeBytes h.drawn 48), h.now) }, drawn := h.drawn + 1 })
        (padTo 48 (Config.freeBytes h.drawn 48)))) ∧
    (s.serves sessionOpenCmd p → ∀ nonce key, h.nonce? = some nonce → h.sec.hostKeys[pu p 0 1]? = some key → exec
        (.sessionOpen p) s = .next (s.answered sessionOpenCmd p ((h.openSession p nonce key).head) ((h.openSession p nonce
        key).reply))) ∧
    (s.serves sessionCloseCmd p → exec (.sessionClose p) s = .next (s.answered sessionCloseCmd p h []))

/-- Block 0x03: ranges and axes (R97-R101): each command of the block, served, ends in the state its description gives.
Where the rules leave room it states the model's own choice (log entries 16, 31, 32, 42, 92 and 101). -/
def Obligations.RangeCommands : Prop :=
  ∀ (p : Packet) (s : State) (h : Head), s.taken p = h →
    (s.serves getRangeCmd p → exec (.getRange p) s = .next (s.answered getRangeCmd p h (pack [(1, (h.range
        p.target).divisor), (1, (h.range p.target).rescueDivisor), (1, (h.range p.target).cls), (1, rangeStateCode (h.range
        p.target).state + flag (h.shedNow p.target) 2 + flag (h.range p.target).autoRun 3), (2, axesOf h.axes p.target), (2,
        0), (4, axesOf h.axes p.target * 1000000000 / max 1 (h.rangeNs p.target))]))) ∧
    (s.serves setRangeCmd p → exec (.setRange p) s = .next (s.answered setRangeCmd p (Head.clipObservers
        { (h.setRange p.target fun x => { x with divisor := pu p 0 1, rescueDivisor := pu p 1 1, cls := pu p 2 1, autoRun := bit (pu p 3 1) 0 }) with compute := { h.compute with changed := true } }
        p.target) [])) ∧
    (s.serves rangeStartCmd p → (h.range p.target).state = .running → exec (.rangeStart p) s = .next (s.answered
        rangeStartCmd p h [])) ∧
    (s.serves rangeStartCmd p → (h.range p.target).state ≠ .running → exec (.rangeStart p) s = .next (s.owing rangeStartCmd p
        (h.setRange p.target fun x => { x with starting := true }) (.rangeRunning p.target))) ∧
    (s.serves rangeStopCmd p → (h.range p.target).state = .stopped → exec (.rangeStop p) s = .next (s.answered rangeStopCmd p
        h [])) ∧
    (s.serves rangeStopCmd p → s.room p → (h.range p.target).state ≠ .stopped → exec (.rangeStop p) s = .next (s.accepted
        rangeStopCmd p ((h.setRange p.target fun x => { x with stopping := true }).stopRange p.target) [] (.rangeStopped
        p.target))) ∧
    (s.serves getAxisCmd p → ∀ a, targetAxis? p h = some a → exec (.getAxis p) s = .next (s.answered getAxisCmd p h (pack
        [(1, axisKindCode a.kind), (1, a.range), (1, a.epoch), (1, axisStateCode a.state), (2, a.mover.getD 0xFFFF), (2,
        a.location), (6, a.epochCycle), (2, a.staleHost), (2, a.staleUp), (2, a.nodeMismatch), (4, 0)]))) ∧
    (s.serves defineAxisCmd p → exec (.defineAxis p) s = .next (s.answered defineAxisCmd p (Head.setRange
        { h with axes := putKey (fun x => x.id) (newAxis p) h.axes, compute := { h.compute with changed := true } } (newAxis
        p).range fun x => if x.state = .unused then { x with state := .stopped } else x) [])) ∧
    (s.serves deleteAxisCmd p → ∀ a, targetAxis? p h = some a → exec (.deleteAxis p) s = .next (s.answered deleteAxisCmd p
        (h.removeAxis a) [])) ∧
    (s.serves axisEnableCmd p → ∀ a, targetAxis? p h = some a → exec (.axisEnable p) s = .next (s.answered axisEnableCmd p
        (h.enableAxis a) [])) ∧
    (s.serves axisDisableCmd p → s.room p → ∀ a, targetAxis? p h = some a → (a.profiled && a.state = .enabled && !a.atRest) =
        true → exec (.axisDisable p) s = .next (s.accepted axisDisableCmd p (h.startStop a true false .disable) [] (.disabled
        a.id))) ∧
    (s.serves axisDisableCmd p → ∀ a, targetAxis? p h = some a → (a.profiled && a.state = .enabled && !a.atRest) = false →
        exec (.axisDisable p) s = .next (s.answered axisDisableCmd p (h.disableNow a) []))

/-- Block 0x03: movers, bindings and tracks (R102-R117): each command of the block, served, ends in the state its
description gives. Where the rules leave room it states the model's own choice (log entries 16, 39 and 101). -/
def Obligations.MoverCommands : Prop :=
  ∀ (p : Packet) (s : State) (h : Head), s.taken p = h →
    (s.serves getMoverCmd p → ∀ m, h.mover? p.target = some m → exec (.getMover p) s = .next (s.answered getMoverCmd p h
        (pack [(2, m.axis), (1, m.track), (1, flag m.autoHandover 0 + flag m.notifyBind 1), (4, m.length), (4, m.lead), (4,
        m.lag), (4, m.hyst)] ++ leInt 4 m.coord ++ pack [(2, ((runEnds (h.held m.id)).map fun e => e.1).getD 0xFFFF), (1,
        (h.held m.id).length), (5, 0)]))) ∧
    (s.serves defineMoverCmd p → exec (.defineMover p) s = .next (s.answered defineMoverCmd p (Head.armHandover
        { h with movers := putKey (fun x => x.id) { id := p.target, axis := pu p 0 2, track := pu p 2 1, autoHandover := bit (pu p 3 1) 0, notifyBind := bit (pu p 3 1) 1, length := pu p 4 4, lead := pu p 8 4, lag := pu p 12 4, hyst := pu p 16 4, coord := ps p 20 4 } h.movers }
        p.target) [])) ∧
    (s.serves bindSegmentCmd p → exec (.bindSegment p) s = .next (s.answered bindSegmentCmd p (h.decideBinding p.target true
        (pu p 4 1) 1) (pack [(1, (((h.decideBinding p.target true (pu p 4 1) 1).axis? p.target).map fun a => a.epoch).getD
        0), (3, 0)]))) ∧
    (s.serves unbindSegmentCmd p → exec (.unbindSegment p) s = .next (s.answered unbindSegmentCmd p (h.decideBinding p.target
        false (pu p 4 1) 1) (pack [(1, (((h.decideBinding p.target false (pu p 4 1) 1).axis? p.target).map fun a =>
        a.epoch).getD 0), (3, 0)]))) ∧
    (s.serves setMoverTrackCmd p → ∀ m, (h.setMover p.target fun m =>
        { m with track := pu p 0 1, coord := ps p 4 4, calX := none }).mover? p.target = some m → exec (.setMoverTrack p) s =
        .next (s.answered setMoverTrackCmd p (((h.setMover p.target fun m =>
        { m with track := pu p 0 1, coord := ps p 4 4, calX := none }).rearmEntries m).armHandover m.id) [])) ∧
    (s.serves setGapCmd p → exec (.setGap p) s = .next (s.answered setGapCmd p
        ({ h with tracks := setAt p.target (fun (t : Track) => { t with gap := pu p 0 1 }) h.tracks }) []))

/-- Block 0x04: schedule, branches, nodes and lanes (R133-R164): each command of the block, served, ends in the state its
description gives. Where the rules leave room it states the model's own choice (log entries 16 and 102). -/
def Obligations.NetworkCommands : Prop :=
  ∀ (p : Packet) (s : State) (h : Head), s.taken p = h →
    (s.serves getScheduleCmd p → exec (.getSchedule p) s = .next (s.answered getScheduleCmd p h (h.scheduleReply (if pu p 0 1
        = 0 then h.net.kind else if pu p 0 1 = 1 then .base else .rescue)))) ∧
    (s.serves getBranchCmd p → exec (.getBranch p) s = .next (s.answered getBranchCmd p h (pack [(1, h.channelState p.target
        0), (1, h.channelState p.target 1), (1, (h.branch p.target).positions.length), (1, 0), (4, sumNat ((h.branch
        p.target).positions.zipIdx.map fun (x, i) => flag (x.state = .held) i)), (4, sumNat ((h.branch
        p.target).positions.zipIdx.map fun (x, i) => flag (x.state = .spur) i)), (4, (h.branch p.target).chanA.oow), (4,
        (h.branch p.target).chanB.oow), (2, (h.branch p.target).cuts), (2, (h.branch p.target).saddleLate), (2, maxDelay
        (h.branch p.target).positions 0), (2, maxDelay (h.branch p.target).positions 1)]))) ∧
    (s.serves getNodeCmd p → ∀ x, h.listedPosition? p.target = some x → exec (.getNode p) s = .next (s.answered getNodeCmd p
        h (pack [(1, slotCode x.state), (1, h.nodeAxes p.target), (2, 0), (8, if x.state = .held then x.identity else 0), (2,
        if x.state = .held then (x.delay 0).getD 0xFFFF else 0xFFFF), (2, if x.state = .held then (x.delay 1).getD 0xFFFF
        else 0xFFFF), (2, x.silent), (6, x.joinCycle)]))) ∧
    (s.serves restoreBranchCmd p → exec (.restoreBranch p) s = .next (s.answered restoreBranchCmd p (h.setBranch p.target fun
        b => b.setChan (pu p 0 1) fun z => { z with restoreDue := true }) [])) ∧
    (s.serves setJoinCmd p → exec (.setJoin p) s = .next (s.answered setJoinCmd p
        ({ h with net := { h.net with branches := h.net.branches.mapIdx fun i (b : Branch) => { b with joinMask := bit (pu p 0 4) i, joinRescue := bit (pu p 0 4) i } } })
        [])) ∧
    (s.serves releaseSlotCmd p → exec (.releaseSlot p) s = .next (s.answered releaseSlotCmd p (h.revoke p.target) [])) ∧
    (s.serves getLaneCmd p → p.target ≥ 32 → exec (.getLane p) s = .next (s.answered getLaneCmd p h (pack [(1, (h.lane
        p.target).link), (1, 0xFF), (1, flag (h.lane p.target).inverted 0), (1, 0), (4, (h.lane p.target).crcErr), (4,
        (h.lane p.target).lenErr), (4, (h.lane p.target).codeErr), (4, (h.lane p.target).diverge), (2, (h.lane
        p.target).los), (2, (h.lane p.target).slotLost)] ++ leInt 2 (h.lane p.target).calTemp ++ pack [(1, 0), (1, 0), (6,
        (h.lane p.target).calCycle), (2, 0)]))) ∧
    (s.serves getLaneCmd p → p.target < 32 → exec (.getLane p) s = .next (s.answered getLaneCmd p h (pack [(1, (h.lane
        p.target).link), (1, h.channelState p.target h.ownChannel), (1, flag (h.lane p.target).inverted 0), (1, (h.branch
        p.target).dyn.length), (4, (h.lane p.target).crcErr), (4, (h.lane p.target).lenErr), (4, (h.lane p.target).codeErr),
        (4, (h.lane p.target).diverge), (2, (h.lane p.target).los), (2, (h.lane p.target).slotLost)] ++ leInt 2 (h.lane
        p.target).calTemp ++ pack [(1, ((h.branch p.target).chan h.ownChannel).calState), (1, 0), (6, (h.lane
        p.target).calCycle), (2, 0)]))) ∧
    (s.serves calibrateLaneCmd p → s.room p → exec (.calibrateLane p) s = .next (s.accepted calibrateLaneCmd p (h.setBranch
        p.target fun b => b.setChan (pu p 0 1) fun z => { z with calState := 1 }) [] (.laneCalibrated (p.target + 32 * pu p 0
        1))))

/-- Block 0x05: time base, PTP ports, triggers and the calendar (R175-R199): each command of the block, served, ends in
the state its description gives. Where the rules leave room it states the model's own choice (log entries 3, 16 and 59).
-/
def Obligations.TimeCommands : Prop :=
  ∀ (p : Packet) (s : State) (h : Head), s.taken p = h →
    (s.serves getTimeCmd p → exec (.getTime p) s = .next (s.answered getTimeCmd p h (pack [(8, h.now % 2 ^ 64), (4,
        h.time.head % 2 ^ 32), (4, h.timeStatus), (6, h.time.cycle), (2, 0), (8, ofSigned 64 h.time.offset), (4, ofSigned 32
        (roundDiv (((h.time.incr : Int) - incrNominal) * 1000000000) incrNominal)), (8, ofSigned 64 h.time.stepDelta)]))) ∧
    (s.serves setTimeSourceCmd p → exec (.setTimeSource p) s = .next (s.answered setTimeSourceCmd p
        ({ h with time := { h.time with settings := some (pu p 0 1 = 1, pu p 1 1, pu p 2 1, pu p 3 1, pu p 4 4, pu p 8 4) } })
        [])) ∧
    (s.serves closeStepCmd p → exec (.closeStep p) s = .next (s.answered closeStepCmd p
        ({ h with time := { h.time with stepOpen := false, stepDue := none } }) [])) ∧
    (s.serves getPtpPortCmd p → exec (.getPtpPort p) s = .next (s.answered getPtpPortCmd p (h.setPtpPort p.target fun x =>
        { x with dropped := 0, overflow := x.overflow && pu p 0 1 = 0 }) (pack [(1, (h.ptpPort p.target).state), (1,
        (h.ptpPort p.target).stamps.length), (1, flag (h.ptpPort p.target).overflow 0), (1, 0), (4, (h.ptpPort
        p.target).dropped), (8, (h.ptpPort p.target).meanPath), (8, ofSigned 64 (h.ptpPort p.target).offset)]))) ∧
    (s.serves setPortLatencyCmd p → exec (.setPortLatency p) s = .next (s.answered setPortLatencyCmd p (h.setPtpPort p.target
        fun x => { x with txExt := ps p 0 4, rxExt := ps p 4 4 }) [])) ∧
    (s.serves setTriggerCmd p → ∀ g,
        ({ mode := pu p 0 1, div := pu p 1 1 + 1, phase := pu p 2 1, offset := pu p 4 2, start := pu p 8 8, period := pu p 16 4 * 65536 + pu p 6 2, merged := (h.time.triggers.getD p.target {}).merged }
        : Trigger) = g → exec (.setTrigger p) s = .next (s.answered setTriggerCmd p
        ({ h with time := { h.time with triggers := setAt p.target (fun _ => { g with next := if g.mode = 1 || g.mode = 2 then some (g.start * 65536) else (h.cycleInstant g).filter fun t => t > h.now * 65536 }) h.time.triggers } })
        [])) ∧
    (s.serves armContourCmd p → ∀ n m, h.freeHostEntry = some n → h.mover? (pu p 0 1) = some m → exec (.armContour p) s =
        .next (s.answered armContourCmd p ((h.noteChange (.calDef n (prm p))).putEntry
        { entry := n, mover := m.id, track := pu p 1 1, dir := pu p 2 1 % 4, rearm := bit (pu p 2 1) 2, notify := bit (pu p 2 1) 3, action := pu p 3 1, coord := ps p 4 4, hyst := pu p 8 4, param := padTo 16 ((prm p).drop 12), state := armState (pu p 2 1 % 4) (ps p 4 4) (pu p 8 4) m.here, fired := 0, last := 0, missed := false })
        (pack [(2, n), (1, flag (armState (pu p 2 1 % 4) (ps p 4 4) (pu p 8 4) m.here = .waiting) 0), (1, 0)]))) ∧
    (s.serves disarmContourCmd p → ∀ e, (h.cal.entries.find? fun e => e.entry = p.target) = some e → exec (.disarmContour p)
        s = .next (s.answered disarmContourCmd p ((h.noteChange (.calDef e.entry e.params)).freeEntry p.target) [])) ∧
    (s.serves getContourCmd p → ∀ e, (h.cal.entries.find? fun e => e.entry = p.target) = some e → exec (.getContour p) s =
        .next (s.answered getContourCmd p h (e.params ++ pack [(1, flag (e.state = .waiting) 0), (3, 0), (4, e.fired), (6,
        e.last)]))) ∧
    (s.serves getContourCmd p → (h.cal.entries.find? fun e => e.entry = p.target) = none → exec (.getContour p) s = .next
        (s.answered getContourCmd p ({ h with drawn := h.drawn + 2 }) (padTo 28 (Config.freeBytes h.drawn 28) ++ pack [(1,
        2), (3, 0)] ++ padTo 10 (Config.freeBytes (h.drawn + 1) 10))))

/-- Block 0x06: loops, coefficients, moves and limits (R217-R233): each command of the block, served, ends in the state
its description gives. Where the rules leave room it states the model's own choice (log entries 16, 31, 81 and 92). -/
def Obligations.LoopCommands : Prop :=
  ∀ (p : Packet) (s : State) (h : Head), s.taken p = h →
    (s.serves getLoopCmd p → ∀ a, targetAxis? p h = some a → exec (.getLoop p) s = .next (s.answered getLoopCmd p h (leInt 4
        (if a.profiled then roundDiv a.motion.xSet 65536 else 0) ++ leInt 4 (if a.kind = .stepper then 0 else if a.linear
        then (h.segmentObs a).used else (h.obsOf a).used) ++ leInt 4 (if a.profiled then a.motion.vSet else 0) ++ leInt 4 (if
        a.kind = .stepper then 0 else if a.linear then (h.segmentObs a).speed else (h.obsOf a).speed) ++ leInt 4 (if
        a.profiled then a.motion.aSet else 0) ++ leInt 3 a.loop.lastCmd ++ leInt 3 a.current.iD ++ leInt 3 a.current.iQ ++
        pack [(1, moveCode a.motion.move)] ++ a.loopBytes ++ pack [(4, a.loop.overruns), (2, 0)]))) ∧
    (s.serves setCoeffCmd p → s.room p → ∀ a, targetAxis? p h = some a → exec (.setCoeff p) s = .next (s.accepted setCoeffCmd
        p (h.setAxis a.id fun a => { a with pending := a.pending ++ coeffWords p }) (leBytes 6 (h.firstLanding a))
        (.coefficients a.id (a.pending.length + pu p 4 1)))) ∧
    (s.serves getCoeffCmd p → ∀ a, targetAxis? p h = some a → exec (.getCoeff p) s = .next (s.answered getCoeffCmd p h
        ((List.range 128).foldl (init := []) fun acc i => acc ++
        match coeffRow a.kind a.rotary (i % 64) with | some r => coeffContainer ((if i < 64 then a.coeff else a.coeffRescue).getD (i % 64) 0) r.1 | none => leBytes 4 0))) ∧
    (s.serves clearLoopFlagsCmd p → ∀ a, targetAxis? p h = some a → exec (.clearLoopFlags p) s = .next (s.answered
        clearLoopFlagsCmd p (h.setAxis a.id fun a =>
        { a with loop := { a.loop with sticky := a.loop.sticky &&& ~~~(BitVec.ofNat 16 (pu p 4 2) &&& 0x3FFF) } }) (pack [(2,
        a.loop.sticky.toNat), (2, 0)]))) ∧
    (s.serves moveToCmd p → s.room p → ∀ a, motionAxis? p h = some a → exec (.moveTo p) s = .next (s.accepted moveToCmd p
        (h.startMove a (ps p 0 4) h.moveSet) [] (.moved a.id))) ∧
    (s.serves moveLandingCmd p → s.room p → ∀ a m x, motionAxis? p h = some a → h.moverOfAxis? a.id = some m → (h.track
        m.track).landings[pu p 0 1]? = some x → exec (.moveLanding p) s = .next (s.accepted moveLandingCmd p (h.startMove a x
        h.moveSet) [] (.moved a.id))) ∧
    (s.serves stopMoverCmd p → ∀ a, motionAxis? p h = some a → a.atRest = true → exec (.stopMover p) s = .next (s.answered
        stopMoverCmd p h [])) ∧
    (s.serves stopMoverCmd p → s.room p → ∀ a, motionAxis? p h = some a → a.atRest = false → exec (.stopMover p) s = .next
        (s.accepted stopMoverCmd p (h.startStop a (pu p 0 1 = 1) false .rest) [] (.stopped a.id))) ∧
    (s.serves setLimitsCmd p → ∀ a, motionAxis? p h = some a → exec (.setLimits p) s = .next (s.answered setLimitsCmd p
        (h.setAxis a.id fun a =>
        { a with motion := { a.motion with limits := setAt (pu p 0 1) (fun _ => ⟨pu p 4 4, pu p 8 4, pu p 12 4⟩) a.motion.limits } })
        [])) ∧
    (s.serves setBlendCmd p → exec (.setBlend p) s = .next (s.answered setBlendCmd p (h.setMover p.target fun m =>
        { m with blend := pu p 0 1, magInset := pu p 4 4 }) [])) ∧
    (s.serves getOverrunCmd p → exec (.getOverrun p) s = .next (s.answered getOverrunCmd p h (pack [(4, h.heldLastSecond
        p.target), (4, h.holdLimit p.target), (4, (h.range p.target).peak), (2, (h.range p.target).holdFaults), (2, 0)])))

/-- Block 0x07: feedback channels, sensors and observers (R235-R257): each command of the block, served, ends in the state
its description gives. Where the rules leave room it states the model's own choice (log entries 16 and 103). -/
def Obligations.FeedbackCommands : Prop :=
  ∀ (p : Packet) (s : State) (h : Head), s.taken p = h →
    (s.serves getChannelCmd p → exec (.getChannel p) s = .next (s.answered getChannelCmd p h (pack [(1, (h.channel
        p.target).cfg.mode), (1, (h.channel p.target).cfg.use), (2, (h.channel p.target).flags.toNat), (4, (h.channel
        p.target).latched), (4, (h.channel p.target).indexCount)] ++ leInt 4 (h.channel p.target).indexDelta ++ pack [(8,
        (h.channel p.target).indexTime), (2, (h.channel p.target).quadErrors), (2, (h.channel p.target).aborts), (1, obsCode
        (h.channel p.target).obs.state), (1, (h.channel p.target).sector.getD 0xFF), (2, 0)] ++ leInt 4 (h.channel
        p.target).obs.units ++ leInt 4 (roundDiv (h.channel p.target).obs.v 65536)))) ∧
    (s.serves setChannelCmd p → exec (.setChannel p) s = .next (s.answered setChannelCmd p (h.setChannel p.target fun f =>
        { f with next := some (channelSetting p) }) [])) ∧
    (s.serves clearChannelFlagsCmd p → exec (.clearChannelFlags p) s = .next (s.answered clearChannelFlagsCmd p (h.setChannel
        p.target fun f => f.clearFlags (BitVec.ofNat 16 (pu p 0 2) &&& chW1c)) (pack [(2, (h.channel p.target).flags.toNat),
        (2, 0)]))) ∧
    (s.serves setSensorCmd p → exec (.setSensor p) s = .next (s.answered setSensorCmd p ((h.setAxis p.target fun a =>
        { a with sensor := sensorOf ((prm p).drop 8), wOrigin := ps p 4 4, mismatch := false, source := {} }).readSensor
        p.target) [])) ∧
    (s.serves setObserverCmd p → exec (.setObserver p) s = .next (s.answered setObserverCmd p (h.setObserver p.target fun o
        =>
        { o with next := some { bw := pu p 0 2, bwRescue := if p.target ≥ 0x2000 then o.bwRescue else pu p 2 2, gate := pu p 4 4, agree := pu p 8 4, predLimit := pu p 12 1, scaleOffset := ps p 16 4 } })
        [])) ∧
    (s.serves getObserverCmd p → ∀ o c, h.observer? p.target = some o → subject? p.target h = some (.channel c) → exec
        (.getObserver p) s = .next (s.answered getObserverCmd p h (o.bytes ++ pack [(4, o.sources), (4, flag (h.channel
        c).source.excluded 16)] ++ leInt 4 o.residual ++ pack [(2, o.windowErr), (2, o.stray), (1, flag o.clipped 0 + flag
        o.disagree 1), (3, 0)]))) ∧
    (s.serves getObserverCmd p → ∀ o a, h.observer? p.target = some o → subject? p.target h = some (.rotary a) → exec
        (.getObserver p) s = .next (s.answered getObserverCmd p h (o.bytes ++ pack [(4, o.sources), (4, flag (h.sourceRun
        a).excluded 0)] ++ leInt 4 o.residual ++ pack [(2, o.windowErr), (2, o.stray), (1, flag o.clipped 0 + flag o.disagree
        1), (3, 0)]))) ∧
    (s.serves getObserverCmd p → ∀ o m x, h.observer? p.target = some o → subject? p.target h = some (.mover m) → h.mover? m
        = some x → exec (.getObserver p) s = .next (s.answered getObserverCmd p h (o.bytes ++ pack [(4, o.sources), (4,
        h.sourceBits x fun n => (h.sourceRun n).excluded)] ++ leInt 4 o.residual ++ pack [(2, o.windowErr), (2, o.stray), (1,
        flag o.clipped 0 + flag o.disagree 1), (3, 0)])))

/-- Blocks 0x08 and 0x09: placement, dispatch and custom operations (R264-R316): each command of the block, served, ends
in the state its description gives. Where the rules leave room it states the model's own choice (log entries 16, 33, 34,
36 and 55). -/
def Obligations.PlacerCommands : Prop :=
  ∀ (p : Packet) (s : State) (h : Head), s.taken p = h →
    (s.serves getPlacementCmd p → ∀ a, targetAxis? p h = some a → exec (.getPlacement p) s = .next (s.answered
        getPlacementCmd p h (pack [(1, a.place.tile), (1, a.place.core), (1, placeStateCode a.place.state), (1, if
        a.place.tile < 16 then hops (h.homeTile a) a.place.tile else 0), (1, a.place.hintKind), (1, a.place.hintState), (2,
        h.plannedTor a), (4, a.place.migrations), (6, a.place.lastCommit), (2, 0)]))) ∧
    (s.serves getTileLoadCmd p → exec (.getTileLoad p) s = .next (s.answered getTileLoadCmd p
        ({ h with compute := { h.compute with sagFactor := h.sagFactor, tiles := h.compute.tiles.map fun (x : Tile) => { x with uPeak := 0, preempts := 0 } } })
        (pack [(4, h.window), (1, h.sagFactor), (1, h.compute.shedLevel), (2, 0)] ++ (List.range 16).foldl (init := []) fun
        acc t => acc ++ pack [(1, tileStateCode (h.tile t).state), (1, 0), (1, ((h.tile t).slots.filter
        TerrainSlot.inUse).length), (1, flag (h.tile t).weightRaised 0 + flag (h.tile t).placeShort 1), (2, ((List.range
        4).map fun c => h.coreLoad t c).foldl max 0), (2, h.engineLoad t), (1, (h.tile t).uLast), (1, (h.tile t).uPeak), (2,
        (h.tile t).preempts), (2, (h.tile t).commits), (2, (h.onTile t).length)]))) ∧
    (s.serves setAffinityCmd p → exec (.setAffinity p) s = .next (s.answered setAffinityCmd p
        ({ (h.setPlace (p.target % 4096) fun x => { x with hintKind := pu p 4 1, hintOther := pu p 6 2, hintState := 0 }) with compute := { h.compute with changed := true } })
        [])) ∧
    (s.serves setDispatchCmd p → exec (.setDispatch p) s = .next (s.answered setDispatchCmd p
        ({ h with compute := { h.compute with weights := setAt p.target (fun _ => some (pu p 0 1)) h.compute.weights, delivery := setAt p.target (fun _ => some (pu p 1 1 = 1)) h.compute.delivery } })
        [])) ∧
    (s.serves setPlacerCmd p → exec (.setPlacer p) s = .next (s.answered setPlacerCmd p
        ({ h with compute := { h.compute with placeCapNext := some (pu p 0 1), shedHigh := pu p 1 1, shedLow := pu p 2 1, leadTime := pu p 4 2, windowWords := pu p 6 2, restoreMs := pu p 8 2, rehomeGap := pu p 10 2 } })
        [])) ∧
    (s.serves getModuleCmd p → ∀ m, h.module? p.target = some m → exec (.getModule p) s = .next (s.answered getModuleCmd p h
        (pack [(1, flag m.massif 0), (1, m.entries.length), (2, m.holdoff), (4, m.version), (4, m.bytes), (2, h.attachedCount
        m.id), (1, m.keySlot), (1, flag m.byCommand 0), (4, m.faults), (4, 0)]))) ∧
    (s.serves loadModuleCmd p → ∀ total file, addChunks (loadOf p h) (chunks p) = some (total, file) → file.length ≠ total →
        exec (.loadModule p) s = .next (s.answered loadModuleCmd p
        ({ h with compute := { h.compute with loading := some (p.target, total, file, h.now) } }) [])) ∧
    (s.serves loadModuleCmd p → s.room p → ∀ total file e, addChunks (loadOf p h) (chunks p) = some (total, file) →
        file.length = total → Head.finishModule { h with compute := { h.compute with loading := none } } p file = e → exec
        (.loadModule p) s = .next (s.accepted loadModuleCmd p e.head [] .moduleChecked e.final)) ∧
    (s.serves deleteModuleCmd p → exec (.deleteModule p) s = .next (s.answered deleteModuleCmd p
        ({ h with compute := { h.compute with modules := h.compute.modules.filter fun m => m.id ≠ p.target } }) [])) ∧
    (s.serves attachOperationCmd p → ∀ m e, attachEntry? p h = some (m, e) → exec (.attachOperation p) s = .next (s.answered
        attachOperationCmd p
        ({ (h.setAxis (p.target % 4096) fun a => a.attach m e (pu p 6 1)) with compute := { h.compute with changed := true } })
        [])) ∧
    (s.serves detachOperationCmd p → exec (.detachOperation p) s = .next (s.answered detachOperationCmd p
        ({ (h.setAxis (p.target % 4096) fun a => { a with hooks := a.hooks.filter fun x => x.hook ≠ pu p 4 1 }) with compute := { h.compute with changed := true } })
        []))

/-- Block 0x0A: stepper axes (R317-R338): each command of the block, served, ends in the state its description gives.
Where the rules leave room it states the model's own choice (log entries 16 and 30). -/
def Obligations.StepperCommands : Prop :=
  ∀ (p : Packet) (s : State) (h : Head), s.taken p = h →
    (s.serves getStepperCmd p → ∀ a, stepAxis? p h = some a → exec (.getStepper p) s = .next (s.answered getStepperCmd p h
        (leInt 4 (roundDiv (a.step.at h.now).1 65536) ++ leInt 4 (a.step.at h.now).2 ++ leInt 4 a.step.target ++ pack [(2,
        h.stepFlags a)] ++ leInt 2 (a.step.lambda.getD (-32768)) ++ leInt 3 a.step.amplitude ++ pack [(1, stepCode
        a.step.state)] ++ leInt 4 a.step.encOffset))) ∧
    (s.serves setStepperCmd p → ∀ a, stepAxis? p h = some a → exec (.setStepper p) s = .next (s.answered setStepperCmd p
        (h.setStep a.id fun s => { s with cfg := stepSetting p }) [])) ∧
    (s.serves setStepperLimitsCmd p → ∀ a, stepAxis? p h = some a → exec (.setStepperLimits p) s = .next (s.answered
        setStepperLimitsCmd p (h.setStep a.id fun s =>
        { s with limits := setAt (pu p 4 1) (fun _ => (pu p 8 4, pu p 12 4)) s.limits }) [])) ∧
    (s.serves moveStepperCmd p → s.room p → ∀ a, stepAxis? p h = some a → exec (.moveStepper p) s = .next (s.accepted
        moveStepperCmd p (h.startSteps a (h.stepTarget a (pu p 4 1 = 1) (ps p 8 4)) h.now) [] (.stepped a.id))) ∧
    (s.serves moveGroupCmd p → s.room p → ∀ k leader, h.startGroup (groupMembers p h) = (k, leader) → exec (.moveGroup p) s =
        .next (s.accepted moveGroupCmd p k [] (.stepped leader))) ∧
    (s.serves stopStepperCmd p → ∀ a, stepAxis? p h = some a → a.step.atRest = true → exec (.stopStepper p) s = .next
        (s.answered stopStepperCmd p h [])) ∧
    (s.serves stopStepperCmd p → s.room p → ∀ a, stepAxis? p h = some a → a.step.atRest = false → exec (.stopStepper p) s =
        .next (s.accepted stopStepperCmd p (h.stopSteps a (if pu p 4 1 = 1 then 1 else if a.step.state = .homing then 2 else
        0) (pu p 4 1 = 1) false Status.stepStopped) [] (.stepStopped a.id))) ∧
    (s.serves homeStepperCmd p → s.room p → ∀ a, stepAxis? p h = some a → exec (.homeStepper p) s = .next (s.accepted
        homeStepperCmd p (h.startHoming a (homingOf p)) [] (.homed a.id))) ∧
    (s.serves setMoveDescCmd p → ∀ a, stepAxis? p h = some a → exec (.setMoveDesc p) s = .next (s.answered setMoveDescCmd p
        (h.setStep a.id fun s => { s with descs := setAt (pu p 4 1) (fun _ => (pu p 5 1, ps p 8 4)) s.descs }) [])) ∧
    (s.serves clearStepperFlagsCmd p → ∀ a, stepAxis? p h = some a → exec (.clearStepperFlags p) s = .next (s.answered
        clearStepperFlagsCmd p (h.setStep a.id fun s =>
        { s with flags := s.flags &&& ~~~(BitVec.ofNat 16 (pu p 4 2) &&& 0x1FC0) }) (pack [(2, h.stepFlags a), (2, 0)])))

/-- Blocks 0x0B and 0x0C: probes, streams, trigger units, captures and converters (R339-R374): each command of the block,
served, ends in the state its description gives. Where the rules leave room it states the model's own choice (log entries
3, 16, 56 and 59). -/
def Obligations.AcquisitionCommands : Prop :=
  ∀ (p : Packet) (s : State) (h : Head), s.taken p = h →
    (s.serves getStreamCmd p → (h.stream p.target).cfg = none → exec (.getStream p) s = .next (s.answered getStreamCmd p h
        (pack [(1, (h.stream p.target).state), (1, 0xFF), (2, 0), (8, (h.stream p.target).producer), (8, (h.stream
        p.target).lost), (4, (h.stream p.target).gaps), (4, (h.stream p.target).stagedBytes)]))) ∧
    (s.serves getStreamCmd p → ∀ c, (h.stream p.target).cfg = some c → exec (.getStream p) s = .next (s.answered getStreamCmd
        p h (pack [(1, (h.stream p.target).state), (1, flag c.adc 0), (2, h.frameBytes c), (8, (h.stream p.target).producer),
        (8, (h.stream p.target).lost), (4, (h.stream p.target).gaps), (4, (h.stream p.target).stagedBytes)]))) ∧
    (s.serves setProbeCmd p → exec (.setProbe p) s = .next (s.answered setProbeCmd p
        ({ h with acq := { h.acq with probes := setAt p.target (fun x => { x with axis := pu p 4 2, signal := pu p 6 1, valid := false }) h.acq.probes } })
        [])) ∧
    (s.serves setStreamCmd p → exec (.setStream p) s = .next (s.answered setStreamCmd p (h.setStreamOf p.target fun s =>
        { s with cfg := some (streamSetting p) }) [])) ∧
    (s.serves streamStartCmd p → exec (.streamStart p) s = .next (s.answered streamStartCmd p ((h.setStreamOf p.target fun s
        =>
        { s with state := 1, producer := 0, consumer := 0, seq := 0, lost := 0, next := 0, frames := [], staged := [], gap := none, marks := [], lostTriggers := 0, paused := false, stopping := false, recent := [] }).writeControl
        p.target) [])) ∧
    (s.serves streamStopCmd p → (h.stream p.target).state = 1 → exec (.streamStop p) s = .next (s.answered streamStopCmd p
        ((h.setStreamOf p.target fun s => { (Stream.close p.target s) with stopping := true }).endStop p.target) [])) ∧
    (s.serves streamStopCmd p → (h.stream p.target).state ≠ 1 → exec (.streamStop p) s = .next (s.answered streamStopCmd p h
        [])) ∧
    (s.serves setTrigUnitCmd p → exec (.setTrigUnit p) s = .next (s.answered setTrigUnitCmd p (h.setUnit p.target fun x =>
        { x with cfg := some (unitSetting p), last := none, lastSample := none, records := [], ignore := 0 }) [])) ∧
    (s.serves armUnitCmd p → pu p 0 1 = 1 → exec (.armUnit p) s = .next (s.answered armUnitCmd p (h.setUnit p.target fun x =>
        x.rearm) [])) ∧
    (s.serves armUnitCmd p → pu p 0 1 = 0 → exec (.armUnit p) s = .next (s.answered armUnitCmd p (h.setUnit p.target fun x =>
        { x with state := .idle, ignore := 0 }) [])) ∧
    (s.serves forceTriggerCmd p → ∀ k fired, h.fireAt p.target (h.now * 256) true = (k, fired) → exec (.forceTrigger p) s =
        .next (s.answered forceTriggerCmd p k (pack [(1, flag fired 0), (3, 0)]))) ∧
    (s.serves getTrigUnitCmd p → exec (.getTrigUnit p) s = .next (s.answered getTrigUnitCmd p h (pack [(1,
        match (h.unit p.target).state with | .idle => 0 | .arming => 1 | .armed => 2 | .holdoff => 3), (3, 0), (4, (h.unit
        p.target).count), (4, (h.unit p.target).suppressed), (8, (h.unit p.target).lastTime / 256)]))) ∧
    (s.serves startCaptureCmd p → s.room p → exec (.startCapture p) s = .next (s.accepted startCaptureCmd p
        ({ (h.setUnit p.target fun x => { x.rearm with records := [], lastSample := none }) with acq := { (h.setUnit p.target fun x => { x.rearm with records := [], lastSample := none }).acq with segments := [], capture := some { unit := p.target, segments := pu p 0 2, seen := 0 } } })
        [] .captured)) ∧
    (s.serves abortCaptureCmd p → exec (.abortCapture p) s = .next (s.answered abortCaptureCmd p h.endCapture [])) ∧
    (s.serves readSegmentCmd p → exec (.readSegment p) s = .next (s.answered readSegmentCmd p h (((h.acq.segments.getD
        p.target []).drop (pu p 0 4)).take 4064))) ∧
    (s.serves getAdcCmd p → exec (.getAdc p) s = .next (s.answered getAdcCmd p h (pack [(1, if h.paired p.target then 3 else
        (h.adc p.target).want.mode), (1, (h.adc p.target).want.res), (1, flag (h.adc p.target).want.left 0), (1, (h.adc
        p.target).trigger), (4, (h.adc p.target).missed), (8, (h.adc p.target).passes)] ++ (h.adc p.target).words ++ leInt 2
        (h.adc p.target).calTemp ++ [0, 0]))) ∧
    (s.serves setAdcCmd p → exec (.setAdc p) s = .next (s.answered setAdcCmd p (h.setAdc p.target fun a =>
        { a with nextCfg := some (adcSetting p), interrupted := true }) [])) ∧
    (s.serves setAdcTriggerCmd p → exec (.setAdcTrigger p) s = .next (s.answered setAdcTriggerCmd p (h.setAdc p.target fun a
        => { a with trigger := pu p 0 1, interrupted := a.interrupted || (bit a.trigger 7 && !bit (pu p 0 1) 7) }) [])) ∧
    (s.serves setInputCmd p → exec (.setInput p) s = .next (s.answered setInputCmd p
        ({ h with acq := { h.acq with inputs := setAt p.target (fun _ => { pull := pu p 0 1, owCount := pu p 1 1, owMargin := pu p 2 2 }) h.acq.inputs } })
        [])) ∧
    (s.serves readChannelCmd p → ∀ l, (h.acq.latest.find? fun l => l.code = p.target) = some l → exec (.readChannel p) s =
        .next (s.answered readChannelCmd p h (pack [(2, l.result), (1, 1 + flag l.isOpen 1 + flag (isDiff p.target) 2), (1,
        l.adc), (8, l.time)]))) ∧
    (s.serves readChannelCmd p → (h.acq.latest.find? fun l => l.code = p.target) = none → exec (.readChannel p) s = .next
        (s.answered readChannelCmd p ({ h with drawn := h.drawn + 1 }) (padTo 2 (Config.freeBytes h.drawn 12) ++ leBytes 1
        (flag (isDiff p.target) 2) ++ padTo 9 ((Config.freeBytes h.drawn 12).drop 3)))) ∧
    (s.serves calibrateAdcCmd p → s.room p → pu p 0 1 = 0 → exec (.calibrateAdc p) s = .next (s.accepted calibrateAdcCmd p
        (h.setAdc p.target fun a => { a with calibrating := true, interrupted := true }) [] (.adcCalibrated p.target))) ∧
    (s.serves calibrateAdcCmd p → s.room p → pu p 0 1 = 1 → exec (.calibrateAdc p) s = .next (s.accepted calibrateAdcCmd p
        (h.setAdc p.target fun a => { a with skewing := true }) [] (.adcCalibrated p.target)))

/-- Block 0x0D: the redundant pair (R375-R398): each command of the block, served, ends in the state its description
gives. Where the rules leave room it states the model's own choice (log entries 16 and 62). -/
def Obligations.RedundancyCommands : Prop :=
  ∀ (p : Packet) (s : State) (h : Head), s.taken p = h →
    (s.serves getRedundancyCmd p → ∀ training granted : Bool, ((List.range 8).any fun i => (h.lane (32 + i)).link = 1 ||
        (h.lane (32 + i)).link = 2) = training → (if h.commands then h.peer.grant.isSome else bit h.peer.flags 2) = granted →
        exec (.getRedundancy p) s = .next (s.answered getRedundancyCmd p h (pack [(1, roleCode h.sys.role), (1,
        h.peerRole?.getD 0xFF), (1, if h.peer.saddleUp then 2 else flag training 0), (1,
        match h.peer.mirror with | .none => 0 | .syncing => 1 | .ready => 2), (2, h.claim), (2, h.peer.claim), (1, flag
        h.peer.returnEnable 0 + flag h.peer.hotReturn 1 + flag granted 2 + flag (h.peer.state.isSome && h.peer.digest ≠
        h.imageDigest) 3 + flag h.peer.logFull 4), (1, h.peer.missed), (2, if h.sys.role = .standby then h.peer.witness.1
        else 0), (4, h.peer.takeovers), (4, h.peer.diverged), (6, h.peer.roleCycle), (6, if h.commands then h.peer.grant.getD
        0 else if granted then h.peer.returnCycle else 0), (4, h.peer.saddleDelay), (4, h.peer.settingSeq)]))) ∧
    (s.serves setReturnCmd p → ∀ k,
        ({ h with peer := { h.peer with returnEnable := bit (pu p 0 1) 0, hotReturn := bit (pu p 0 1) 1 } } : Head) = k →
        exec (.setReturn p) s = .next (s.answered setReturnCmd p (if k.commands && !bit (pu p 0 1) 0 && k.peer.grant.any (fun
        r => k.time.cycle + 2 < r) then k.withdrawGrant else k.judgeReturn) [])) ∧
    (s.serves switchoverCmd p → s.room p → h.commands = true → exec (.switchover p) s = .next (s.accepted switchoverCmd p
        ({ h with peer := { h.peer with grant := some (h.time.cycle + 16), switchover := some (bit (pu p 0 1) 0) } }) (pack
        [(6, h.time.cycle + 16), (2, 0)]) .handover)) ∧
    (s.serves resyncPeerCmd p → s.room p → h.commands = true → exec (.resyncPeer p) s = .next (s.accepted resyncPeerCmd p
        (Head.startBulk { h with peer := { h.peer with resync := true } }) [] .peerReady))

/-- Block 0x0E: faults and belay (R399-R420): each command of the block, served, ends in the state its description gives.
Where the rules leave room it states the model's own choice (log entries 16, 64, 65 and 83). -/
def Obligations.FaultCommands : Prop :=
  ∀ (p : Packet) (s : State) (h : Head), s.taken p = h →
    (s.serves getFaultSummaryCmd p → exec (.getFaultSummary p) s = .next (s.answered getFaultSummaryCmd p h (pack ((4,
        h.faultStatus) :: (h.firstFaultWords.map fun w => (4, w)) ++ [(2, h.faults.kickLast), (2, 0), (4, sumNat ((List.range
        8).map fun r => flag ((h.range r).state = .belay) r))])))) ∧
    (s.serves getFaultsCmd p → ∀ l, (h.latch? p.target).getD
        { source := p.target, word := 0, counts := [], firstCycle := none } = l → exec (.getFaults p) s = .next (s.answered
        getFaultsCmd p h (pack [(4, l.word.toNat), (4, sumNat ((List.range (severities (p.target / 4096)).length).map fun c
        => flag (h.causePresent p.target c) c)), (6, l.firstCycle.getD 0), (2, 0)] ++ ((List.range 32).map fun c => leBytes 2
        (((l.counts.find? fun x => x.1 == c).map fun x => x.2.1).getD 0)).flatten))) ∧
    (s.serves listFaultsCmd p → ∀ ls, (h.faults.latches.filter fun l => l.source ≥ pu p 0 2 && l.reaches (pu p 2 1)) = ls →
        exec (.listFaults p) s = .next (s.answered listFaultsCmd p h (pack [(2, (ls.take 255).length), (2, ((ls.drop
        255).head?.map fun l => l.source).getD 0xFFFF)] ++ ((ls.take 255).map fun l => pack [(2, l.source), (2, 0), (4,
        l.word.toNat)]).flatten))) ∧
    (s.serves clearFaultCmd p → ∀ k, h.clearCodes p.target (pu p 0 4) = k → exec (.clearFault p) s = .next (s.answered
        clearFaultCmd p (k.post 0x0E02 4 p.target [(4, (h.maskedCodes p.target (pu p 0 4)).toNat), (2, p.target), (1,
        ((k.latch? p.target).bind fun l => l.highest).getD 0xFF)]) (leBytes 4 (h.latchWord p.target).toNat))) ∧
    (s.serves clearFirstFaultCmd p → exec (.clearFirstFault p) s = .next (s.answered clearFirstFaultCmd p
        ({ h with faults := { h.faults with first := none, reports := [] } }) [])) ∧
    (s.serves setAliveCmd p → exec (.setAlive p) s = .next (s.answered setAliveCmd p
        ({ h with faults := { h.faults with aliveHzNext := some (pu p 0 2), kickTimeout := pu p 2 1 } }) [])) ∧
    (s.serves setBelayConfigCmd p → exec (.setBelayConfig p) s = .next (s.answered setBelayConfigCmd p
        ({ h with faults := { h.faults with aRanges := pu p 0 1, bRanges := pu p 1 1, aLocal := bit (pu p 2 1) 0, bLocal := bit (pu p 2 1) 1, safeInRanges := pu p 3 1, discrepancyMs := pu p 4 2, faultNSev := pu p 6 1 } })
        [])) ∧
    (s.serves setOutputGroupCmd p → exec (.setOutputGroup p) s = .next (s.answered setOutputGroupCmd p
        ({ h with faults := { h.faults with outputs := setAt (if p.target < 4 then p.target else p.target - 12) (fun _ => { group := pu p 0 1, safeHigh := pu p 1 1 = 1 }) h.faults.outputs } })
        []))

/-- Block 0x0F: lifecycle, keys and images (R421-R437): each command of the block, served, ends in the state its
description gives. Where the rules leave room it states the model's own choice (log entries 3, 16, 66, 67 and 91). -/
def Obligations.SecurityCommands : Prop :=
  ∀ (p : Packet) (s : State) (h : Head), s.taken p = h →
    (s.serves getSecurityCmd p → ∀ i st, h.sec.failed.getD (0, 0) = (i, st) → exec (.getSecurity p) s = .next (s.answered
        getSecurityCmd p h (pack [(1, h.sec.lifecycleNow), (1, h.usableSlots + h.sec.revoked % 16 * 16), (1, h.sec.rollback),
        (1, h.sec.debugLevel % 4 + flag (h.sec.debugSession.any fun d => d.token) 2), (8, h.sec.deviceId), (4, if
        h.sec.record.isEmpty then 0 else imageGeneration h.sec.record), (1, h.sec.recordCopy), (1, st / 256), (2, i), (2,
        st), (2, sumNat (h.sec.sessions.map fun s => 2 ^ s.id)), (4, h.sec.authFail), (8, h.imageDigest)]))) ∧
    (s.serves provisionCmd p → ∀ k, (h.drawNat.2.fuseKeys (provisionHash p 0) ([1, 2, 3, 4].map (provisionHash p))) = k →
        exec (.provision p) s = .next (s.answered provisionCmd p (Head.postHost
        { k with sec := { k.sec with lifecycle := 1 } } 0x0F02 0xFFFF p) [])) ∧
    (s.serves setLifecycleCmd p → pu p 0 1 = 2 → exec (.setLifecycle p) s = .next (s.answered setLifecycleCmd p
        (Head.postHost { h with sec := { h.sec with lifecycle := 2, lifecycleNow := 2 } } 0x0F02 0xFFFF p) [])) ∧
    (s.serves setLifecycleCmd p → pu p 0 1 = 3 → exec (.setLifecycle p) s = .next (s.answered setLifecycleCmd p
        (h.retire.postHost 0x0F02 0xFFFF p) [])) ∧
    (s.serves revokeKeyCmd p → exec (.revokeKey p) s = .next (s.answered revokeKeyCmd p
        ({ h with sec := { h.sec with revoked := h.sec.revoked ||| 2 ^ pu p 0 1 } }) [])) ∧
    (s.serves advanceRollbackCmd p → exec (.advanceRollback p) s = .next (s.answered advanceRollbackCmd p
        ({ h with sec := { h.sec with rollback := pu p 0 1 } }) [])) ∧
    (s.serves writeImageCmd p → ∀ total file, fileAfter p h = some (total, file) → file.length ≠ total → exec (.writeImage p)
        s = .next (s.answered writeImageCmd p
        ({ h with sec := { h.sec with transfer := some { total, object := writeSet p, bytes := file, last := h.now } } })
        [])) ∧
    (s.serves writeImageCmd p → s.room p → ∀ total file k ok, fileAfter p h = some (total, file) → file.length = total →
        Head.writeImage { h with sec := { h.sec with transfer := none } } (writeSet p) file = (k, ok) → exec (.writeImage p)
        s = .next (s.accepted writeImageCmd p k [] .imageWritten (some (if ok then Status.ok else Status.flashError, [])))) ∧
    (s.serves debugChallengeCmd p → exec (.debugChallenge p) s = .next (s.answered debugChallengeCmd p
        ({ h with sec := { h.sec with debugNonce := some (padTo 16 (Config.freeBytes h.drawn 16), h.now) }, drawn := h.drawn + 1 })
        (padTo 16 (Config.freeBytes h.drawn 16)))) ∧
    (s.serves debugOpenCmd p → needsToken p h = false → exec (.debugOpen p) s = .next (s.answered debugOpenCmd p
        (Head.hostDebug
        { h with sec := { h.sec with debugSession := some { session := p.session, ends := none, token := false } } } (pu p 0
        1) p) [])) ∧
    (s.serves debugOpenCmd p → needsToken p h = true → exec (.debugOpen p) s = .next (s.answered debugOpenCmd p
        (Head.hostDebug
        { h with sec := { h.sec with debugSession := some { session := p.session, ends := some (h.now + field (debugToken p) 10 2 * 1000000000), token := true }, debugNonce := none } }
        (pu p 0 1) p) [])) ∧
    (s.serves debugCloseCmd p → exec (.debugClose p) s = .next (s.answered debugCloseCmd p (Head.hostDebug
        { h with sec := { h.sec with debugSession := none } } 0 p) []))

/-- Block 0x10: supply, RTC and backup domain (R438-R460): each command of the block, served, ends in the state its
description gives. Where the rules leave room it states the model's own choice (log entries 3, 16 and 71). -/
def Obligations.PowerCommands : Prop :=
  ∀ (p : Packet) (s : State) (h : Head), s.taken p = h →
    (s.serves getPowerCmd p → exec (.getPower p) s = .next (s.answered getPowerCmd p
        ({ h with drawn := h.drawn + 2, power := { h.power with bkupLow := Config.freeNat h.drawn % 65536 < 2200 } }) (pack
        [(4, ({ h with power := { h.power with bkupLow := Config.freeNat h.drawn % 65536 < 2200 } } : Head).powerStatus), (4,
        h.clockStatus), (4, h.pllStatus), (2, Config.freeNat h.drawn)] ++ padTo 14 (Config.freeBytes (h.drawn + 1) 14) ++
        leBytes 4 h.power.stretches))) ∧
    (s.serves setPowerConfigCmd p → exec (.setPowerConfig p) s = .next (s.answered setPowerConfigCmd p (h.setPower fun x =>
        { x with vinLowLevel := pu p 0 2, ldLimitLevel := pu p 2 1, pfdLimitLevel := pu p 3 1, bkupCharge := bit (pu p 4 1) 0 })
        [])) ∧
    (s.serves getRtcCmd p → exec (.getRtc p) s = .next (s.answered getRtcCmd p h (h.backup.now.bytes h.backup.now.weekday ++
        pack [(2, h.backup.ticks), (1, flag h.backup.retValid 0 + flag h.backup.timeLost 1 + flag h.backup.centuryWrap 2 +
        flag h.backup.alarmFlag 3 + flag h.backup.alarm.isSome 4 + flag h.backup.sync 5)] ++ leInt 1 h.backup.trim ++
        (match h.backup.alarm with | some a => a.bytes 0 | none => List.replicate 8 0)))) ∧
    (s.serves setRtcCmd p → bit (pu p 8 1) 0 = true → exec (.setRtc p) s = .next (s.answered setRtcCmd p ((h.writeRtc
        (dateParam p) 0 (some p)).setBackup fun b => { b with centuryWrap := false }) [])) ∧
    (s.serves setRtcCmd p → bit (pu p 8 1) 0 = false → exec (.setRtc p) s = .next (s.answered setRtcCmd p (h.writeRtc
        (dateParam p) 0 (some p)) [])) ∧
    (s.serves setRtcAlarmCmd p → exec (.setRtcAlarm p) s = .next (s.answered setRtcAlarmCmd p (h.setBackup fun b =>
        { b with alarmFlag := false, alarm := if pu p 8 1 = 1 then some (dateParam p) else none }) [])) ∧
    (s.serves setRtcConfigCmd p → exec (.setRtcConfig p) s = .next (s.answered setRtcConfigCmd p (h.setBackup fun b =>
        { b with trim := ps p 0 1, sync := bit (pu p 1 1) 0, syncDue := b.syncDue && bit (pu p 1 1) 0 }) [])) ∧
    (s.serves readBackupCmd p → exec (.readBackup p) s = .next (s.answered readBackupCmd p h (pack ([(1, sumNat
        (h.backup.words.mapIdx fun n w => flag w.isSome n)), (1, 0), (2, h.backup.lastEpoch % 4096)] ++ h.backup.words.map
        fun w => (4, w.getD 0))))) ∧
    (s.serves writeBackupCmd p → exec (.writeBackup p) s = .next (s.answered writeBackupCmd p (h.setBackup fun b =>
        { b with words := setAt (pu p 0 1) (fun _ => some (pu p 4 4)) b.words }) []))

/-- Block 0x11: balls and field inputs and outputs (R461-R471): each command of the block, served, ends in the state its
description gives. Where the rules leave room it states the model's own choice (log entries 3, 16 and 57). -/
def Obligations.PinCommands : Prop :=
  ∀ (p : Packet) (s : State) (h : Head), s.taken p = h →
    (s.serves getPinCmd p → p.target < 40 → exec (.getPin p) s = .next (s.answered getPinCmd p
        ({ h with drawn := h.drawn + 1 }) (pack [(1, (h.pin p.target).set.func), (1,
        match (h.pin p.target).staged with | some s => s.func | none => 0xFF), (1, h.pinState p.target (bit (Config.freeNat
        h.drawn) 0)), (1, 0), (8, 0)]))) ∧
    (s.serves getPinCmd p → p.target = 0x100 → exec (.getPin p) s = .next (s.answered getPinCmd p
        ({ h with drawn := h.drawn + 1 }) (pack [(1, Config.freeNat h.drawn % 256), (1, 0xFF), (1, 8 * (Config.freeNat
        h.drawn / 256 % 2)), (1, 0), (8, h.pins.ppsIn)]))) ∧
    (s.serves setPinCmd p → exec (.setPin p) s = .next (s.answered setPinCmd p (h.setPin p.target fun x =>
        { x with staged := some { func := pu p 0 1, output := bit (pu p 1 1) 0, initLevel := bit (pu p 1 1) 1, pull := bits (pu p 1 1) 3 2, parkHold := bit (pu p 1 1) 4, trigWidth := pu p 2 1 } })
        [])) ∧
    (s.serves commitPinsCmd p → exec (.commitPins p) s = .next (s.answered commitPinsCmd p
        ({ h with drawn := h.drawn + 1, pins := { h.pins with parkClks := pu p 0 1, gp := h.pins.gp.map (Pin.commit (h.now + 1 + Config.freeNat h.drawn % 10 + 10 * pu p 0 1)) } })
        (pack [(1, (h.pins.gp.filter Pin.changes).length), (3, 0), (8, h.now + 1 + Config.freeNat h.drawn % 10)]))) ∧
    (s.serves setGpioCmd p → exec (.setGpio p) s = .next (s.answered setGpioCmd p ((maskedPins p).foldl (init := h) fun (h :
        Head) k => h.setPin k fun x => x.write (bit (pu p 8 8) k)) [])) ∧
    (s.serves getFieldIoCmd p → exec (.getFieldIo p) s = .next (s.answered getFieldIoCmd p h (pack [(4, h.finMask fun x =>
        x.level), (4, h.finMask fun x => x.isOpen), (4, h.finMask fun x => x.reversed), (1, h.foutMask (fun x => x.written) +
        16 * h.foutMask fun x => x.on), (1, h.foutMask (fun x => x.short) + 16 * h.foutMask fun x => x.openLoad), (2, 0), (8,
        h.pins.snapTime)]))) ∧
    (s.serves setFieldInputCmd p → exec (.setFieldInput p) s = .next (s.answered setFieldInputCmd p (h.setFieldIn p.target
        fun f =>
        { f with debounce := pu p 0 2, openDetect := bit (pu p 2 1) 0, invalidLevel := bit (pu p 2 1) 1, isOpen := f.isOpen && bit (pu p 2 1) 0, level := ({ f with debounce := pu p 0 2, openDetect := bit (pu p 2 1) 0, invalidLevel := bit (pu p 2 1) 1, isOpen := f.isOpen && bit (pu p 2 1) 0 } : FieldInput).seen })
        [])) ∧
    (s.serves setFieldOutputCmd p → ∀ k, h.localOutput p.target (pu p 0 1 = 1) = .ok k → exec (.setFieldOutput p) s = .next
        (s.answered setFieldOutputCmd p k [])) ∧
    (s.serves setFoutConfigCmd p → exec (.setFoutConfig p) s = .next (s.answered setFoutConfigCmd p (h.setFieldOut p.target
        fun o =>
        { o with retryMs := pu p 0 2, offDiag := bit (pu p 2 1) 0, openLoad := o.openLoad && (o.on || bit (pu p 2 1) 0) })
        []))

/-! ### The event rows, family by family -/

/-- Queue and event-queue registers (R11, R75, R76, R88, R95): doorbells, enables and reads that clear: each event, on an
object that exists and with its cause there, ends in the state the rules give. Where the rules leave room it states the
model's own choice (log entries 38 and 40). -/
def Obligations.DoorbellRows : Prop :=
  ∀ (s : State) (h : Head), s.fresh = h →
    (∀ q index slots, q < 8 → index < 4096 → h.fromBoot = true → (h.queue q).sqDepth ≤ index → exec (.sqTailWrite q index
        slots) s = .next (s.reacted (h.setQueue q fun x => if index ≥ x.sqDepth then { x with indexError := true } else x))) ∧
    (∀ q index slots, q < 8 → index < 4096 → h.fromBoot = true → index < (h.queue q).sqDepth → exec (.sqTailWrite q index
        slots) s = .next (s.reacted (h.writeTail q index slots))) ∧
    (∀ q index, q < 8 → index < 4096 → h.fromBoot = true → exec (.cqHeadWrite q index) s = .next (s.reacted (h.setQueue q fun
        x => if index ≥ x.cqDepth then { x with indexError := true } else { x with cqHead := index }))) ∧
    (∀ q value, q < 8 → h.fromBoot = true → bit value 0 = true → (h.queue q).enabled = true → exec (.sqFlushWrite q value) s
        = .next (s.reacted ((h.flushQueue q 1 0xFF).1))) ∧
    (∀ q, q < 8 → h.fromBoot = true → (h.queue q).enabled = false → exec (.queueEnable q) s = .next (s.reacted ((h.setQueue q
        fun x =>
        { x with enabled := true, sqHead := 0, sqTail := 0, cqHead := 0, cqTail := 0, fgen := 0, phase := true, skipping := false, skippedTotal := 0, slots := [], chain := none, replies := [], group := none, lateItems := 0 }).setEthQueue
        q fun e => { e with highest := none, kept := [], waiting := [], ways := [] }))) ∧
    (∀ q, q < 8 → h.fromBoot = true → (h.queue q).enabled = true → exec (.queueDisable q) s = .next (s.reacted ((((h.setQueue
        q fun x => { x with enabled := false }).flushQueue q 2 0xFF).1.setQueue q fun x =>
        { x with replies := [], async := x.async.map fun i => { i with discard := true } }).setEthQueue q fun e =>
        { e with waiting := [], ways := [] }))) ∧
    (h.fromBoot = true → h.evq.enabled = false → exec .eqEnable s = .next (s.reacted (Head.flushLost
        { h with evq := { h.evq with enabled := true, head := 0, tail := 0, phase := true } }))) ∧
    (h.fromBoot = true → exec .eqDisable s = .next (s.reacted ({ h with evq := { h.evq with enabled := false } }))) ∧
    (∀ index, index < 4096 → h.fromBoot = true → exec (.eqHeadWrite index) s = .next (s.reacted (Head.flushLost
        { h with evq := { h.evq with head := index } }))) ∧
    (∀ q, q < 8 → h.fromBoot = true → exec (.sqSkippedRead q) s = .next (s.reacted ((h.emit (.readData (h.queue
        q).skipped)).setQueue q fun x => { x with skipped := 0 }))) ∧
    (h.fromBoot = true → exec .eqDroppedRead s = .next (s.reacted
        ({ (h.emit (.readData h.evq.dropped)) with evq := { h.evq with dropped := 0 } })))

/-- The other BAR0 rows, the PCIe function and the Ethernet ports (R67-R74, R89): each event, on an object that exists and
with its cause there, ends in the state the rules give. Where the rules leave room it states the model's own choice (log
entries 6 and 100). -/
def Obligations.PortRows : Prop :=
  ∀ (s : State) (h : Head), s.fresh = h →
    (h.fromBoot = true → exec (.headTimeLoRead true) s = .next (s.reacted (Head.emit
        { h with pcie := { h.pcie with timeHi := h.now % 2 ^ 64 / 2 ^ 32 } } (.readData (h.now % 2 ^ 64))))) ∧
    (h.fromBoot = true → exec (.headTimeLoRead false) s = .next (s.reacted (Head.emit
        { h with pcie := { h.pcie with timeHi := h.now % 2 ^ 64 / 2 ^ 32 } } (.readData (h.now % 2 ^ 64 % 2 ^ 32))))) ∧
    (h.fromBoot = true → exec (.cycleLoRead true) s = .next (s.reacted (Head.emit
        { h with pcie := { h.pcie with cycleHi := h.time.cycle % 2 ^ 48 / 2 ^ 32 } } (.readData (h.time.cycle % 2 ^ 48))))) ∧
    (h.fromBoot = true → exec (.cycleLoRead false) s = .next (s.reacted (Head.emit
        { h with pcie := { h.pcie with cycleHi := h.time.cycle % 2 ^ 48 / 2 ^ 32 } } (.readData (h.time.cycle % 2 ^ 48 % 2 ^
        32))))) ∧
    (∀ length window, h.sys.mode = .boot → h.sys.bootsel = 2 → h.pcie.recReady = true → 1 ≤ length → length ≤ 1048576 → exec
        (.recCommit length window) s = .next (s.reacted
        ({ h with pcie := { h.pcie with recWindow := fillWords h.pcie.recWindow (window.take 1048576), recImage := h.pcie.recImage ++ [(h.pcie.recOffset, windowBytes (fillWords h.pcie.recWindow (window.take 1048576)) length)] } }))) ∧
    (h.sys.mode = .boot → h.sys.bootsel = 2 → h.pcie.recReady = true → exec .recEnd s = .next (s.reacted
        ({ h with pcie := { h.pcie with recReady := false, recDone := true } }))) ∧
    (∀ offset value, offset < 0x400000 → offset % 4 = 0 → h.fromBoot = true → exec (.registerWrite offset false value) s =
        .next (s.reacted (h.writeRegister offset (value % 2 ^ 32)))) ∧
    (∀ offset value, offset < 0x400000 → offset % 8 = 0 → h.fromBoot = true → exec (.registerWrite offset true value) s =
        .next (s.reacted ((h.writeRegister offset (value % 2 ^ 32)).writeRegister (offset + 4) (value / 2 ^ 32 % 2 ^ 32)))) ∧
    (∀ d3hot pme, exec (.pciePowerState d3hot pme) s = .next (s.reacted
        ({ h with pcie := { h.pcie with d3hot, pme, wakeN := h.pcie.wakeN && d3hot } }))) ∧
    (exec .perstAssert s = .next (s.reacted
        ({ h.loseLink with pcie := { h.loseLink.pcie with d3hot := false, pme := false, wakeN := false, msix := List.replicate 64 {} } }))) ∧
    (exec .pcieLinkDown s = .next (s.reacted h.loseLink)) ∧
    (exec .pcieLinkUp s = .next (s.reacted ({ h with pcie := { h.pcie with linkUp := true } }))) ∧
    (∀ port srcAddr srcPort dstPort payload, port < 2 → h.portUp port = true → exec (.ethDatagramRx port srcAddr srcPort
        dstPort payload) s = .next (s.reacted (h.receiveDatagram port srcAddr srcPort dstPort payload))) ∧
    (∀ port frame, port < 2 → h.portUp port = true → exec (.ethFrameRx port frame) s = .next (s.reacted (h.receiveFrame port
        frame))) ∧
    (∀ port index r, port < 2 → index < 4 → (h.eth.getD port {}).reassembly[index]? = some r → r.since + 2000000 ≤ h.now →
        exec (.reassemblyTimeout port index) s = .next (s.reacted (h.setPort port fun p =>
        { p with dropped := satInc (2 ^ 32 - 1) p.dropped, reassembly := p.reassembly.eraseIdx index }))) ∧
    (∀ count, 1 ≤ count → count ≤ 32 → h.evq.route ≠ 0 → count ≤ h.evq.staged.length → exec (.eventDatagramSend count) s =
        .next (s.reacted ((h.sendEvents count).flushLost)))

/-- Items, completions, fences and groups (R78-R95): each event, on an object that exists and with its cause there, ends
in the state the rules give. Where the rules leave room it states the model's own choice (log entries 9, 19 and 68). -/
def Obligations.ItemRows : Prop :=
  ∀ (s : State) (h : Head), s.fresh = h →
    (exec .itemStart s = .next (s.reacted h.startItem)) ∧
    (∀ q i rest status params, q < 8 → (h.queue q).takeFinal = some (i, rest) → i.final = some (status, params) → i.discard =
        true → exec (.asyncDone q) s = .next (s.reacted (h.setQueue q fun x => { x with async := rest }))) ∧
    (∀ q r rest, q < 8 → (h.queue q).replies = r :: rest → (h.queue q).enabled = true → (h.queue q).ethernet = false →
        (h.queue q).cqDepth - 1 < slotsFor (h.replyBytes r).length → (replySlots (h.queue q).fgen (h.replyBytes
        { r with status := Status.noCapacity, params := [] })).length ≤ (h.queue q).cqFree → exec (.completionWrite q) s =
        .next (s.reacted ((writeSlots q (replySlots (h.queue q).fgen (h.replyBytes
        { r with status := Status.noCapacity, params := [] })) (h.setQueue q fun x => { x with replies := rest })).signal
        (h.queue q).vector))) ∧
    (∀ q r rest, q < 8 → (h.queue q).replies = r :: rest → (h.queue q).enabled = true → (h.queue q).ethernet = false →
        slotsFor (h.replyBytes r).length ≤ (h.queue q).cqDepth - 1 → (replySlots (h.queue q).fgen (h.replyBytes r)).length ≤
        (h.queue q).cqFree → exec (.completionWrite q) s = .next (s.reacted ((writeSlots q (replySlots (h.queue q).fgen
        (h.replyBytes r)) (h.setQueue q fun x => { x with replies := rest })).signal (h.queue q).vector))) ∧
    (∀ q i rest status params, q < 8 → (h.queue q).takeFinal = some (i, rest) → i.final = some (status, params) → i.discard =
        false → exec (.asyncDone q) s = .next (s.reacted ((h.setQueue q fun x => { x with async := rest }).reply q
        { echo := i.echo, asyncDone := !i.owed, status, params }))) ∧
    (∀ f rest, h.fences = f :: rest → h.fenceOver f = true → exec .fenceTimeout s = .next (s.reacted
        ({ h with fences := rest, queues := setAt f.queue (fun (x : Queue) => { x with async := x.async.map fun i => if i.await = .fence ∧ i.echo = f.echo ∧ i.final = none then { i with final := some (Status.timeout, []) } else i }) h.queues }))) ∧
    (∀ q, q < 8 → exec (.groupEffect q) s = .next (s.reacted (h.groupEffect q))) ∧
    (∀ q g, q < 8 → (h.queue q).group = some g → 0 < g.remaining → g.byTime = false → g.cycle ≤ h.time.cycle + 1 → exec
        (.groupAbandoned q) s = .next (s.reacted (h.setQueue q fun x => x.endGroup Status.fenceLate))) ∧
    (∀ q g, q < 8 → (h.queue q).group = some g → 0 < g.remaining → g.byTime = true → g.time < h.time.cycleStart + 2 *
        h.cycleNs → exec (.groupAbandoned q) s = .next (s.reacted (h.setQueue q fun x => x.endGroup Status.fenceLate)))

/-- Power-on, boot and role (R32, R38-R48, R440, R459): each event, on an object that exists and with its cause there,
ends in the state the rules give. Where the rules leave room it states the model's own choice (log entries 20, 49, 78 and
79). -/
def Obligations.StartRows : Prop :=
  ∀ (s : State) (h : Head), s.fresh = h →
    (∀ vin, h.sys.mode = .off → 420 ≤ vin → exec (.vinStart vin) s = .next (s.reacted
        ({ h with sys := { h.sys with mode := .reset, porN := false }, backup := { h.backup with onVin := true }, power := { h.power with vin, sequencing := true, railsGood := false, retryDue := false, retries := 0 } }))) ∧
    (h.sys.mode = .reset → h.power.sequencing = true → exec .railSequenceFail s = .next (s.reacted
        ({ h with power := { h.power with sequencing := false, retryDue := true } }))) ∧
    (h.sys.mode = .reset → h.power.retryDue = true → h.power.retries < 3 → exec .railRetry s = .next (s.reacted
        ({ h with power := { h.power with sequencing := true, retryDue := false, retries := h.power.retries + 1 } }))) ∧
    (∀ bootsel headSel testN, bootsel < 8 → h.sys.mode = .reset → h.sys.porN = false → (h.power.railsGood ||
        h.power.sequencing) = true → exec (.porNRise bootsel headSel testN) s = .next (s.reacted (Head.tryBoot
        { h with sys := { h.sys with porN := true, bootsel, home := headSel, testN }, power := { h.power with railsGood := true, sequencing := false }, backup := { h.backup with loadDue := true } }))) ∧
    (h.backup.loadDue = true → h.sys.porN = true → h.sys.mode ≠ .off → exec .headTimeLoad s = .next (s.reacted
        ({ h with backup := { h.backup with loadDue := false }, time := { h.time with head := ({ h with backup := { h.backup with loadDue := false } } : Head).backup.headNs * 2 ^ 32 } }))) ∧
    (h.booting = true → exec (.bootStepDone true) s = .next (s.reacted h.bootStepDone)) ∧
    (h.booting = true → exec (.bootStepDone false) s = .next (s.reacted h.bootStepFailed)) ∧
    (h.booting = true → h.recoveryWaits = false → h.sys.bootStep ≠ .saddle → h.sys.bootStep ≠ .built → exec .bootStepTimeout
        s = .next (s.reacted (h.failBoot 0x04))) ∧
    (∀ peerHome, h.sys.mode = .boot → h.sys.bootStep = .saddle → (h.sys.bootFailed = false ∨ (h.sys.bootCode = 0x10 ∧
        h.peer.saddleUp = true)) → exec (.saddleWindowEnd peerHome) s = .next (s.reacted (h.fixRole peerHome))) ∧
    (h.sys.role = .solo → h.peer.peerStandby = true → exec .soloToActive s = .next (s.reacted
        ({ (h.setRole .active) with peer := { (h.setRole .active).peer with peerStandby := false } }))) ∧
    (h.sys.mode = .commission → h.sys.built = false → exec .networkBuildEnd s = .next (s.reacted
        ({ h with sys := { h.sys with built := true, checked := (match h.net.base with | some s => h.checkTiming s | none => .notRun) = .passed }, compute := { h.compute with changed := true, afterBuild := true }, net := { h.net with checkBase := (match h.net.base with | some s => h.checkTiming s | none => .notRun), checkRescue := (match h.net.rescue with | some s => h.checkTiming s | none => .notRun) } }))) ∧
    (h.sys.mode = .commission → h.sys.autoService = true → h.commands = true → h.sys.transition = none → h.rescueReady = true
        → h.networkReady = true → exec .autoService s = .next (s.reacted (h.beginMode .service 0 2 none false)))

/-- Resets, mode changes, wakes and rescue (R33-R62): each event, on an object that exists and with its cause there, ends
in the state the rules give. Where the rules leave room it states the model's own choice (log entries 51, 54, 70 and 72).
-/
def Obligations.ModeRows : Prop :=
  ∀ (s : State) (h : Head), s.fresh = h →
    (∀ t k, h.sys.transition = some t → h.transitionReady t = true → h.reachMode t.target t.depth t.cause t.origin = k → exec
        .modeTransitionDone s = .next (s.reacted (if k.sys.waitingWake && k.sys.mode = .idle then Head.wake
        { k with sys := { k.sys with waitingWake := false } } 3 none else
        { k with sys := { k.sys with waitingWake := false } }))) ∧
    (h.fromBoot = true → exec .resetNFall s = .next (s.reacted (Head.enterReset
        { h with sys := { h.sys with resetN := false } } .reset true))) ∧
    (exec .resetNRise s = .next (s.reacted (Head.tryBoot { h with sys := { h.sys with resetN := true } }))) ∧
    (exec .porNFall s = .next (s.reacted h.fallPor)) ∧
    (h.wakeEdge = true → exec (.wakeSource 0) s = .next (s.reacted (h.wakeBy 0))) ∧
    (h.sys.nodeWake = true → exec (.wakeSource 1) s = .next (s.reacted (Head.wakeBy
        { h with sys := { h.sys with nodeWake := false } } 1))) ∧
    (exec (.wakeSource 2) s = .next (s.reacted (h.wakeBy 2))) ∧
    (bit h.sys.triggers 1 = true → h.mainsFailed = true → h.mayRescue = true → exec .rescueTriggerFieldInput s = .next
        (s.reacted (h.enterRescue 5 none))) ∧
    (∀ vin k, h.fromBoot = true → { h with power := { h.power with vin } } = k → bit k.sys.triggers 2 = true → vin <
        k.sys.vinThreshold → k.mayRescue = true → exec (.rescueTriggerVin vin) s = .next (s.reacted (k.enterRescue 6 none))) ∧
    ((h.sys.transition.any fun t => t.target = .rescue) = true → h.scheduleNow = h.scheduleFor .rescue 0 → h.net.switch =
        none → (h.axes.all fun a => a.place.tile ≥ 16 || h.keptTiles.contains a.place.tile) = true → exec .rescueTilesGated s
        = .next (s.reacted
        ({ h with sys := { h.sys with tilesGated := true }, compute := { h.compute with tiles := h.compute.tiles.mapIdx fun t (x : Tile) => if x.state = .up && !h.keptTiles.contains t then { x with state := .gated } else x } }))) ∧
    (∀ k, h.sys.mode = .rescue → h.sys.transition = none → h.sys.rescueDone = false → h.commands = true → h.allLanded = true
        → Head.post { h with sys := { h.sys with rescueDone := true } } 0x0111 0 0xFFFF [] = k → exec .rescueDone s = .next
        (s.reacted k.restAfterRescue)) ∧
    (∀ c, c < 3 → (h.power.pll c).lost = true → (h.power.pll c).failed < 3 → exec (.pllRelockTimeout c) s = .next (s.reacted
        (h.setPower fun x => x.setPll c { h.power.pll c with failed := (h.power.pll c).failed + 1 })))

/-- The cycle, its beacons and its uplink (R21-R26, R126, R127, R176): each event, on an object that exists and with its
cause there, ends in the state the rules give. Where the rules leave room it states the model's own choice (log entries
14, 47 and 102). -/
def Obligations.CycleRows : Prop :=
  ∀ (s : State) (h : Head), s.fresh = h →
    (∀ node p j k payload, node < 1024 → h.commands = true → h.net.running = true → h.supervised = false → h.position? node =
        some p → p.state = .held → p.down = none → h.makeRecords node (h.nodeAxes node) = (j, payload) → (j.setPosition node
        fun p => { p with down := some (j.frame FrameType.downStatic (flag j.deviceBelay 0) node j.ownChannel payload) }) = k
        → exec (.recordReadyDeadline node) s = .next (s.reacted ((if k.sys.role = .active then k.forward (node / 32) (k.frame
        FrameType.downStatic (flag k.deviceBelay 0) node (1 - k.ownChannel) payload) else k).mirrorNode node (h.nodeAxes
        node)))) ∧
    (h.fromCommission = true → exec .cycleStart s = .next (s.reacted h.closeCycle.openCycle)) ∧
    (h.sys.role = .standby → h.net.running = true → h.net.kind ≠ .valley → exec .backupBeaconSlot s = .next (s.reacted
        h.backupBeacons)) ∧
    (∀ branch start bytes truncated, branch < 32 → exec (.uplinkFrameRx branch start bytes truncated) s = .next (s.reacted
        ((h.stampRx branch start).uplinkFrame branch start bytes truncated))) ∧
    (∀ bytes k lane inner, h.sys.role = .active → h.peer.saddleUp = true → h.openForwarded bytes = (k, some (lane, inner)) →
        (frameHeader inner).type = FrameType.upStatic → (frameHeader inner).addr / 32 = lane → (frameHeader inner).length =
        k.upLength (frameHeader inner).addr → (k.position? (frameHeader inner).addr).any (fun p => p.state = .held) = true →
        exec (.forwardedUplinkRx bytes) s = .next (s.reacted (k.useCopy (frameHeader inner).addr inner))) ∧
    (∀ arrival bytes lane inner, h.sys.role = .standby → h.peer.saddleUp = true → fwdParts bytes = (lane, false, false,
        inner) → lane < 32 → 200 < arrival → exec (.forwardedBeaconRx arrival bytes) s = .next (s.reacted (h.lateOnSaddle
        lane))) ∧
    (∀ arrival bytes lane inner k, h.sys.role = .standby → h.peer.saddleUp = true → fwdParts bytes = (lane, false, false,
        inner) → lane < 32 → arrival ≤ 200 → lineError inner false = .none → (frameHeader inner).type = FrameType.beacon →
        (frameHeader inner).reserved = true → (h.setBranch lane fun b => { b with fwdBeacon := some inner }).learnBeacon lane
        (framePayload inner) = k → (h.net.branches.all fun b => b.fwdBeacon.isNone) = true → exec (.forwardedBeaconRx arrival
        bytes) s = .next (s.reacted (k.takePhase ((h.time.cycleStart + arrival - roundDiv ((bytes.length + 20) * 4) 10 : Int)
        - h.peer.saddleDelay) (field (framePayload inner) 24 8)))) ∧
    (∀ arrival bytes lane inner k, h.sys.role = .standby → h.peer.saddleUp = true → fwdParts bytes = (lane, false, false,
        inner) → lane < 32 → arrival ≤ 200 → lineError inner false = .none → (frameHeader inner).type = FrameType.beacon →
        (frameHeader inner).reserved = true → (h.setBranch lane fun b => { b with fwdBeacon := some inner }).learnBeacon lane
        (framePayload inner) = k → (h.net.branches.all fun b => b.fwdBeacon.isNone) = false → exec (.forwardedBeaconRx
        arrival bytes) s = .next (s.reacted k)) ∧
    (∀ node p f, node < 1024 → h.position? node = some p → h.net.running = true → h.supervised = false → p.state = .held →
        ((h.branch (node / 32)).chan h.ownChannel).cut = false → ((h.branch (node / 32)).chan h.ownChannel).calState ≠ 3 →
        p.down = some f → exec (.downlinkSlot node) s = .next (s.reacted ((h.setPosition node fun p =>
        { p with down := none }).sendLane (node / 32) h.ownChannel f))) ∧
    (∀ node p, node < 1024 → h.position? node = some p → h.net.running = true → h.supervised = false → p.state = .held →
        ((h.branch (node / 32)).chan h.ownChannel).cut = false → ((h.branch (node / 32)).chan h.ownChannel).calState ≠ 3 →
        p.down = none → h.sys.role = .standby → exec (.downlinkSlot node) s = .next (s.reacted (h.lateOnSaddle (node / 32)))) ∧
    (∀ bytes lane inner, h.sys.role = .standby → h.peer.saddleUp = true → fwdParts bytes = (lane, false, false, inner) → lane
        < 32 → lineError inner false = .none → h.headerOk (frameHeader inner) = true → (frameHeader inner).type =
        FrameType.downStatic → (frameHeader inner).addr / 32 = lane → (frameHeader inner).length = 12 * h.nodeAxes
        (frameHeader inner).addr → exec (.forwardedDownlinkRx bytes) s = .next (s.reacted ((h.setPosition (frameHeader
        inner).addr fun p => p.learn h.time.cycle inner).learnRecords (frameHeader inner).addr (framePayload inner))))

/-- Nodes, dynamic exchanges and joining (R130-R140, R156-R168): each event, on an object that exists and with its cause
there, ends in the state the rules give. Where the rules leave room it states the model's own choice (log entries 44, 50,
84 and 103). -/
def Obligations.NodeRows : Prop :=
  ∀ (s : State) (h : Head), s.fresh = h →
    (∀ branch mini p, branch < 32 → h.maySend branch mini = true → leastOf (h.branch branch).polls = some p → exec
        (.dynRequestSend branch mini) s = .next (s.reacted ((h.setBranch branch fun x =>
        { x with polls := x.polls.filter fun q => q ≠ p, nextTag := (x.nextTag + 1) % 256 }).sendRequest branch mini
        { node := 32 * branch + p, op := 0x01, tag := (h.branch branch).nextTag, data := [], entry := none }))) ∧
    (∀ branch mini r rest, branch < 32 → h.maySend branch mini = true → leastOf (h.branch branch).polls = none → (h.branch
        branch).dyn = r :: rest → exec (.dynRequestSend branch mini) s = .next (s.reacted ((h.setBranch branch fun x =>
        { x with dyn := rest }).sendRequest branch mini r))) ∧
    (∀ branch channel start bytes truncated, branch < 32 → channel < 2 → exec (.dynReplyRx branch channel start bytes
        truncated) s = .next (s.reacted ((if h.isOwn channel then h.stampRx branch start else h).dynReply branch channel
        start bytes truncated))) ∧
    (∀ entry a, entry < 8192 → (h.cal.actions.find? fun a => a.entry = entry && a.cycle < h.time.cycle) = some a → exec
        (.contourLate entry) s = .next (s.reacted (Head.post
        { h with cal := { h.cal with actions := h.cal.actions.erase a } } 0x0512 2 a.mover [(2, a.entry), (2, a.node), (2,
        a.code), (1, a.cyc8)]))) ∧
    (∀ branch channel start bytes truncated, branch < 32 → channel < 2 → exec (.joinClaimRx branch channel start bytes
        truncated) s = .next (s.reacted ((if h.isOwn channel then h.stampRx branch start else h).joinClaim branch channel
        start bytes truncated))) ∧
    (∀ node e, node < 1024 → ((h.branch (node / 32)).ext.find? fun e => e.kind = 1 && e.position = node % 32 && e.effective ≤
        h.time.cycle) = some e → h.commands = false → exec (.joinGrantEffective node) s = .next (s.reacted ((h.setBranch
        (node / 32) fun b => { b with ext := b.ext.filter fun x => x ≠ e }).setPosition node fun p =>
        { p with state := .held, identity := e.identity, delayA := e.delayA, delayB := e.delayB, joinCycle := e.effective, silent := 0, lostCycle := none }))) ∧
    (∀ node e k, node < 1024 → ((h.branch (node / 32)).ext.find? fun e => e.kind = 1 && e.position = node % 32 && e.effective
        ≤ h.time.cycle) = some e → ((h.setBranch (node / 32) fun b =>
        { b with ext := b.ext.filter fun x => x ≠ e }).setPosition node fun p =>
        { p with state := .held, identity := e.identity, delayA := e.delayA, delayB := e.delayB, joinCycle := e.effective, silent := 0, lostCycle := none })
        = k → k.commands = true → exec (.joinGrantEffective node) s = .next (s.reacted (((k.postAt 0x0401 3 node k.now
        e.effective (leBytes 8 e.identity)).nodeAxisList node).foldl (init := k.postAt 0x0401 3 node k.now e.effective
        (leBytes 8 e.identity)) fun (h : Head) (a : Axis) => (h.setAxis a.id fun a =>
        { a with mismatch := false }).readSensor a.id))) ∧
    (∀ node p, node < 1024 → h.position? node = some p → p.state = .held → 3 ≤ p.silent → p.parked = none → h.commands = true
        → exec (.nodeSilent node) s = .next (s.reacted ((h.nodeAxisList node).foldl (init := h) fun (h : Head) (a : Axis) =>
        if a.state = .enabled && !h.latched (srcAxis a.id) 6 then h.raise (srcAxis a.id) 6 else h))) ∧
    (∀ node p, node < 1024 → h.position? node = some p → p.state = .held → 65 ≤ p.silent → p.parked = none → h.commands =
        true → exec (.nodeLost node) s = .next (s.reacted (((((h.setPosition node fun p => p.lose h.time.cycle).revoke
        node).raise (srcNode node) 0).post 0x0406 3 node [(8, p.identity)])))) ∧
    (∀ node e, node < 1024 → ((h.branch (node / 32)).ext.find? fun e => e.kind = 3 && e.position = node % 32 && !e.due &&
        e.effective ≤ h.time.cycle) = some e → exec (.revokeComplete node) s = .next (s.reacted ((h.setBranch (node / 32) fun
        b => { b with ext := b.ext.filter fun x => x ≠ e }).setPosition node fun p => if p.state = .held then p.lose
        h.time.cycle else p)))

/-- Schedule switches and lanes (R128, R160-R163, R378): each event, on an object that exists and with its cause there,
ends in the state the rules give. Where the rules leave room it states the model's own choice (log entries 3, 9, 84, 103
and 104). -/
def Obligations.LaneRows : Prop :=
  ∀ (s : State) (h : Head), s.fresh = h →
    (∀ w k, h.net.switch = some w → w.cycle ≤ h.time.cycle + 1 → h.applySwitch w = k → exec .scheduleSwitch s = .next
        (s.reacted (if w.cycle = k.time.cycle + 1 then { k with net := { k.net with closing := some h.cycleNs } } else k))) ∧
    (∀ k, h.peer.saddleUp = false → ((List.range 8).all fun i => (h.lane (32 + i)).link = 2) = true → Head.post
        { h with peer := { h.peer with saddleUp := true } } 0x0D04 6 0xFFFF [] = k → exec .saddleUp s = .next (s.reacted
        (match k.sys.role with | .standby => k.startSync | .active => if k.peerRole? = some 2 then k.startBulk else k | _ => k))) ∧
    (∀ lane, lane < 32 → (h.lane lane).link = 0 ∨ (h.lane lane).link = 1 → (h.lane lane).inverted = true → exec (.laneUp lane
        true) s = .next (s.reacted (((h.setLane lane fun l => { l with link := 2, inverted := true }).reportChannel
        lane).post 0x0408 0 lane []))) ∧
    (∀ branch channel, branch < 32 → channel < 2 → ((h.branch branch).chan channel).calState = 1 → h.net.running = true →
        h.branchNumbers.contains branch = true → h.commands = true → exec (.laneCalibrationStart branch channel) s = .next
        (s.reacted (h.startCalibration branch channel))) ∧
    (∀ branch channel, branch < 32 → channel < 2 → ((h.branch branch).chan channel).calState = 1 → h.net.running = true →
        h.branchNumbers.contains branch = true → h.commands = false → h.isOwn channel = true → exec (.laneCalibrationStart
        branch channel) s = .next (s.reacted (h.reportChannel branch true))) ∧
    (∀ branch channel, branch < 32 → channel < 2 → ((h.branch branch).chan channel).calState = 0 → h.net.running = true →
        h.branchNumbers.contains branch = true → h.isOwn channel = true → exec (.laneCalibrationStart branch channel) s =
        .next (s.reacted (if h.dieMoved branch then (if h.commands then h.drawInt.2.startCalibration branch channel else
        h.drawInt.2.reportChannel branch true) else h.drawInt.2))) ∧
    (∀ branch channel, branch < 32 → channel < 2 → ((h.branch branch).chan channel).calState = 3 → ((h.branch branch).chan
        channel).calLeft ≤ 1 → exec (.laneCalibrationDone branch channel) s = .next (s.reacted (h.endCalibration branch
        channel))) ∧
    (∀ lane, lane < 32 → (h.lane lane).link = 1 ∨ (h.lane lane).link = 2 → exec (.laneDown lane) s = .next (s.reacted
        ((((h.setLane lane fun l => { l with link := 0, los := satInc 0xFFFF l.los }).post 0x0407 0 lane []).raise (srcLane
        lane) 0).reportChannel lane))) ∧
    (∀ lane, 32 ≤ lane → lane < 40 → (h.lane lane).link = 1 ∨ (h.lane lane).link = 2 → exec (.laneDown lane) s = .next
        (s.reacted ((((h.setLane lane fun l => { l with link := 0, los := satInc 0xFFFF l.los }).post 0x0407 0 lane []).raise
        (srcLane lane) 0).saddleDown))) ∧
    (∀ lane, lane < 32 → (h.lane lane).link = 0 ∨ (h.lane lane).link = 1 → exec (.laneUp lane false) s = .next (s.reacted
        (((h.setLane lane fun l => { l with link := 2, inverted := false }).reportChannel lane).post 0x0408 0 lane []))) ∧
    (∀ lane, lane < 32 → (h.lane lane).link = 0 ∨ (h.lane lane).link = 1 → (h.lane lane).inverted = false → exec (.laneUp
        lane true) s = .next (s.reacted (((((h.setLane lane fun l => { l with link := 2, inverted := true }).post 0x0409 0
        lane []).raise (srcLane lane) 1).reportChannel lane).post 0x0408 0 lane []))) ∧
    (∀ lane inverted, 32 ≤ lane → lane < 40 → (h.lane lane).link = 0 ∨ (h.lane lane).link = 1 → h.peer.saddleUp = false →
        (inverted = true → (h.lane lane).inverted = true) → exec (.laneUp lane inverted) s = .next (s.reacted (((h.setLane
        lane fun l => { l with link := 2, inverted }).calibrated lane h.time.cycle).post 0x0408 0 lane [])))

/-- Placement, terrain windows, dispatch and shedding (R264-R288): each event, on an object that exists and with its cause
there, ends in the state the rules give. Where the rules leave room it states the model's own choice (log entries 34, 35,
36 and 84). -/
def Obligations.PlacementRows : Prop :=
  ∀ (s : State) (h : Head), s.fresh = h →
    (h.fromBoot = true → (((h.ranges.all fun r => r.state ≠ .running) && h.compute.changed) || (h.compute.afterBuild &&
        h.inGap)) = true → exec .fullPlacement s = .next (s.reacted h.fullPlacement)) ∧
    (h.fromBoot = true → (((h.ranges.all fun r => r.state ≠ .running) && h.compute.changed) || (h.compute.afterBuild &&
        h.inGap)) = false → (h.axes.any fun a => a.place.state = .notPlaced) = true → exec .fullPlacement s = .next
        (s.reacted h.placeNew)) ∧
    (∀ axis tile core a, axis < 4096 → tile < 16 → h.axis? axis = some a → a.place.state = .placed → a.place.tile ≠ tile →
        h.roomOn a tile = some core → h.mayMigrate a tile = true → exec (.migrationPrepare axis tile core) s = .next
        (s.reacted (h.setPlace axis fun p => { p with state := .prepare, moving := some (tile, core, h.time.cycle) }))) ∧
    (∀ axis a tile core since k, axis < 4096 → h.axis? axis = some a → a.place.moving = some (tile, core, since) → h.openGap
        = k → k.inGap = true → k.commitOpen a = true → k.commitTaken a = true → exec (.migrationCommit axis) s = .next
        (s.reacted
        ({ ((k.setPlace axis fun p => { p with tile, core, state := .placed, moving := none, migrations := satInc (2 ^ 32 - 1) p.migrations, lastCommit := k.gapCycle }).setTile tile fun x => { x with commits := satInc 0xFFFF x.commits }) with compute := { ((k.setPlace axis fun p => { p with tile, core, state := .placed, moving := none, migrations := satInc (2 ^ 32 - 1) p.migrations, lastCommit := k.gapCycle }).setTile tile fun x => { x with commits := satInc 0xFFFF x.commits }).compute with gapCommits := ((k.setPlace axis fun p => { p with tile, core, state := .placed, moving := none, migrations := satInc (2 ^ 32 - 1) p.migrations, lastCommit := k.gapCycle }).setTile tile fun x => { x with commits := satInc 0xFFFF x.commits }).compute.gapCommits + 1 } }))) ∧
    (∀ axis a, axis < 4096 → h.axis? axis = some a → a.place.state = .prepare → exec (.migrationAborted axis) s = .next
        (s.reacted (h.abortMigration axis))) ∧
    (∀ tile table coordinate, tile < 16 → (h.tile tile).state = .up → ((h.terrain? table).any fun t => h.movers.any
        (h.windowWanted tile t coordinate)) = true → exec (.windowLoad tile table coordinate) s = .next (s.reacted
        (h.loadWindow tile table coordinate))) ∧
    (∀ tile slot, tile < 16 → slot < 16 → exec (.bufferSwitch tile slot) s = .next (s.reacted (h.setSlot tile slot fun s =>
        if s.a.state = .complete ∧ s.a.done < h.time.cycle then
        { a := { s.a with state := .active }, b := { s.b with state := .empty } } else if s.b.state = .complete ∧ s.b.done <
        h.time.cycle then { a := { s.a with state := .empty }, b := { s.b with state := .active } } else s))) ∧
    (∀ tile slot b, tile < 16 → slot < 16 → ((h.tile tile).slots.getD slot {}).loading? = some b → h.power.fspChange = [] →
        exec (.tableLoadDone tile slot) s = .next (s.reacted ((h.completeLoad tile slot).setTile tile fun t =>
        { t with busy := setAt ((t.list.cores.findIdx? fun c => c.active.any fun o => o.axis = sysOperation slot).getD ((List.range 4).foldl (fun b c => if t.busy.getD c 0 < t.busy.getD b 0 then c else b) 0)) (fun n => n + loadClocks b.count) t.busy, list := { t.list with deficit := setAt 8 (fun d => d - loadClocks b.count) t.list.deficit, cores := t.list.cores.map (Core.drop (sysOperation slot)) } }))) ∧
    (∀ tile, tile < 16 → (h.tile tile).state ≠ .lost → h.fromBoot = true → exec (.tileRemoved tile) s = .next (s.reacted
        (h.loseTile tile))) ∧
    (∀ rs k, h.inGap = true → h.openGap = k → ((List.range 4).foldl (init := []) fun (acc : List Axis) g => acc ++
        (k.axes.filter fun a => a.place.state = .awaiting).filter fun a => (k.range a.range).cls = g).take (64 -
        k.compute.gapRestores) = rs → exec .axisRestore s = .next (s.reacted
        ({ (rs.foldl (fun (h : Head) (a : Axis) => h.restoreAxis a.id) k) with compute := { (rs.foldl (fun (h : Head) (a : Axis) => h.restoreAxis a.id) k).compute with gapRestores := (rs.foldl (fun (h : Head) (a : Axis) => h.restoreAxis a.id) k).compute.gapRestores + rs.length } }))) ∧
    (∀ list, list < 16 ∨ list = 32 → h.listRuns list = true → exec (.operationDispatch list) s = .next (s.reacted (h.dispatch
        list))) ∧
    (∀ list, 16 ≤ list → list < 32 → h.listRuns list = true → exec (.operationDispatch list) s = .next (s.reacted
        (h.dispatchEngine (list - 16)))) ∧
    (0 < h.compute.shedLevel → (h.compute.lowSince.any fun t => t + h.compute.restoreMs * 1000000 ≤ h.now) = true → exec
        .shedLevelFall s = .next (s.reacted (Head.post
        { h with compute := { h.compute with shedLevel := h.compute.shedLevel - 1, lowSince := none } } 0x0801 0 0xFFFF []))) ∧
    (8 ≤ h.compute.overRun → h.compute.shedLevel < 2 → exec .shedLevelRise s = .next (s.reacted ((Head.raise
        { h with compute := { h.compute with shedLevel := h.compute.shedLevel + 1, overRun := 0, lowSince := none } } 0
        14).post 0x0801 0 0xFFFF []))) ∧
    (∀ k, 8 ≤ h.compute.overRun → h.compute.shedLevel = 2 → (Head.raise
        { h with compute := { h.compute with shedLevel := 3, overRun := 0, lowSince := none } } 0 14).post 0x0801 0 0xFFFF []
        = k → exec .shedLevelRise s = .next (s.reacted (((List.range 8).filter fun r => (k.range r).cls = 1 && (k.range
        r).state ≠ .unused).foldl (fun (h : Head) r => h.raise (srcRange r) 1) k))) ∧
    (∀ list o c displaced k, list < 16 → h.listRuns list = true → h.bestWaiting list = some o → h.victim list (h.rank
        o.group) = some (c, displaced) → ((List.range 4).any fun i => ((h.readyList list).cores.getD i {}).active.isNone &&
        !h.coreHalted list i) = false → h.saveContext displaced.axis ((h.now - displaced.since) * 6 / 10) = k → exec
        (.preemption list) s = .next (s.reacted (((((k.setReadyList list fun l =>
        { l with cores := setAt c (fun (x : Core) => { x with saved := displaced :: x.saved }) l.cores }).charge list o.group
        48).addBusy list c 48).startOn list c o).setTile list fun t => { t with preempts := satInc 0xFFFF t.preempts }))) ∧
    (∀ o c displaced k, h.listRuns 32 = true → h.bestWaiting 32 = some o → h.victim 32 (h.rank o.group) = some (c, displaced)
        → ((List.range 4).any fun i => ((h.readyList 32).cores.getD i {}).active.isNone && !h.coreHalted 32 i) = false →
        h.saveContext displaced.axis ((h.now - displaced.since) * 6 / 10) = k → exec (.preemption 32) s = .next (s.reacted
        ((((k.setReadyList 32 fun l =>
        { l with cores := setAt c (fun (x : Core) => { x with saved := displaced :: x.saved }) l.cores }).charge 32 o.group
        48).addBusy 32 c 48).startOn 32 c o)))

/-- The control graph and the mover force of a cycle (R190, R200-R231): each event, on an object that exists and with its
cause there, ends in the state the rules give. Where the rules leave room it states the model's own choice (log entries
21, 26, 27, 84 and 93). -/
def Obligations.GraphRows : Prop :=
  ∀ (s : State) (h : Head), s.fresh = h →
    (∀ mover m a k, mover < 256 → h.mover? mover = some m → h.axis? m.axis = some a → m.cut = false → h.inTurn a = true →
        (((h.observeMover mover).coverMover mover).setAxis a.id fun a => if a.graph = .waiting then
        { a with graph := .ready } else a) = k → (k.cal.evaluated || !k.movers.all (fun m => m.cut || (k.axis? m.axis).all
        fun a => !k.inTurn a)) = true → exec (.moverCutoff mover) s = .next (s.reacted k)) ∧
    (∀ mover m a k, mover < 256 → h.mover? mover = some m → h.axis? m.axis = some a → m.cut = false → h.inTurn a = true →
        (((h.observeMover mover).coverMover mover).setAxis a.id fun a => if a.graph = .waiting then
        { a with graph := .ready } else a) = k → (!k.cal.evaluated && k.movers.all (fun m => m.cut || (k.axis? m.axis).all
        fun a => !k.inTurn a)) = true → exec (.moverCutoff mover) s = .next (s.reacted k.evaluateCalendar)) ∧
    (∀ axis a k b w, axis < 4096 → h.axis? axis = some a → h.commands = true → h.graphOpen a = true → (Head.finishGraph 16
        axis (if a.work.isNone then h.beginGraph a else h)).dropOperations axis = k → k.axis? axis = some b → b.work = some w
        → b.stages.length ≤ w.step → exec (.axisGraphComplete axis) s = .next (s.reacted (k.commitGraph b w))) ∧
    (∀ mover m a, mover < 256 → h.mover? mover = some m → h.axis? m.axis = some a → h.commands = true → m.cut = true →
        m.force = none → h.runs a = true → exec (.moverForceTimeout mover) s = .next (s.reacted ((h.setMover mover fun m =>
        { m with force := some a.loop.lastCmd }).noteHold a.id))) ∧
    (∀ axis a, axis < 4096 → h.axis? axis = some a → 3 ≤ a.loop.holdRun → exec (.holdFault axis) s = .next (s.reacted
        ((((h.setAxis axis fun a => { a with loop := { a.loop with holdRun := 0 } }).setRange a.range fun r =>
        { r with holdFaults := satInc 0xFFFF r.holdFaults }).raise (srcAxis axis) 2).post 0x0604 0 axis []))) ∧
    (∀ range, range < 8 → (h.range range).cls = 0 → (h.range range).state = .running → h.holdLimit range < h.heldLastSecond
        range → exec (.rangeOverrun range) s = .next (s.reacted ((h.raise (srcRange range) 0).post 0x0605 0 range []))) ∧
    (∀ axis, axis < 4096 → exec (.graphAbandoned axis) s = .next (s.reacted (h.abandonGraphOf axis))) ∧
    (∀ axis a, axis < 4096 → h.axis? axis = some a → a.profiled = true → 8 ≤ a.loop.followRun → exec (.followingError axis) s
        = .next (s.reacted (((h.setAxis axis fun a => { a with loop := { a.loop with followRun := 0 } }).raise (srcAxis axis)
        0).post 0x0606 0 axis []))) ∧
    (∀ mover m a, mover < 256 → h.mover? mover = some m → h.axis? m.axis = some a → 4 ≤ a.motion.coverRun → exec (.noCoverage
        mover) s = .next (s.reacted (((h.setAxis a.id fun a => { a with motion := { a.motion with coverRun := 0 } }).raise
        (srcAxis a.id) 1).post 0x0607 0 a.id [])))

/-- Bindings, brakes, moves and stops (R106-R112, R217-R223): each event, on an object that exists and with its cause
there, ends in the state the rules give. Where the rules leave room it states the model's own choice (log entries 12, 39,
84, 92 and 95). -/
def Obligations.BindingRows : Prop :=
  ∀ (s : State) (h : Head), s.fresh = h →
    (∀ axis a k, axis < 4096 → h.axis? axis = some a → a.profiled = true → a.motion.move = .moving → a.motion.plan.isSome =
        true → h.planOver a = true → 32 ≤ a.motion.inPosRun → (h.postFor 0x0601 (h.motionObject axis) (.moved axis)).finish
        (.moved axis) Status.ok = k → exec (.moveDone axis) s = .next (s.reacted (k.setAxis axis fun b =>
        { b with motion := { b.motion with plan := none, move := .idle, xSet := (b.motion.at k.time.cycleStart).x, vSet := 0, aSet := 0, dwellEnd := some (k.now + b.motion.holdDwell * 1000000) } }))) ∧
    (∀ axis a k, axis < 4096 → h.axis? axis = some a → a.profiled = true → (a.motion.move = .faultStop ∨ a.motion.move =
        .stopping ∧ (a.motion.after = .disable ∨ a.motion.after = .belay)) → h.planOver a = true → 8 ≤ a.motion.restRun →
        a.motion.dropAt = none → (h.postFor 0x0602 (h.motionObject axis) (.stopped axis)).finish (.stopped axis) Status.ok =
        k → exec (.stopDone axis) s = .next (s.reacted (k.setAxis axis fun b =>
        { b with motion := { b.motion with brakeRelease := false, dropAt := some (k.now + 100000000) } }))) ∧
    (∀ axis a k j, axis < 4096 → h.axis? axis = some a → a.profiled = true → a.motion.move = .stopping → (a.motion.after =
        .rest ∨ a.motion.after = .rescue) → h.planOver a = true → 8 ≤ a.motion.restRun → a.motion.dropAt = none → (h.postFor
        0x0602 (h.motionObject axis) (.stopped axis)).finish (.stopped axis) Status.ok = k → (k.setAxis axis fun b =>
        { b with motion := { b.motion with plan := none, move := .idle, after := .rest, xSet := (b.motion.at k.time.cycleStart).x, vSet := 0, aSet := 0, brakeRelease := b.motion.dwellEnd.any fun t => t > k.now } })
        = j → exec (.stopDone axis) s = .next (s.reacted
        (match a.motion.after, j.moverOfAxis? axis with | .rescue, some m => j.rescueAtRest m true | _, _ => j))) ∧
    (∀ axis d rest, axis < 4096 → takeFirstDeferred axis h = some (d, rest) → d.bind = true → exec (.deferredBindingChange
        axis) s = .next (s.reacted (Head.calendarBind { h with deferred := rest } d.entry axis d.mover))) ∧
    (∀ axis d rest, axis < 4096 → takeFirstDeferred axis h = some (d, rest) → d.bind = false → exec (.deferredBindingChange
        axis) s = .next (s.reacted (Head.calendarRelease { h with deferred := rest } d.entry axis d.mover))) ∧
    (∀ axis d a, axis < 4096 → (h.deferred.find? fun d => d.axis = axis && !d.bind) = some d → h.axis? axis = some a →
        a.uncovered = true → h.tooSoon a = false → a.mover = some d.mover → h.atRunEnd d.mover a.segIndex = true → exec
        (.deferredRelease axis) s = .next (s.reacted (Head.decideBinding
        { h with deferred := h.deferred.filter fun x => x ≠ d } axis false d.mover 2))) ∧
    (∀ axis b, axis < 4096 → (h.binds.find? fun b => b.axis = axis && b.cycle ≤ h.time.cycle) = some b → exec
        (.bindingInForce axis) s = .next (s.reacted (Head.setAxis { h with binds := h.binds.filter fun x => x ≠ b } axis fun
        a => { a with moverNow := b.mover, epochNow := b.epoch, source := { a.source with good := 0 } }))) ∧
    (∀ axis a, axis < 4096 → h.axis? axis = some a → a.epochNew = true → a.epochCycle + 8 ≤ h.time.cycle → a.upEpoch ≠ some
        a.epoch → a.bindTimedOut = false → exec (.bindTimeout axis) s = .next (s.reacted (((h.setAxis axis fun x =>
        { x with bindTimedOut := true }).raise (srcAxis axis) 5).post 0x0311 0 axis [(1, a.epoch), (1, a.upEpoch.getD 0), (1,
        flag a.upEpoch.isSome 0)]))) ∧
    (∀ axis a, axis < 4096 → h.axis? axis = some a → (a.motion.brakeWait.any fun t => t ≤ h.now) = true → h.brakesOff a =
        false → exec (.brakeStuck axis) s = .next (s.reacted ((h.raise (srcAxis axis) 3).postFor 0x0608 (h.motionObject axis)
        (.moved axis)))) ∧
    (∀ axis a, axis < 4096 → h.axis? axis = some a → (a.motion.dwellEnd.any fun t => t ≤ h.now) = true → a.motion.move =
        .idle → exec (.holdDwellExpired axis) s = .next (s.reacted (h.setAxis axis fun a =>
        { a with motion := { a.motion with brakeRelease := false, dwellEnd := none } }))) ∧
    (∀ axis a, axis < 4096 → h.axis? axis = some a → a.motion.move = .faultStop → a.motion.dropAt = none → (a.motion.plan.all
        fun p => p.ends + 500000000 ≤ h.now) = true → exec (.stopOvertime axis) s = .next (s.reacted (h.belayAxis a))) ∧
    (∀ axis a, axis < 4096 → h.axis? axis = some a → (a.motion.dropAt.any fun t => t ≤ h.now || h.braked a) = true →
        (a.motion.move = .faultStop ∨ a.motion.after = .belay) → exec (.segmentDeenergise axis) s = .next (s.reacted
        (h.belayAxis a))) ∧
    (∀ axis a, axis < 4096 → h.axis? axis = some a → (a.motion.dropAt.any fun t => t ≤ h.now || h.braked a) = true →
        a.motion.move ≠ .faultStop → a.motion.after ≠ .belay → exec (.segmentDeenergise axis) s = .next (s.reacted
        ((((h.finish (.disabled axis) Status.ok).setAxis axis fun a => { a with state := .disabled }).dropMotion
        axis).freeHandover axis)))

/-- Faults, safe inputs, watchdog and ALIVE (R17-R20, R399-R416): each event, on an object that exists and with its cause
there, ends in the state the rules give. Where the rules leave room it states the model's own choice (log entries 17, 64,
83 and 84). -/
def Obligations.FaultRows : Prop :=
  ∀ (s : State) (h : Head), s.fresh = h →
    (∀ k r rs others mask, h.reach (h.time.cycleStart + 2000) = k → k.faults.first = none → (k.faults.reports.filter fun r =>
        r.cycle + 1 = k.time.cycle && r.severity ≥ 2) = rs → firstReport rs = some r → (rs.filter fun x => x.source ≠
        r.source).foldl (fun acc x => if acc.contains x.source then acc else acc ++ [x.source]) [] = others → sumNat
        ((List.range 16).map fun k => flag (others.any fun o => o / 4096 = k) k) = mask → exec .firstFaultDecision s = .next
        (s.reacted (Head.postAt
        { k with faults := { k.faults with first := some { report := r, sameCount := min 255 others.length, sameMask := mask } } }
        0x0E03 4 r.source r.time r.cycle (pack [(2, r.source), (1, r.code), (1, r.severity), (1, min 255 others.length), (2,
        mask)])))) ∧
    (∀ source code, source < 0x10000 → code < 32 → h.fromBoot = true → h.sourceExists source = true → (reportedCode source
        code || h.causePresent source code) = true → ((source / 4096 = 0 && code = 20) || (source / 4096 = 1 && code = 2)) =
        false → (source / 4096 = 2 && code = 2) = false → exec (.faultDetected source code) s = .next (s.reacted (h.raise
        source code))) ∧
    (∀ r, r < 4096 → h.fromBoot = true → h.sourceExists (0x2000 + r) = true → (reportedCode (0x2000 + r) 2 || h.causePresent
        (0x2000 + r) 2) = true → exec (.faultDetected (0x2000 + r) 2) s = .next (s.reacted ((h.stopCopy r).raise (0x2000 + r)
        2))) ∧
    (∀ source code, source < 0x10000 → code < 32 → h.fromBoot = true → h.sourceExists source = true → (reportedCode source
        code || h.causePresent source code) = true → ((source / 4096 = 0 && code = 20) || (source / 4096 = 1 && code = 2)) =
        true → exec (.faultDetected source code) s = .next (s.reacted (Head.raise
        { h with faults := { h.faults with eccCorrected := satInc (2 ^ 32 - 1) h.faults.eccCorrected } } source code))) ∧
    (h.faults.dieLinkOk = true → h.fromBoot = true → exec .dieLinkLost s = .next (s.reacted (Head.raise
        { h with faults := { h.faults with dieLinkOk := false } } 0 0))) ∧
    (h.fromBoot = true → exec (.safeInput true true) s = .next (s.reacted
        ({ h with faults := { h.faults with safeInA := true, safeInB := true, differSince := none } }))) ∧
    (∀ a b, h.fromBoot = true → (a && b) = false → h.faults.safeInRanges = 0 → (h.faults.safeInA && h.faults.safeInB) = false
        → h.latched 0 5 = true → exec (.safeInput a b) s = .next (s.reacted
        ({ h with faults := { h.faults with safeInA := a, safeInB := b, differSince := if a = b then none else some (h.faults.differSince.getD h.now) } }))) ∧
    (∀ a b, h.fromBoot = true → (a && b) = false → h.faults.safeInRanges = 0 → (h.faults.safeInA && h.faults.safeInB) = true
        ∨ h.latched 0 5 = false → exec (.safeInput a b) s = .next (s.reacted (Head.raise
        { h with faults := { h.faults with safeInA := a, safeInB := b, differSince := if a = b then none else some (h.faults.differSince.getD h.now) } }
        0 5))) ∧
    (∀ a b, h.fromBoot = true → (a && b) = false → h.faults.safeInRanges ≠ 0 → exec (.safeInput a b) s = .next (s.reacted
        ((List.range 8).foldl (init :=
        { h with faults := { h.faults with safeInA := a, safeInB := b, differSince := if a = b then none else some (h.faults.differSince.getD h.now) } })
        fun (k : Head) r => if bit h.faults.safeInRanges r && ((h.faults.safeInA && h.faults.safeInB) || !k.latched (srcRange
        r) 3) then k.raise (srcRange r) 3 else k))) ∧
    (h.fromBoot = true → (h.faults.differSince.any fun t => t + h.faults.discrepancyMs * 1000000 ≤ h.now) = true → exec
        .safeDiscrepancy s = .next (s.reacted (h.raise 0 6))) ∧
    (∀ balls, balls < 8 → h.fromBoot = true → balls ≠ 0 → exec (.belayReadback balls) s = .next (s.reacted (Head.raise
        { h with faults := { h.faults with readback := balls } } 0 7))) ∧
    (h.fromBoot = true → exec (.belayReadback 0) s = .next (s.reacted
        ({ h with faults := { h.faults with readback := 0 } }))) ∧
    (h.fromCommission = true → h.sys.mode ≠ .safe → h.faults.kickArmed = true → h.hasS4 = false → exec .kickSend s = .next
        (s.reacted
        ({ h with faults := { h.faults with kickLast := h.faults.kickNext, kickNext := (h.faults.kickNext + 1) % 256, kickTime := h.now, aliveRun := true } }))) ∧
    (h.faults.kickArmed = true → h.faults.kickTime + h.faults.kickTimeout * 1000000 ≤ h.now → exec .kickLapsed s = .next
        (s.reacted (h.raise 0 1))) ∧
    (h.faults.aliveRun = true → exec .aliveToggle s = .next (s.reacted
        ({ h with faults := { h.faults with aliveLevel := !h.faults.aliveLevel, aliveHz := h.faults.aliveHzNext.getD h.faults.aliveHz, aliveHzNext := none } })))

/-- Field inputs and outputs, parked balls and PPS (R17, R463-R471): each event, on an object that exists and with its
cause there, ends in the state the rules give. Where the rules leave room it states the model's own choice (log entries
17, 54 and 84). -/
def Obligations.FieldRows : Prop :=
  ∀ (s : State) (h : Head), s.fresh = h →
    (∀ levels time g k j, levels < 2 ^ 32 → h.fromCommission = true → h.faults.dieLinkOk = true →
        ({ h with pins := { h.pins with fin := h.pins.fin.mapIdx fun n f => f.sample (bit levels n) time, snapTime := time } }
        : Head) = g → g.fireUnits (fun (c : UnitCfg) => c.source = 3 && ((h.pins.fin.getD (c.arg % 32) {}).sent ≠ !bit c.arg
        5 && (g.fieldIn (c.arg % 32)).level = !bit c.arg 5)) (time * 256) = k → (if ((h.pins.fin.getD (k.sys.wakeInput % 32)
        {}).sent ≠ !bit k.sys.wakeInput 5 && (g.fieldIn (k.sys.wakeInput % 32)).level = !bit k.sys.wakeInput 5) then k.wakeBy
        0 else k) = j → exec (.fieldInputSnapshot levels time) s = .next (s.reacted (((j.axes.filter fun a => a.kind =
        .stepper).map fun a => a.id).foldl (init := j) fun (h : Head) id => h.homingProgress time id))) ∧
    (∀ input, input < 32 → h.fromBoot = true → (h.fieldIn input).reversed = false → exec (.fieldInputReversed input) s =
        .next (s.reacted ((h.setFieldIn input fun f => { f with reversed := true, level := f.invalidLevel }).raise (srcInput
        input) 1))) ∧
    (∀ input, input < 32 → exec (.fieldInputReversedEnd input) s = .next (s.reacted (h.setFieldIn input fun f =>
        { f with reversed := false, level := ({ f with reversed := false } : FieldInput).seen }))) ∧
    (∀ input, input < 32 → h.fromBoot = true → (h.fieldIn input).openDetect = true → (h.fieldIn input).isOpen = false → exec
        (.fieldInputOpen input) s = .next (s.reacted ((h.setFieldIn input fun f =>
        { f with isOpen := true, level := f.invalidLevel }).raise (srcInput input) 0))) ∧
    (∀ input, input < 32 → exec (.fieldInputOpenEnd input) s = .next (s.reacted (h.setFieldIn input fun f =>
        { f with isOpen := false, level := ({ f with isOpen := false } : FieldInput).seen }))) ∧
    (∀ output, output < 4 → (h.fieldOut output).on = true → exec (.fieldOutputShort output) s = .next (s.reacted
        ((h.setFieldOut output fun o => { o.switch false with short := true, shortAt := h.now }).raise (srcOutput output)
        0))) ∧
    (∀ output, output < 4 → (h.fieldOut output).short = true → (h.fieldOut output).retryMs ≠ 0 → (h.fieldOut output).shortAt
        + (h.fieldOut output).retryMs * 1000000 ≤ h.now → exec (.shortRetry output true) s = .next (s.reacted ((h.setFieldOut
        output fun o => { o with shortAt := h.now }).raise (srcOutput output) 0))) ∧
    (∀ output, output < 4 → (h.fieldOut output).short = true → (h.fieldOut output).retryMs ≠ 0 → (h.fieldOut output).shortAt
        + (h.fieldOut output).retryMs * 1000000 ≤ h.now → exec (.shortRetry output false) s = .next (s.reacted (h.setFieldOut
        output fun o => { o.switch o.written with short := false }))) ∧
    (∀ output, output < 4 → exec (.fieldOutputOpenLoad output false) s = .next (s.reacted (h.setFieldOut output fun o =>
        { o with openLoad := false }))) ∧
    (∀ output, output < 4 → h.fromCommission = true → (h.fieldOut output).openLoad = false → (h.fieldOut output).on = true →
        exec (.fieldOutputOpenLoad output true) s = .next (s.reacted ((h.setFieldOut output fun o =>
        { o with openLoad := true }).raise (srcOutput output) 1))) ∧
    (∀ pin, pin < 40 → (h.pin pin).parked = true → exec (.pinParkEnd pin) s = .next (s.reacted ((h.reach (h.pin
        pin).parkEnd).setPin pin fun p => { p with parked := false, held := none, drives := p.own }))) ∧
    (∀ level, (h.fromCommission && h.now % 1000000000 < 100000000) = level → h.pins.ppsOut ≠ level → exec .ppsOut s = .next
        (s.reacted (Head.emit { h with pins := { h.pins with ppsOut := level } } (.pinEdge 0x101 level)))) ∧
    (∀ time, h.fromBoot = true → exec (.ppsInEdge time) s = .next (s.reacted
        ({ h with pins := { h.pins with ppsIn := time / 8 * 8 } })))

/-- Supply, clocks, temperature, droop and the RTC (R438-R460): each event, on an object that exists and with its cause
there, ends in the state the rules give. Where the rules leave room it states the model's own choice (log entries 70, 71,
72, 73 and 84). -/
def Obligations.SupplyRows : Prop :=
  ∀ (s : State) (h : Head), s.fresh = h →
    (∀ vin, h.sys.mode ≠ .off → vin < 370 ∨ h.power.inputOpen = true → exec (.vinStop vin) s = .next (s.reacted
        ((Head.enterReset { h with sys := { h.sys with porN := false }, backup := { h.backup with onVin := vin ≥ 370 } } .off
        false).setPower fun x => { x with vin, inputOpen := h.power.inputOpen && vin ≥ 370 }))) ∧
    (∀ vin, h.sys.mode ≠ .off → 6200 < vin → exec (.vinOvervoltage vin) s = .next (s.reacted (h.setPower fun x =>
        { x with vin, inputOpen := true }))) ∧
    (∀ vin, h.power.inputOpen = true → vin < 6100 → exec (.vinOvervoltageEnd vin) s = .next (s.reacted (h.setPower fun x =>
        { x with vin, inputOpen := false }))) ∧
    (∀ vin, h.sys.mode ≠ .off → vin < h.power.vinLowLevel → exec (.vinLow vin) s = .next (s.reacted ((h.setPower fun x =>
        { x with vin, vinLow := true }).report 11))) ∧
    (∀ vin, h.sys.mode ≠ .off → h.power.vinLowLevel + 50 < vin → exec (.vinLowEnd vin) s = .next (s.reacted (h.setPower fun x
        => { x with vin, vinLow := false }))) ∧
    (∀ rail, rail < 4 → h.fromBoot = true → exec (.railFault rail) s = .next (s.reacted ((h.setPower fun x =>
        { x with railFault := x.railFault ||| 2 ^ rail }).report 8))) ∧
    (h.sys.mode ≠ .off → h.power.railsGood = true → exec .railLost s = .next (s.reacted (h.fallPor.setPower fun x =>
        { x with railsGood := false, sequencing := false, retryDue := false }))) ∧
    (h.sys.mode ≠ .off → exec .referenceLost s = .next (s.reacted h.fallPor)) ∧
    (∀ c trip, c < 3 → h.fromBoot = true → (h.power.pll c).lock = true → exec (.pllLockLost c trip) s = .next (s.reacted
        (((h.setPower fun x => ({ x with ceiling := x.ceiling || trip } : Power).setPll c
        { lock := false, safe := true, lost := true, failed := 0 }).raise 0 12).post 0x1002 0 0xFFFF []))) ∧
    (∀ c, c < 3 → h.fromBoot = true → (h.power.pll c).lock = false → (h.power.pll c).failed < 3 → h.pllOff c = false → (c = 2
        → h.power.fspChange = []) → exec (.pllLocked c) s = .next (s.reacted (h.setPower fun x =>
        ({ x with relocks := if (h.power.pll c).lost then satInc 15 x.relocks else x.relocks } : Power).setPll c
        { lock := true, safe := false, lost := false, failed := 0 }))) ∧
    (∀ a rest, h.power.fspChange = a :: rest → exec .ddrFspChangeDone s = .next (s.reacted (h.setPower fun x =>
        { x with dFsp := a, fspChange := rest, pllD := if rest.isEmpty && !x.pllD.lost then { x.pllD with lock := true, safe := false } else x.pllD }))) ∧
    (∀ domain level, domain < 18 → 1 ≤ level → level ≤ 2 → h.fromBoot = true → (h.power.droop.getD domain {}).level < level →
        exec (.droopCrossing domain level) s = .next (s.reacted (h.stretched domain level))) ∧
    (∀ domain, domain < 18 → (h.power.droop.getD domain {}).level = 2 → exec (.droopRestore domain) s = .next (s.reacted
        (h.stretched domain 1))) ∧
    (∀ domain, domain < 18 → (h.power.droop.getD domain {}).level = 1 → exec (.droopRestore domain) s = .next (s.reacted
        (h.setPower fun x => { x with droop := setAt domain (fun d => { d with level := 0 }) x.droop }))) ∧
    (∀ pfd, h.sys.mode ≠ .off → exec (.thermalLimit pfd) s = .next (s.reacted ((h.setPower fun x => if pfd then
        { x with pfdLimit := true } else { x with ldLimit := true }).report 10))) ∧
    (∀ pfd, h.sys.mode ≠ .off → exec (.thermalShutdown pfd) s = .next (s.reacted ((h.setPower fun x => if pfd then
        { x with pfdShutdown := true } else { x with ldShutdown := true }).report 9))) ∧
    (exec (.thermalClear true true) s = .next (s.reacted (h.setPower fun x => { x with pfdShutdown := false }))) ∧
    (exec (.thermalClear true false) s = .next (s.reacted (h.setPower fun x => { x with pfdLimit := false }))) ∧
    (exec (.thermalClear false true) s = .next (s.reacted (h.setPower fun x => { x with ldShutdown := false }))) ∧
    (exec (.thermalClear false false) s = .next (s.reacted (h.setPower fun x => { x with ldLimit := false }))) ∧
    (exec .brownOutDetect s = .next (s.reacted ({ h with backup := { h.backup with signature := false } }))) ∧
    (exec .rtcTick s = .next (s.reacted h.rtcTick))

/-- Time base, triggers and the calendar (R178-R199): each event, on an object that exists and with its cause there, ends
in the state the rules give. Where the rules leave room it states the model's own choice (log entries 6, 9, 13, 17 and
23). -/
def Obligations.TimeRows : Prop :=
  ∀ (s : State) (h : Head), s.fresh = h →
    (∀ port message stamp x j exchange, port < 2 → h.portUp port = true → ptpHeader message.bytes = some x → x.domain =
        h.idleSettings.time.domain → message.annexE = h.idleSettings.ptpAnnexE port → (h.idleSettings.readStamps
        port).takePtp port x message.bytes (((h.idleSettings.readStamps port).ptpPort port).rxStamp stamp * 256) = (j,
        exchange) → exec (.ptpMessageRx port message stamp) s = .next (s.reacted
        ((match exchange with | some (offset, delay) => j.usePtp port offset delay | none => j).judgePorts))) ∧
    (∀ d, h.time.stepDue = some d → h.time.stepOpen = true → h.time.stepCycle ≤ h.time.cycle → exec .timeStepped s = .next
        (s.reacted (Head.post
        { (h.moveInstants d) with time := { (h.moveInstants d).time with head := ((((h.moveInstants d).time.head : Int) + d * 2 ^ 32) % 2 ^ 96).toNat, stepOpen := false, stepped := true, stepDelta := d, stepDue := none } }
        0x0502 5 0xFFFF [(8, ofSigned 64 d)]))) ∧
    ((h.time.servo = .tracking ∨ h.time.servo = .locked) → h.time.offsetAt + 4000000000 ≤ h.now → exec .servoHoldover s =
        .next (s.reacted (Head.judgePorts
        { h with time := { h.time with servo := .holdover, lockRun := 0, ports := h.time.ports.mapIdx fun (i : Nat) (x : PtpPort) => if i + 1 = h.time.source then { x with best := none, exchanges := [] } else x } }))) ∧
    (∀ port identifier stamp, port < 2 → h.portUp port = true → (h.ptpPort port).stamps.length < 16 → exec (.ptpTxStamp port
        identifier stamp) s = .next (s.reacted (h.setPtpPort port fun x =>
        { x with stamps := x.stamps ++ [(identifier % 65536, ((stamp : Int) + 48 * 256 + x.txExt * 16).toNat)] }))) ∧
    (∀ port identifier stamp, port < 2 → h.portUp port = true → 16 ≤ (h.ptpPort port).stamps.length → (h.ptpPort
        port).overflow = false → exec (.ptpTxStamp port identifier stamp) s = .next (s.reacted ((h.setPtpPort port fun x =>
        { x with dropped := satInc (2 ^ 32 - 1) x.dropped, overflow := true }).post 0x0505 5 port []))) ∧
    (∀ roundTrip, h.sys.role = .standby → h.peer.saddleUp = true → exec (.saddleDelayMeasure roundTrip) s = .next (s.reacted
        ({ h with peer := { h.peer with saddleDelay := roundTrip / 2 } }))) ∧
    (∀ trigger next t, trigger < 8 → (h.trigger trigger).next = some next → h.tickAt next = t → (t / 2 ^ 32 ≤ h.now ∨ t / 2 ^
        32 < h.time.cycleStart + h.cycleNs) → exec (.generalTriggerFire trigger) s = .next (s.reacted (((h.atTick
        t).setTrigger trigger fun g => { g with next := if g.mode = 2 then some (next + g.period) else none }).triggerFires
        trigger t))) ∧
    (∀ entry c, entry < 8192 → (h.cal.comparators.find? fun c => c.entry = entry) = some c → exec (.calendarComparatorFire
        entry) s = .next (s.reacted ((Head.reach { h with cal := { h.cal with comparators := h.cal.comparators.erase c } }
        c.time).localAction c)))

/-- Converters, streams and trigger units (R339-R374): each event, on an object that exists and with its cause there, ends
in the state the rules give. Where the rules leave room it states the model's own choice (log entries 3, 18, 56 and 84).
-/
def Obligations.ConverterRows : Prop :=
  ∀ (s : State) (h : Head), s.fresh = h →
    (∀ stream consumer c j k g, stream < 4 → (h.stream stream).cfg = some c → (h.stream stream).state = 1 → consumer ≤
        (h.stream stream).producer → (h.stream stream).consumer ≤ consumer → (h.setStreamOf stream fun s =>
        { (Stream.close stream s) with consumer }) = j → Head.drainRing stream c (2 * (j.stream stream).staged.length + 1) j
        = k → (if (k.stream stream).producer ≠ (h.stream stream).producer then k.writeControl stream else k) = g → exec
        (.consumerPoll stream consumer) s = .next (s.reacted ((if (g.stream stream).producer / max c.watermark 1 ≠ (h.stream
        stream).producer / max c.watermark 1 then g.signal c.vector else g).endStop stream))) ∧
    (∀ adc samples a t f j k, adc < 4 → h.adc adc = a → a.running = some t → samples.length = a.cfg.seq.length → ((t * 256 :
        Nat) + (if a.cfg.mode = 2 ∧ adc % 2 = 1 then roundDiv ((h.adc (adc - 1)).skew * 512) 1000 else 0)).toNat = f →
        (h.setAdc adc fun a => { a with running := none, passes := a.passes + 1, interrupted := false }) = j → ((passCodes
        a.offset a.gain a.cfg t samples).foldl (init := if a.cfg.mode = 2 ∧ adc % 2 = 1 then j.setAdc (adc - 1) fun a =>
        { a with passes := a.passes + 1 } else j) fun (g : Head) x => g.keepResult adc a.cfg x.1 x.2.1 x.2.2) = k → exec
        (.adcPassDone adc samples) s = .next (s.reacted ((List.range 4).foldl (init := k) fun (g : Head) s =>
        match (g.stream s).cfg with | none => g | some c => if takesPass adc (a.cfg.mode = 2) c then g.passFrame adc c s f ((passCodes a.offset a.gain a.cfg t samples).map fun x => (x.1, resultOf a.cfg x.1 x.2.1)) a.interrupted else g))) ∧
    (∀ input due, input < 32 → (fun (l : Latest) => !l.isOpen && l.code < 0x30 && l.run ≥ (h.acq.inputs.getD (wireInput
        l.code) {}).owCount && (l.code = input || (isDiff l.code && l.code - 0x20 = input / 2))) = due → h.acq.latest.any due
        = true → exec (.openWire input) s = .next (s.reacted ((Head.raise
        { h with acq := { h.acq with latest := h.acq.latest.map fun l => if due l then { l with isOpen := true, run := 0 } else l } }
        (srcAnalog input) 0).post 0x0C01 0 input []))) ∧
    (∀ adc offset gain k, adc < 4 → (h.adc adc).calibrating = true → Head.setAdc { h with drawn := h.drawn + 1 } adc (fun a
        =>
        { a with offset := (clampTo (-32768) 32767 offset).1, gain := (clampTo (-524288) 524288 gain).1, calTemp := toSigned 16 (ofSigned 16 (Config.freeInt h.drawn)), calibrating := false, interrupted := true, dueposted := false })
        = k → exec (.adcCalibrationDone adc offset gain) s = .next (s.reacted (k.finish (.adcCalibrated adc) Status.ok (k.adc
        adc).words))) ∧
    (∀ pair skew k, pair < 2 → (h.adc (2 * pair)).skewing = true → h.setAdc (2 * pair) (fun a =>
        { a with skewing := false, skew := (clampTo (-250) 250 skew).1 }) = k → exec (.skewCalibrationDone pair true skew) s
        = .next (s.reacted (k.finish (.adcCalibrated (2 * pair)) Status.ok (k.adc (2 * pair)).words))) ∧
    (∀ pair skew, pair < 2 → (h.adc (2 * pair)).skewing = true → exec (.skewCalibrationDone pair false skew) s = .next
        (s.reacted ((h.setAdc (2 * pair) fun a => { a with skewing := false }).finish (.adcCalibrated (2 * pair))
        Status.calSignal))) ∧
    (∀ adc temperature, adc < 4 → h.fromCommission = true → (h.adc adc).dueposted = false → 160 ≤ (temperature - (h.adc
        adc).calTemp).natAbs → exec (.adcCalDue adc temperature) s = .next (s.reacted (((h.setAdc adc fun a =>
        { a with dueposted := true }).raise (srcAnalog (32 + adc)) 2).post 0x0C03 0 adc []))) ∧
    (∀ stream consumer c, stream < 4 → (h.stream stream).cfg = some c → (h.stream stream).state = 1 → ((h.stream
        stream).producer < consumer ∨ consumer < (h.stream stream).consumer) → exec (.consumerPoll stream consumer) s = .next
        (s.reacted (((h.setStreamOf stream fun s => { s with state := 3, stopping := false, paused := false }).writeControl
        stream).post 0x0B02 0 stream []))) ∧
    (∀ stream c reason index time lost x, stream < 4 → h.stream stream = x → x.cfg = some c → x.gap = some (reason, index,
        time, lost) → x.state = 1 → x.paused = false → x.stagedBytes + 64 * (1 + x.marks.length) ≤ 1048576 → exec (.gapPacket
        stream) s = .next (s.reacted (h.setStreamOf stream fun s =>
        { s with staged := s.staged ++ packetBytes 3 stream index time (h.samplePeriod c) 0 reason (padTo 32 (pack [(8, lost), (4, s.lostTriggers)])) :: s.marks.map (fun m => packetBytes 2 stream m.index m.time (h.samplePeriod c) 0 m.info m.payload), gap := none, marks := [], lostTriggers := 0 }))) ∧
    (∀ unit c, unit < 8 → (h.unit unit).state = .holdoff → (h.unit unit).cfg = some c → c.byEvents = false → (h.unit
        unit).lastTime + c.holdoff * 256 ≤ h.now * 256 → exec (.triggerHoldoffEnd unit) s = .next (s.reacted (h.endHoldoff
        unit))) ∧
    (∀ unit c r rest block k, unit < 8 → (h.unit unit).cfg = some c → (h.unit unit).complete? = some (r, rest) → h.capturing
        unit = false → h.measure c r = (block, k) → ((k.setUnit unit fun x => { x with records := rest }).stream
        c.stream).state ≠ 1 → exec (.measurementDone unit) s = .next (s.reacted (k.setUnit unit fun x =>
        { x with records := rest }))) ∧
    (∀ unit c r rest block k j, unit < 8 → (h.unit unit).cfg = some c → (h.unit unit).complete? = some (r, rest) →
        h.capturing unit = false → h.measure c r = (block, k) → (k.setUnit unit fun x => { x with records := rest }) = j →
        (j.stream c.stream).state = 1 → exec (.measurementDone unit) s = .next (s.reacted (j.setStreamOf c.stream fun s =>
        (Stream.close c.stream s).stage (packetBytes 4 c.stream r.index (((r.frames.find? fun f => f.index = r.index).map fun
        f => f.time).getD r.time / 256) (((j.stream c.stream).cfg.map fun sc => j.samplePeriod sc).getD 0) 0 0 block)))) ∧
    (∀ unit c r rest m b k j, unit < 8 → (h.unit unit).cfg = some c → (h.unit unit).complete? = some (r, rest) →
        h.acq.capture = some m → m.unit = unit → h.segmentBytes unit c r false = (b, k) → Head.setUnit
        { k with acq := { k.acq with segments := k.acq.segments ++ [b] } } unit (fun x => if x.state = .holdoff && (if
        c.byEvents then (h.unit unit).ignore = 0 else h.now * 256 ≥ (h.unit unit).lastTime + c.holdoff * 256 : Bool) then
        ({ x with records := rest } : TrigUnit).rearm else { x with records := rest }) = j → exec (.segmentDone unit) s =
        .next (s.reacted (if j.acq.segments.length ≥ m.segments then j.endCapture else j)))

/-- Local feedback channels, observers and sensors (R236-R257): each event, on an object that exists and with its cause
there, ends in the state the rules give. Where the rules leave room it states the model's own choice (log entries 9, 46,
84 and 94). -/
def Obligations.EncoderRows : Prop :=
  ∀ (s : State) (h : Head), s.fresh = h →
    (∀ observer, observerNumber observer = true → exec (.settlingDone observer) s = .next (s.reacted (h.setObserver observer
        fun o => if o.state = .settling && o.settle = 0 then { o with state := .tracking } else o))) ∧
    (∀ observer o k, observerNumber observer = true → h.observer? observer = some o → o.predLimit < o.predRun → o.state ≠
        .noFix → (h.setObserver observer fun o => { o with state := .noFix, lone := [], lost := true }).post 0x0707 0
        observer [] = k → exec (.positionLost observer) s = .next (s.reacted
        (match k.observerAxis? observer with | some a => k.raise (srcAxis a) 7 | none => k))) ∧
    (∀ source, sourceNumber source = true → (h.sourceRun source).excluded = false → 16 ≤ (h.sourceRun source).rejected →
        source < 0x2000 → exec (.sensorSuspect source) s = .next (s.reacted (((h.setSource source fun s =>
        { s with excluded := true, good := 0 }).post 0x0705 0 (source % 0x2000) []).raise (srcAxis source) 24))) ∧
    (∀ source, sourceNumber source = true → (h.sourceRun source).excluded = false → 16 ≤ (h.sourceRun source).rejected →
        0x2000 ≤ source → exec (.sensorSuspect source) s = .next (s.reacted (((h.setSource source fun s =>
        { s with excluded := true, good := 0 }).post 0x0705 0 (source % 0x2000) []).raise (srcLocal (source - 0x2000)) 5))) ∧
    (∀ source, sourceNumber source = true → (h.sourceRun source).excluded = true → 64 ≤ (h.sourceRun source).good → exec
        (.sensorReadmitted source) s = .next (s.reacted ((h.setSource source fun _ => {}).post 0x0706 0 (source % 0x2000)
        []))) ∧
    (∀ channel positive, channel < 8 → (h.channel channel).cfg.mode = 1 → (h.channel channel).cfg.filter ≤ positive.stable →
        exec (.quadratureEdge channel positive) s = .next (s.reacted (h.countEdges channel (positive.value = bit (h.channel
        channel).cfg.flags 1) 1))) ∧
    (∀ channel stable, channel < 8 → (h.channel channel).cfg.mode = 1 → (h.channel channel).cfg.filter ≤ stable → ((h.channel
        channel).quadCycle.all fun c => c + 64 < h.time.cycle) = true → exec (.quadError ⟨channel, stable⟩) s = .next
        (s.reacted (((h.setChannel channel fun f =>
        { (f.setFlags chQuadError) with quadErrors := satInc 0xFFFF f.quadErrors, quadCycle := some h.time.cycle }).post
        0x0709 0 channel []).raise (srcLocal channel) 2))) ∧
    (∀ channel stable, channel < 8 → (h.channel channel).cfg.mode = 1 → (h.channel channel).cfg.filter ≤ stable → ((h.channel
        channel).quadCycle.all fun c => c + 64 < h.time.cycle) = false → exec (.quadError ⟨channel, stable⟩) s = .next
        (s.reacted (h.setChannel channel fun f =>
        { (f.setFlags chQuadError) with quadErrors := satInc 0xFFFF f.quadErrors, quadCycle := some h.time.cycle }))) ∧
    (∀ channel time gated f, channel < 8 → h.channel channel = f → f.cfg.mode = 1 → f.cfg.filter ≤ gated.stable → (bit
        f.cfg.flags 0 = true → gated.value = true) → (f.indexDir = some (f.has chDirection) && indexDrifts f.cfg (toSigned 32
        (f.count + 2 ^ 32 - f.indexCount))) = false → exec (.indexEdge channel time gated) s = .next (s.reacted (h.setChannel
        channel fun g =>
        { (g.setFlags chIndexSeen) with indexCount := g.count, indexDelta := toSigned 32 (f.count + 2 ^ 32 - f.indexCount), indexTime := time, indexDir := some (f.has chDirection) }))) ∧
    (∀ channel time gated f, channel < 8 → h.channel channel = f → f.cfg.mode = 1 → f.cfg.filter ≤ gated.stable → (bit
        f.cfg.flags 0 = true → gated.value = true) → (f.indexDir = some (f.has chDirection) && indexDrifts f.cfg (toSigned 32
        (f.count + 2 ^ 32 - f.indexCount))) = true → exec (.indexEdge channel time gated) s = .next (s.reacted
        ((((h.setChannel channel fun g =>
        { (g.setFlags chIndexSeen) with indexCount := g.count, indexDelta := toSigned 32 (f.count + 2 ^ 32 - f.indexCount), indexTime := time, indexDir := some (f.has chDirection) }).setChannel
        channel fun f => f.setFlags chIndexDrift).post 0x0702 0 channel []).raise (srcLocal channel) 1))) ∧
    (∀ channel f, channel < 8 → h.channel channel = f → f.cfg.dirHyst ≤ f.dirRun.1 → 0 < f.dirRun.1 → f.dirPosted = false →
        exec (.direction channel) s = .next (s.reacted ((h.setChannel channel fun f =>
        { f with flags := (f.flags ^^^ chDirection) ||| chDirChanged, dirRun := (0, 0), dirPosted := true }).postAt 0x0703 0
        channel f.dirRun.2 h.time.cycle []))) ∧
    (∀ channel f, channel < 8 → h.channel channel = f → f.cfg.dirHyst ≤ f.dirRun.1 → 0 < f.dirRun.1 → f.dirPosted = true →
        exec (.direction channel) s = .next (s.reacted (h.setChannel channel fun f =>
        { f with flags := (f.flags ^^^ chDirection) ||| chDirChanged, dirRun := (0, 0), dirPosted := true }))) ∧
    (∀ channel code new old k, channel < 8 → (h.channel channel).cfg.mode = 3 → (h.channel channel).cfg.filter ≤ code.stable
        → hallSector code.value = some new → (h.channel channel).sector = some old → (h.setChannel channel fun f =>
        { f with sector := some new }) = k → exec (.hallTransition channel code) s = .next (s.reacted
        (match (new + 6 - old) % 6 with | 0 => k | 1 => k.countEdges channel false 1 | 2 => (k.setChannel channel fun f => f.setFlags chHallSkip).countEdges channel false 2 | 3 => k.hallInvalid channel | 4 => (k.setChannel channel fun f => f.setFlags chHallSkip).countEdges channel true 2 | _ => k.countEdges channel true 1))) ∧
    (∀ channel code, channel < 8 → (h.channel channel).cfg.mode = 3 → (h.channel channel).cfg.filter ≤ code.stable →
        hallSector code.value = none → exec (.hallTransition channel code) s = .next (s.reacted ((h.setChannel channel fun f
        => { f with sector := none }).hallInvalid channel))) ∧
    (∀ channel frame f k, channel < 8 → h.channel channel = f → f.cfg.mode = 2 → f.ssiBusy = true → ((h.setChannel channel
        fun f => { f with ssiBusy := false }).emit (.ssiClock channel (f.cfg.ssiBits + 1) (f.cfg.clkDiv * 10))) = k →
        ssiContent f.cfg frame = true → exec (.ssiFrameDone channel true frame false) s = .next (s.reacted (k.ssiReading
        channel (ssiPosition f.cfg (frame % 2 ^ f.cfg.ssiBits))))) ∧
    (∀ channel frame f k, channel < 8 → h.channel channel = f → f.cfg.mode = 2 → f.ssiBusy = true → ((h.setChannel channel
        fun f => { f with ssiBusy := false }).emit (.ssiClock channel (f.cfg.ssiBits + 1) (f.cfg.clkDiv * 10))) = k →
        ssiContent f.cfg frame = false → exec (.ssiFrameDone channel true frame false) s = .next (s.reacted (k.setChannel
        channel fun f => f.setFlags chFrameError))) ∧
    (∀ channel frame extra k, channel < 8 → (h.channel channel).cfg.mode = 2 → (h.channel channel).ssiBusy = true →
        (h.setChannel channel fun f => { f with ssiBusy := false }) = k → exec (.ssiFrameDone channel false frame extra) s =
        .next (s.reacted (k.setChannel channel fun f => f.setFlags chFrameMissing))) ∧
    (∀ channel frame f k, channel < 8 → h.channel channel = f → f.cfg.mode = 2 → f.ssiBusy = true → ((h.setChannel channel
        fun f => { f with ssiBusy := false }).emit (.ssiClock channel (f.cfg.ssiBits + 1) (f.cfg.clkDiv * 10))) = k → exec
        (.ssiFrameDone channel true frame true) s = .next (s.reacted (((k.setChannel channel fun f =>
        { (f.setFlags chFrameAbort) with aborts := satInc 0xFFFF f.aborts }).post 0x0701 0 channel []).raise (srcLocal
        channel) 0))) ∧
    (∀ channel f, channel < 8 → h.channel channel = f → f.has chResync = true → f.cfg.resyncCount ≤ f.run.length → exec
        (.resynced channel) s = .next (s.reacted ((h.setChannel channel fun g =>
        { (g.clearFlags chResync) with run := [], obs := { (if g.obs.state = .noFix then g.obs.fix h.cycleNs g.obs.bw (f.run.headD 0 * 256) else g.obs) with lost := false }, count := f.run.headD 0 }).post
        0x0704 0 channel [(4, f.outage)])))

/-- Stepper axes (R317-R338): each event, on an object that exists and with its cause there, ends in the state the rules
give. Where the rules leave room it states the model's own choice (log entries 11, 30, 53 and 84). -/
def Obligations.StepperRows : Prop :=
  ∀ (s : State) (h : Head), s.fresh = h →
    (∀ axis a g t e shift, axis < 4096 → h.axis? axis = some a → a.step.homing = some g → h.latchInstant a g = some t →
        a.localStep = false → g.homePos * 65536 - (a.step.at t).1 = shift → (if a.step.cfg.encoder = false then none else if
        a.localStep then (h.channels.find? fun c => c.cfg.use = 1 && c.cfg.owner = a.id).map fun c => toSigned 32 (if g.mode
        = 2 then c.indexCount else c.count) else h.encoder? a) = e → exec (.homingLatch axis) s = .next (s.reacted (h.setStep
        axis fun s =>
        { s with ramp := some (planRamp h.now ((a.step.at h.now).1 + shift) (a.step.at h.now).2 g.homePos g.vcreep (a.step.limits.getD 2 (1, 1)).2), pos := (a.step.at h.now).1 + shift, encOffset := match e with | some n => g.homePos - s.encoderSteps n | none => s.encOffset, homing := some { g with phase := .toHome } }))) ∧
    (∀ axis a g t e shift, axis < 4096 → h.axis? axis = some a → a.step.homing = some g → h.latchInstant a g = some t →
        a.localStep = true → g.homePos * 65536 - roundDiv ((h.steps.getD a.stepChannel {}).accAt t) 65536 = shift → (if
        a.step.cfg.encoder = false then none else if a.localStep then (h.channels.find? fun c => c.cfg.use = 1 && c.cfg.owner
        = a.id).map fun c => toSigned 32 (if g.mode = 2 then c.indexCount else c.count) else h.encoder? a) = e → exec
        (.homingLatch axis) s = .next (s.reacted (Head.setStep
        { h with steps := setAt a.stepChannel (fun (c : StepChannel) => { c with acc := c.acc + shift * 65536 }) h.steps }
        axis fun s =>
        { s with ramp := some (planRamp h.now ((a.step.at h.now).1 + shift) (a.step.at h.now).2 g.homePos g.vcreep (a.step.limits.getD 2 (1, 1)).2), pos := (a.step.at h.now).1 + shift, encOffset := match e with | some n => g.homePos - s.encoderSteps n | none => s.encOffset, homing := some { g with phase := .toHome } }))) ∧
    (∀ channel, channel < 8 → (h.axes.find? fun a => a.localStep && a.stepChannel = channel) = none → exec (.bridgeFault
        channel true) s = .next (s.reacted
        ({ h with steps := setAt channel (fun (c : StepChannel) => { c with fault := true, dir := false, vel := 0, ticks := 0, delayed := [], duty := (0, 0, 0, 0) }) h.steps }))) ∧
    (∀ channel, channel < 8 → exec (.bridgeFault channel false) s = .next (s.reacted
        ({ h with steps := setAt channel (fun (c : StepChannel) => { c with fault := false }) h.steps }))) ∧
    (∀ channel a k, channel < 8 →
        { h with steps := setAt channel (fun (c : StepChannel) => { c with fault := true, dir := false, vel := 0, ticks := 0, delayed := [], duty := (0, 0, 0, 0) }) h.steps }
        = k → (k.axes.find? fun a => a.localStep && a.stepChannel = channel) = some a → exec (.bridgeFault channel true) s =
        .next (s.reacted (((k.setStep a.id fun s => Stepper.unhome { s with flags := s.flags ||| 0x100 }).raise (srcAxis
        a.id) 10).post 0x0A08 0 a.id []))) ∧
    (∀ axis a, axis < 4096 → h.axis? axis = some a → a.kind = .stepper → a.step.cfg.encoder = true → a.step.cfg.stallCycles ≤
        a.step.stallRun → exec (.stall axis) s = .next (s.reacted (((h.setStep axis fun s => Stepper.unhome
        { s with flags := s.flags ||| 0x40, stallRun := 0 }).raise (srcAxis axis) 9).post 0x0A05 0 axis []))) ∧
    (∀ axis a k, axis < 4096 → h.axis? axis = some a → a.kind = .stepper → a.step.state = .moving → (a.step.group.all fun l
        => l = axis) = true → (a.step.ramp.all fun r => r.ends ≤ h.now) = true → ((h.members a).map fun x => x.id).foldl
        (init := h) (fun (h : Head) id => h.restSteps id) = k → exec (.stepperDone axis) s = .next (s.reacted ((k.postFor
        0x0A01 axis (.stepped axis)).finish (.stepped axis) Status.ok))) ∧
    (∀ axis a, axis < 4096 → h.axis? axis = some a → a.kind = .stepper → a.step.state = .stopping → (a.step.ramp.all fun r =>
        r.ends ≤ h.now) = true → exec (.stepperStopDone axis) s = .next (s.reacted (((h.restSteps axis).postFor 0x0A02 axis
        (.stepStopped axis)).finish (.stepStopped axis) Status.ok))) ∧
    (∀ axis a, axis < 4096 → h.axis? axis = some a → a.kind = .stepper → (a.step.state = .moving ∨ (a.step.state = .stopping
        ∧ a.step.quick = false)) → 0 < (a.step.at h.now).2 → h.stepInput a.step 0 = true → exec (.limitTripped axis true) s =
        .next (s.reacted (((h.raise (srcAxis axis) 26).post 0x0A06 0 axis []).stopSteps a 1 true false Status.stepStopped))) ∧
    (∀ axis a, axis < 4096 → h.axis? axis = some a → a.kind = .stepper → (a.step.state = .moving ∨ (a.step.state = .stopping
        ∧ a.step.quick = false)) → (a.step.at h.now).2 < 0 → h.stepInput a.step 1 = true → exec (.limitTripped axis false) s
        = .next (s.reacted (((h.raise (srcAxis axis) 26).post 0x0A06 0 axis []).stopSteps a 1 true false
        Status.stepStopped))) ∧
    (∀ axis a k, axis < 4096 → h.axis? axis = some a → (a.step.homing.any fun g => g.phase = .toHome) = true →
        (a.step.ramp.all fun r => r.ends ≤ h.now) = true → (h.setStep axis fun s =>
        { s with pos := (s.at h.now).1, ramp := none, state := .idle, homing := none, vel := 0, lastMotion := some h.now, flags := s.flags ||| 1 })
        = k → exec (.homed axis) s = .next (s.reacted ((k.postFor 0x0A03 axis (.homed axis)).finish (.homed axis)
        Status.ok))) ∧
    (∀ axis a, axis < 4096 → h.axis? axis = some a → (a.step.homing.any fun g => h.homingFails a g) = true → exec
        (.homingFailed axis) s = .next (s.reacted (h.failHoming a))) ∧
    (∀ input a b k, input < 32 → (h.axes.find? fun a => a.kind = .stepper && (List.range 3).any fun k => a.step.inputOf k =
        input) = some a → h.chattering input = true → h.latched (srcInput input) 2 = false → ((h.setStep a.id fun s =>
        { s with flags := s.flags ||| 0x80 }).raise (srcInput input) 2).post 0x0A07 0 a.id [] = k → k.axis? a.id = some b →
        b.step.homing = none → exec (.chatter input) s = .next (s.reacted (k.stopSteps b 0 false false Status.stepStopped))) ∧
    (∀ input a b g k, input < 32 → (h.axes.find? fun a => a.kind = .stepper && (List.range 3).any fun k => a.step.inputOf k =
        input) = some a → h.chattering input = true → h.latched (srcInput input) 2 = false → ((h.setStep a.id fun s =>
        { s with flags := s.flags ||| 0x80 }).raise (srcInput input) 2).post 0x0A07 0 a.id [] = k → k.axis? a.id = some b →
        b.step.homing = some g → exec (.chatter input) s = .next (s.reacted (if k.homingFails b g then k.failHoming b else
        k.stopSteps b 2 false false Status.stepStopped)))

/-- The redundant pair (R375-R398): each event, on an object that exists and with its cause there, ends in the state the
rules give. Where the rules leave room it states the model's own choice (log entries 17, 62, 76, 79, 84 and 104). -/
def Obligations.PeerRows : Prop :=
  ∀ (s : State) (h : Head), s.fresh = h →
    (∀ j k, h.commands = true → 2 ≤ h.peer.deposeRun.1 → ((h.setRole .none).dropGroups).finish .transition Status.badState =
        j → (Head.post
        { j with sys := { j.sys with transition := none, waitingWake := false }, net := { j.net with running := false, switch := none, waiting := [] }, peer := { j.peer with deposed := true, deposeRun := (0, 0), grant := none, switchover := none } }
        0x0D08 0 0xFFFF []).raise 0 18 = k → exec .deposed s = .next (s.reacted (if k.sys.mode = .safe then k else
        k.reachMode .safe 0 9 none))) ∧
    (∀ g k, (h.sys.role = .standby ∨ h.sys.role = .active) → h.peer.heard = false → h.peer.missedCycle ≠ some h.time.cycle →
        h.reach h.heartbeatBy = g → Head.restartLanes
        { g with peer := { g.peer with missed := satInc 255 g.peer.missed, missedCycle := some g.time.cycle } } = k →
        k.mayTakeOver = false → (k.peer.missed < 2 ∨ k.peer.lostPosted = true) → exec .heartbeatMissing s = .next (s.reacted
        k)) ∧
    (∀ bytes, h.peer.saddleUp = true → h.fromBoot = true → h.peer.heard = false → heartbeatOk bytes = true →
        h.heartbeatInTime = true → exec (.heartbeatRx bytes) s = .next (s.reacted (h.hear (bytes.drop 8)))) ∧
    (∀ g k, (h.sys.role = .standby ∨ h.sys.role = .active) → h.peer.heard = false → h.peer.missedCycle ≠ some h.time.cycle →
        h.reach h.heartbeatBy = g → Head.restartLanes
        { g with peer := { g.peer with missed := satInc 255 g.peer.missed, missedCycle := some g.time.cycle } } = k →
        k.mayTakeOver = true → exec .heartbeatMissing s = .next (s.reacted k.takeOver)) ∧
    (∀ g k, (h.sys.role = .standby ∨ h.sys.role = .active) → h.peer.heard = false → h.peer.missedCycle ≠ some h.time.cycle →
        h.reach h.heartbeatBy = g → Head.restartLanes
        { g with peer := { g.peer with missed := satInc 255 g.peer.missed, missedCycle := some g.time.cycle } } = k →
        k.mayTakeOver = false → 2 ≤ k.peer.missed → k.peer.lostPosted = false → exec .heartbeatMissing s = .next (s.reacted
        ((Head.post { k with peer := { k.peer with lostPosted := true } } 0x0D06 0 0xFFFF []).raise 0 16))) ∧
    (∀ bytes kind count first body k, h.sys.role = .standby → h.peer.saddleUp = true → readSection bytes = some (kind, count,
        first, body) → h.takeSection kind count first body = some k → exec (.mirrorSectionRx bytes) s = .next (s.reacted
        ({ k with peer := { k.peer with sections := k.peer.sections ++ [body] } }))) ∧
    (∀ bytes body, h.sys.role = .active → h.peer.saddleUp = true → readSection bytes = some (6, 1, 0, body) → body.length =
        16 → exec (.mirrorSectionRx bytes) s = .next (s.reacted (h.takeReport body))) ∧
    (∀ bytes body x, h.sys.role = .standby → h.peer.saddleUp = true → readSection bytes = some (7, 1, 0, body) → readSetting
        body = some x → exec (.settingRx bytes) s = .next (s.reacted (h.receiveSetting x))) ∧
    (∀ r, h.sys.role = .active → h.peer.grant = some r → r ≤ h.time.cycle → exec .handover s = .next (s.reacted (h.giveUp
        r))) ∧
    (h.sys.role = .standby → bit h.peer.flags 2 = true → h.peer.returnCycle ≠ 0 → h.peer.returnCycle ≤ h.time.cycle → exec
        .handover s = .next (s.reacted (h.takeNetwork h.peer.returnCycle)))

/-- Sessions, modules, images, debug and the test access port (R311, R427-R437): each event, on an object that exists and
with its cause there, ends in the state the rules give. Where the rules leave room it states the model's own choice (log
entries 6, 69 and 74). -/
def Obligations.SecurityRows : Prop :=
  ∀ (s : State) (h : Head), s.fresh = h →
    (∀ session x, 1 ≤ session → session ≤ 15 → h.session? session = some x → x.lastUse + h.sec.sessionIdle * 1000000000 ≤
        h.now → exec (.sessionIdleTimeout session) s = .next (s.reacted (h.closeSession session))) ∧
    (∀ d t, h.sec.debugSession = some d → d.ends = some t → t ≤ h.now → exec .debugSessionExpiry s = .next (s.reacted
        h.endDebug)) ∧
    (∀ l, h.compute.loading = some l → l.2.2.2 + 10000000000 ≤ h.now → exec .moduleLoadTimeout s = .next (s.reacted
        ({ h with compute := { h.compute with loading := none } }))) ∧
    (∀ t, h.sec.transfer = some t → t.last + 10000000000 ≤ h.now → exec .imageTransferTimeout s = .next (s.reacted
        ({ h with sec := { h.sec with transfer := none } }))) ∧
    (∀ kind tile core c, coreOf kind tile core = some c → h.mayHalt c = true → exec (.debugHalt kind tile core) s = .next
        (s.reacted (h.haltCore c))) ∧
    (∀ kind tile core c, coreOf kind tile core = some c → h.fromBoot = true → h.sec.debugLevel = 2 → h.sec.halted.contains c
        = true → exec (.debugStep kind tile core) s = .next (s.reacted (h.stepHalted c))) ∧
    (∀ kind tile core c, coreOf kind tile core = some c → h.fromBoot = true → h.sec.debugLevel = 2 → exec (.debugResume kind
        tile core) s = .next (s.reacted ({ h with sec := { h.sec with halted := h.sec.halted.filter fun x => x ≠ c } }))) ∧
    (h.tapPowered = true → exec .jtagIdcode s = .next (s.reacted (Head.selectTap
        { h with sec := { h.sec with scanDrives := false } } .idcode (wordBits 32 idcode)))) ∧
    (h.tapPowered = true → exec .jtagBypass s = .next (s.reacted (Head.selectTap
        { h with sec := { h.sec with scanDrives := false } } .bypass [false]))) ∧
    (∀ chain, exec (.jtagExtest chain) s = .next (s.reacted (h.scan .extest (cells chain) true (cells h.sec.boundary)))) ∧
    (∀ balls chain, exec (.jtagSamplePreload balls chain) s = .next (s.reacted (h.scan .samplePreload (cells chain) false
        (cells balls)))) ∧
    (∀ chain, exec (.jtagIntest chain) s = .next (s.reacted (h.scan .intest (cells chain) false (cells h.sec.boundary)))) ∧
    (exec .jtagClamp s = .next (s.reacted (h.scan .clamp h.sec.boundary true [false])))
end

