-- ==== Sys2Proof/Laws/Commands.lean ====
section
/-! SUPPORT. What the shared shapes of the rows answer: a host command refused, finished at once, running on or owed, and an
event. -/
namespace Sys2Proof.Machine

/-- An event on an object that exists answers the event's effect. -/
theorem event_next (f : Head → Head) (s : State) : eventExec true f s = .next (s.reacted (f s.fresh)) := rfl

/-- An event on an object that exists, its effect known. -/
theorem event_reacts {b : Bool} {f : Head → Head} {s : State} {k : Head} (o : b = true) (e : f s.fresh = k) :
    eventExec b f s = .next (s.reacted k) := by
  subst o e
  rfl

/-- An event on an object that does not exist stops the machine. -/
theorem event_stops (f : Head → Head) (s : State) : eventExec false f s = .fault .noSuchObject := rfl

/-- A host command from a queue that does not exist stops the machine. -/
theorem host_stops (c : Command) (p : Packet) (s : State) (q : ¬ p.queue < 8) : hostExec c p s = .fault .noSuchObject := by
  unfold hostExec
  rw [if_neg q]

/-- A served item is the item of no group. -/
theorem serves_next {s : State} {c : Command} {p : Packet} (v : s.serves c p) :
    hostExec c p s = .next (s.reacted (applyItem c p s.fresh)) := by
  obtain ⟨q, boot, late, group, -⟩ := v
  have row : hostRow c p s = applyItem c p s.fresh := by
    show runItem c p s.fresh = _
    unfold runItem
    simp only [boot, late, group]
    simp
  unfold hostExec
  rw [if_pos q, row]
  rfl

/-- A served item that finishes at once. -/
theorem answered_next {s : State} {c : Command} {p : Packet} (v : s.serves c p)
    (w : (c.effect p (s.taken p)).wait = none) :
    hostExec c p s = .next (s.answered c p (c.effect p (s.taken p)).head (c.effect p (s.taken p)).reply) := by
  rw [serves_next v]
  have j := v.2.2.2.2
  unfold applyItem State.answered
  simp only [j]
  have w : (c.effect p (acceptPacket p s.fresh)).wait = none := w
  rw [w]
  rfl

/-- A served item that runs on. -/
theorem accepted_next {s : State} {c : Command} {p : Packet} {a : Await} (v : s.serves c p) (r : s.room p)
    (w : (c.effect p (s.taken p)).wait = some a) (o : (c.effect p (s.taken p)).owed = false) :
    hostExec c p s = .next (s.accepted c p (c.effect p (s.taken p)).head (c.effect p (s.taken p)).reply a
      (c.effect p (s.taken p)).final) := by
  rw [serves_next v]
  have j := v.2.2.2.2
  unfold applyItem State.accepted
  simp only [j]
  have w : (c.effect p (acceptPacket p s.fresh)).wait = some a := w
  have o : (c.effect p (acceptPacket p s.fresh)).owed = false := o
  have r : ¬ ((acceptPacket p s.fresh).queue p.queue).pendingAsync ≥ 64 := Nat.not_le.mpr r
  rw [w]
  simp only [o]
  simp only [r]
  rfl

/-- A served item that owes its one reply. -/
theorem owing_next {s : State} {c : Command} {p : Packet} {a : Await} (v : s.serves c p)
    (w : (c.effect p (s.taken p)).wait = some a) (o : (c.effect p (s.taken p)).owed = true)
    (f : (c.effect p (s.taken p)).final = none) :
    hostExec c p s = .next (s.owing c p (c.effect p (s.taken p)).head a) := by
  rw [serves_next v]
  have j := v.2.2.2.2
  unfold applyItem State.owing
  simp only [j]
  have w : (c.effect p (acceptPacket p s.fresh)).wait = some a := w
  have o : (c.effect p (acceptPacket p s.fresh)).owed = true := o
  have f : (c.effect p (acceptPacket p s.fresh)).final = none := f
  rw [w]
  simp only [o, f]
  rfl

/-- A served item whose effect is known: it finishes at once. -/
theorem answered_of {s : State} {c : Command} {p : Packet} {k : Head} {r : List Byte} (v : s.serves c p)
    (e : c.effect p (s.taken p) = { head := k, reply := r }) : hostExec c p s = .next (s.answered c p k r) := by
  rw [answered_next v (by rw [e]), e]

/-- A served item whose effect is known: it runs on. -/
theorem accepted_of {s : State} {c : Command} {p : Packet} {k : Head} {r : List Byte} {a : Await} (v : s.serves c p)
    (room : s.room p) (e : c.effect p (s.taken p) = { head := k, reply := r, wait := some a }) :
    hostExec c p s = .next (s.accepted c p k r a) := by
  rw [accepted_next v room (a := a) (by rw [e]) (by rw [e]), e]

/-- A served item whose effect is known: it runs on, and its final status is known already. -/
theorem accepted_final {s : State} {c : Command} {p : Packet} {k : Head} {r : List Byte} {a : Await}
    {f : Option (Nat × List Byte)} (v : s.serves c p) (room : s.room p)
    (e : c.effect p (s.taken p) = { head := k, reply := r, wait := some a, final := f }) :
    hostExec c p s = .next (s.accepted c p k r a f) := by
  rw [accepted_next v room (a := a) (by rw [e]) (by rw [e]), e]

/-- A served item whose effect is known: it owes its reply. -/
theorem owing_of {s : State} {c : Command} {p : Packet} {k : Head} {r : List Byte} {a : Await} (v : s.serves c p)
    (e : c.effect p (s.taken p) = { head := k, reply := r, wait := some a, owed := true }) :
    hostExec c p s = .next (s.owing c p k a) := by
  rw [owing_next v (a := a) (by rw [e]) (by rw [e]) (by rw [e]), e]

/-- After stages 1 and 2 an item of a queue is judged as it is judged again at its group's effect instant. -/
theorem judge_again {c : Command} {p : Packet} {h : Head} (a : headersBad p = false) (b : macsOk c.opcode p h = true) :
    judge c .queue p h = judge c .again p h := by
  unfold judge stages
  rw [a, b]
  rfl

end Sys2Proof.Machine
end

