-- ==== Sys2Proof/Laws/State.lean ====
section
/-! SUPPORT. What each named update of the head leaves alone: one lemma per field per update, all by computation. -/
namespace Sys2Proof.Machine

@[simp] theorem Head.setQueue_sys (h : Head) (q : Nat) (f : Queue → Queue) :
    (h.setQueue q f).sys = h.sys := rfl
@[simp] theorem Head.setQueue_ethq (h : Head) (q : Nat) (f : Queue → Queue) :
    (h.setQueue q f).ethq = h.ethq := rfl
@[simp] theorem Head.setQueue_fences (h : Head) (q : Nat) (f : Queue → Queue) :
    (h.setQueue q f).fences = h.fences := rfl
@[simp] theorem Head.setQueue_turn (h : Head) (q : Nat) (f : Queue → Queue) :
    (h.setQueue q f).turn = h.turn := rfl
@[simp] theorem Head.setQueue_evq (h : Head) (q : Nat) (f : Queue → Queue) :
    (h.setQueue q f).evq = h.evq := rfl
@[simp] theorem Head.setQueue_eth (h : Head) (q : Nat) (f : Queue → Queue) :
    (h.setQueue q f).eth = h.eth := rfl
@[simp] theorem Head.setQueue_pcie (h : Head) (q : Nat) (f : Queue → Queue) :
    (h.setQueue q f).pcie = h.pcie := rfl
@[simp] theorem Head.setQueue_faults (h : Head) (q : Nat) (f : Queue → Queue) :
    (h.setQueue q f).faults = h.faults := rfl
@[simp] theorem Head.setQueue_sec (h : Head) (q : Nat) (f : Queue → Queue) :
    (h.setQueue q f).sec = h.sec := rfl
@[simp] theorem Head.setQueue_backup (h : Head) (q : Nat) (f : Queue → Queue) :
    (h.setQueue q f).backup = h.backup := rfl
@[simp] theorem Head.setQueue_power (h : Head) (q : Nat) (f : Queue → Queue) :
    (h.setQueue q f).power = h.power := rfl
@[simp] theorem Head.setQueue_pins (h : Head) (q : Nat) (f : Queue → Queue) :
    (h.setQueue q f).pins = h.pins := rfl
@[simp] theorem Head.setQueue_net (h : Head) (q : Nat) (f : Queue → Queue) :
    (h.setQueue q f).net = h.net := rfl
@[simp] theorem Head.setQueue_ranges (h : Head) (q : Nat) (f : Queue → Queue) :
    (h.setQueue q f).ranges = h.ranges := rfl
@[simp] theorem Head.setQueue_axes (h : Head) (q : Nat) (f : Queue → Queue) :
    (h.setQueue q f).axes = h.axes := rfl
@[simp] theorem Head.setQueue_movers (h : Head) (q : Nat) (f : Queue → Queue) :
    (h.setQueue q f).movers = h.movers := rfl
@[simp] theorem Head.setQueue_tracks (h : Head) (q : Nat) (f : Queue → Queue) :
    (h.setQueue q f).tracks = h.tracks := rfl
@[simp] theorem Head.setQueue_binds (h : Head) (q : Nat) (f : Queue → Queue) :
    (h.setQueue q f).binds = h.binds := rfl
@[simp] theorem Head.setQueue_deferred (h : Head) (q : Nat) (f : Queue → Queue) :
    (h.setQueue q f).deferred = h.deferred := rfl
@[simp] theorem Head.setQueue_terrain (h : Head) (q : Nat) (f : Queue → Queue) :
    (h.setQueue q f).terrain = h.terrain := rfl
@[simp] theorem Head.setQueue_blends (h : Head) (q : Nat) (f : Queue → Queue) :
    (h.setQueue q f).blends = h.blends := rfl
@[simp] theorem Head.setQueue_time (h : Head) (q : Nat) (f : Queue → Queue) :
    (h.setQueue q f).time = h.time := rfl
@[simp] theorem Head.setQueue_cal (h : Head) (q : Nat) (f : Queue → Queue) :
    (h.setQueue q f).cal = h.cal := rfl
@[simp] theorem Head.setQueue_channels (h : Head) (q : Nat) (f : Queue → Queue) :
    (h.setQueue q f).channels = h.channels := rfl
@[simp] theorem Head.setQueue_compute (h : Head) (q : Nat) (f : Queue → Queue) :
    (h.setQueue q f).compute = h.compute := rfl
@[simp] theorem Head.setQueue_steps (h : Head) (q : Nat) (f : Queue → Queue) :
    (h.setQueue q f).steps = h.steps := rfl
@[simp] theorem Head.setQueue_microsteps (h : Head) (q : Nat) (f : Queue → Queue) :
    (h.setQueue q f).microsteps = h.microsteps := rfl
@[simp] theorem Head.setQueue_acq (h : Head) (q : Nat) (f : Queue → Queue) :
    (h.setQueue q f).acq = h.acq := rfl
@[simp] theorem Head.setQueue_peer (h : Head) (q : Nat) (f : Queue → Queue) :
    (h.setQueue q f).peer = h.peer := rfl
@[simp] theorem Head.setQueue_sent (h : Head) (q : Nat) (f : Queue → Queue) :
    (h.setQueue q f).sent = h.sent := rfl
@[simp] theorem Head.setQueue_drawn (h : Head) (q : Nat) (f : Queue → Queue) :
    (h.setQueue q f).drawn = h.drawn := rfl

@[simp] theorem Head.setEthQueue_sys (h : Head) (q : Nat) (f : EthQueue → EthQueue) :
    (h.setEthQueue q f).sys = h.sys := rfl
@[simp] theorem Head.setEthQueue_queues (h : Head) (q : Nat) (f : EthQueue → EthQueue) :
    (h.setEthQueue q f).queues = h.queues := rfl
@[simp] theorem Head.setEthQueue_fences (h : Head) (q : Nat) (f : EthQueue → EthQueue) :
    (h.setEthQueue q f).fences = h.fences := rfl
@[simp] theorem Head.setEthQueue_turn (h : Head) (q : Nat) (f : EthQueue → EthQueue) :
    (h.setEthQueue q f).turn = h.turn := rfl
@[simp] theorem Head.setEthQueue_evq (h : Head) (q : Nat) (f : EthQueue → EthQueue) :
    (h.setEthQueue q f).evq = h.evq := rfl
@[simp] theorem Head.setEthQueue_eth (h : Head) (q : Nat) (f : EthQueue → EthQueue) :
    (h.setEthQueue q f).eth = h.eth := rfl
@[simp] theorem Head.setEthQueue_pcie (h : Head) (q : Nat) (f : EthQueue → EthQueue) :
    (h.setEthQueue q f).pcie = h.pcie := rfl
@[simp] theorem Head.setEthQueue_faults (h : Head) (q : Nat) (f : EthQueue → EthQueue) :
    (h.setEthQueue q f).faults = h.faults := rfl
@[simp] theorem Head.setEthQueue_sec (h : Head) (q : Nat) (f : EthQueue → EthQueue) :
    (h.setEthQueue q f).sec = h.sec := rfl
@[simp] theorem Head.setEthQueue_backup (h : Head) (q : Nat) (f : EthQueue → EthQueue) :
    (h.setEthQueue q f).backup = h.backup := rfl
@[simp] theorem Head.setEthQueue_power (h : Head) (q : Nat) (f : EthQueue → EthQueue) :
    (h.setEthQueue q f).power = h.power := rfl
@[simp] theorem Head.setEthQueue_pins (h : Head) (q : Nat) (f : EthQueue → EthQueue) :
    (h.setEthQueue q f).pins = h.pins := rfl
@[simp] theorem Head.setEthQueue_net (h : Head) (q : Nat) (f : EthQueue → EthQueue) :
    (h.setEthQueue q f).net = h.net := rfl
@[simp] theorem Head.setEthQueue_ranges (h : Head) (q : Nat) (f : EthQueue → EthQueue) :
    (h.setEthQueue q f).ranges = h.ranges := rfl
@[simp] theorem Head.setEthQueue_axes (h : Head) (q : Nat) (f : EthQueue → EthQueue) :
    (h.setEthQueue q f).axes = h.axes := rfl
@[simp] theorem Head.setEthQueue_movers (h : Head) (q : Nat) (f : EthQueue → EthQueue) :
    (h.setEthQueue q f).movers = h.movers := rfl
@[simp] theorem Head.setEthQueue_tracks (h : Head) (q : Nat) (f : EthQueue → EthQueue) :
    (h.setEthQueue q f).tracks = h.tracks := rfl
@[simp] theorem Head.setEthQueue_binds (h : Head) (q : Nat) (f : EthQueue → EthQueue) :
    (h.setEthQueue q f).binds = h.binds := rfl
@[simp] theorem Head.setEthQueue_deferred (h : Head) (q : Nat) (f : EthQueue → EthQueue) :
    (h.setEthQueue q f).deferred = h.deferred := rfl
@[simp] theorem Head.setEthQueue_terrain (h : Head) (q : Nat) (f : EthQueue → EthQueue) :
    (h.setEthQueue q f).terrain = h.terrain := rfl
@[simp] theorem Head.setEthQueue_blends (h : Head) (q : Nat) (f : EthQueue → EthQueue) :
    (h.setEthQueue q f).blends = h.blends := rfl
@[simp] theorem Head.setEthQueue_time (h : Head) (q : Nat) (f : EthQueue → EthQueue) :
    (h.setEthQueue q f).time = h.time := rfl
@[simp] theorem Head.setEthQueue_cal (h : Head) (q : Nat) (f : EthQueue → EthQueue) :
    (h.setEthQueue q f).cal = h.cal := rfl
@[simp] theorem Head.setEthQueue_channels (h : Head) (q : Nat) (f : EthQueue → EthQueue) :
    (h.setEthQueue q f).channels = h.channels := rfl
@[simp] theorem Head.setEthQueue_compute (h : Head) (q : Nat) (f : EthQueue → EthQueue) :
    (h.setEthQueue q f).compute = h.compute := rfl
@[simp] theorem Head.setEthQueue_steps (h : Head) (q : Nat) (f : EthQueue → EthQueue) :
    (h.setEthQueue q f).steps = h.steps := rfl
@[simp] theorem Head.setEthQueue_microsteps (h : Head) (q : Nat) (f : EthQueue → EthQueue) :
    (h.setEthQueue q f).microsteps = h.microsteps := rfl
@[simp] theorem Head.setEthQueue_acq (h : Head) (q : Nat) (f : EthQueue → EthQueue) :
    (h.setEthQueue q f).acq = h.acq := rfl
@[simp] theorem Head.setEthQueue_peer (h : Head) (q : Nat) (f : EthQueue → EthQueue) :
    (h.setEthQueue q f).peer = h.peer := rfl
@[simp] theorem Head.setEthQueue_sent (h : Head) (q : Nat) (f : EthQueue → EthQueue) :
    (h.setEthQueue q f).sent = h.sent := rfl
@[simp] theorem Head.setEthQueue_drawn (h : Head) (q : Nat) (f : EthQueue → EthQueue) :
    (h.setEthQueue q f).drawn = h.drawn := rfl

@[simp] theorem Head.setAxis_sys (h : Head) (a : Nat) (f : Axis → Axis) :
    (h.setAxis a f).sys = h.sys := rfl
@[simp] theorem Head.setAxis_queues (h : Head) (a : Nat) (f : Axis → Axis) :
    (h.setAxis a f).queues = h.queues := rfl
@[simp] theorem Head.setAxis_ethq (h : Head) (a : Nat) (f : Axis → Axis) :
    (h.setAxis a f).ethq = h.ethq := rfl
@[simp] theorem Head.setAxis_fences (h : Head) (a : Nat) (f : Axis → Axis) :
    (h.setAxis a f).fences = h.fences := rfl
@[simp] theorem Head.setAxis_turn (h : Head) (a : Nat) (f : Axis → Axis) :
    (h.setAxis a f).turn = h.turn := rfl
@[simp] theorem Head.setAxis_evq (h : Head) (a : Nat) (f : Axis → Axis) :
    (h.setAxis a f).evq = h.evq := rfl
@[simp] theorem Head.setAxis_eth (h : Head) (a : Nat) (f : Axis → Axis) :
    (h.setAxis a f).eth = h.eth := rfl
@[simp] theorem Head.setAxis_pcie (h : Head) (a : Nat) (f : Axis → Axis) :
    (h.setAxis a f).pcie = h.pcie := rfl
@[simp] theorem Head.setAxis_faults (h : Head) (a : Nat) (f : Axis → Axis) :
    (h.setAxis a f).faults = h.faults := rfl
@[simp] theorem Head.setAxis_sec (h : Head) (a : Nat) (f : Axis → Axis) :
    (h.setAxis a f).sec = h.sec := rfl
@[simp] theorem Head.setAxis_backup (h : Head) (a : Nat) (f : Axis → Axis) :
    (h.setAxis a f).backup = h.backup := rfl
@[simp] theorem Head.setAxis_power (h : Head) (a : Nat) (f : Axis → Axis) :
    (h.setAxis a f).power = h.power := rfl
@[simp] theorem Head.setAxis_pins (h : Head) (a : Nat) (f : Axis → Axis) :
    (h.setAxis a f).pins = h.pins := rfl
@[simp] theorem Head.setAxis_net (h : Head) (a : Nat) (f : Axis → Axis) :
    (h.setAxis a f).net = h.net := rfl
@[simp] theorem Head.setAxis_ranges (h : Head) (a : Nat) (f : Axis → Axis) :
    (h.setAxis a f).ranges = h.ranges := rfl
@[simp] theorem Head.setAxis_movers (h : Head) (a : Nat) (f : Axis → Axis) :
    (h.setAxis a f).movers = h.movers := rfl
@[simp] theorem Head.setAxis_tracks (h : Head) (a : Nat) (f : Axis → Axis) :
    (h.setAxis a f).tracks = h.tracks := rfl
@[simp] theorem Head.setAxis_binds (h : Head) (a : Nat) (f : Axis → Axis) :
    (h.setAxis a f).binds = h.binds := rfl
@[simp] theorem Head.setAxis_deferred (h : Head) (a : Nat) (f : Axis → Axis) :
    (h.setAxis a f).deferred = h.deferred := rfl
@[simp] theorem Head.setAxis_terrain (h : Head) (a : Nat) (f : Axis → Axis) :
    (h.setAxis a f).terrain = h.terrain := rfl
@[simp] theorem Head.setAxis_blends (h : Head) (a : Nat) (f : Axis → Axis) :
    (h.setAxis a f).blends = h.blends := rfl
@[simp] theorem Head.setAxis_time (h : Head) (a : Nat) (f : Axis → Axis) :
    (h.setAxis a f).time = h.time := rfl
@[simp] theorem Head.setAxis_cal (h : Head) (a : Nat) (f : Axis → Axis) :
    (h.setAxis a f).cal = h.cal := rfl
@[simp] theorem Head.setAxis_channels (h : Head) (a : Nat) (f : Axis → Axis) :
    (h.setAxis a f).channels = h.channels := rfl
@[simp] theorem Head.setAxis_compute (h : Head) (a : Nat) (f : Axis → Axis) :
    (h.setAxis a f).compute = h.compute := rfl
@[simp] theorem Head.setAxis_steps (h : Head) (a : Nat) (f : Axis → Axis) :
    (h.setAxis a f).steps = h.steps := rfl
@[simp] theorem Head.setAxis_microsteps (h : Head) (a : Nat) (f : Axis → Axis) :
    (h.setAxis a f).microsteps = h.microsteps := rfl
@[simp] theorem Head.setAxis_acq (h : Head) (a : Nat) (f : Axis → Axis) :
    (h.setAxis a f).acq = h.acq := rfl
@[simp] theorem Head.setAxis_peer (h : Head) (a : Nat) (f : Axis → Axis) :
    (h.setAxis a f).peer = h.peer := rfl
@[simp] theorem Head.setAxis_sent (h : Head) (a : Nat) (f : Axis → Axis) :
    (h.setAxis a f).sent = h.sent := rfl
@[simp] theorem Head.setAxis_drawn (h : Head) (a : Nat) (f : Axis → Axis) :
    (h.setAxis a f).drawn = h.drawn := rfl

@[simp] theorem Head.setAxes_sys (h : Head) (p : Axis → Bool) (f : Axis → Axis) :
    (h.setAxes p f).sys = h.sys := rfl
@[simp] theorem Head.setAxes_queues (h : Head) (p : Axis → Bool) (f : Axis → Axis) :
    (h.setAxes p f).queues = h.queues := rfl
@[simp] theorem Head.setAxes_ethq (h : Head) (p : Axis → Bool) (f : Axis → Axis) :
    (h.setAxes p f).ethq = h.ethq := rfl
@[simp] theorem Head.setAxes_fences (h : Head) (p : Axis → Bool) (f : Axis → Axis) :
    (h.setAxes p f).fences = h.fences := rfl
@[simp] theorem Head.setAxes_turn (h : Head) (p : Axis → Bool) (f : Axis → Axis) :
    (h.setAxes p f).turn = h.turn := rfl
@[simp] theorem Head.setAxes_evq (h : Head) (p : Axis → Bool) (f : Axis → Axis) :
    (h.setAxes p f).evq = h.evq := rfl
@[simp] theorem Head.setAxes_eth (h : Head) (p : Axis → Bool) (f : Axis → Axis) :
    (h.setAxes p f).eth = h.eth := rfl
@[simp] theorem Head.setAxes_pcie (h : Head) (p : Axis → Bool) (f : Axis → Axis) :
    (h.setAxes p f).pcie = h.pcie := rfl
@[simp] theorem Head.setAxes_faults (h : Head) (p : Axis → Bool) (f : Axis → Axis) :
    (h.setAxes p f).faults = h.faults := rfl
@[simp] theorem Head.setAxes_sec (h : Head) (p : Axis → Bool) (f : Axis → Axis) :
    (h.setAxes p f).sec = h.sec := rfl
@[simp] theorem Head.setAxes_backup (h : Head) (p : Axis → Bool) (f : Axis → Axis) :
    (h.setAxes p f).backup = h.backup := rfl
@[simp] theorem Head.setAxes_power (h : Head) (p : Axis → Bool) (f : Axis → Axis) :
    (h.setAxes p f).power = h.power := rfl
@[simp] theorem Head.setAxes_pins (h : Head) (p : Axis → Bool) (f : Axis → Axis) :
    (h.setAxes p f).pins = h.pins := rfl
@[simp] theorem Head.setAxes_net (h : Head) (p : Axis → Bool) (f : Axis → Axis) :
    (h.setAxes p f).net = h.net := rfl
@[simp] theorem Head.setAxes_ranges (h : Head) (p : Axis → Bool) (f : Axis → Axis) :
    (h.setAxes p f).ranges = h.ranges := rfl
@[simp] theorem Head.setAxes_movers (h : Head) (p : Axis → Bool) (f : Axis → Axis) :
    (h.setAxes p f).movers = h.movers := rfl
@[simp] theorem Head.setAxes_tracks (h : Head) (p : Axis → Bool) (f : Axis → Axis) :
    (h.setAxes p f).tracks = h.tracks := rfl
@[simp] theorem Head.setAxes_binds (h : Head) (p : Axis → Bool) (f : Axis → Axis) :
    (h.setAxes p f).binds = h.binds := rfl
@[simp] theorem Head.setAxes_deferred (h : Head) (p : Axis → Bool) (f : Axis → Axis) :
    (h.setAxes p f).deferred = h.deferred := rfl
@[simp] theorem Head.setAxes_terrain (h : Head) (p : Axis → Bool) (f : Axis → Axis) :
    (h.setAxes p f).terrain = h.terrain := rfl
@[simp] theorem Head.setAxes_blends (h : Head) (p : Axis → Bool) (f : Axis → Axis) :
    (h.setAxes p f).blends = h.blends := rfl
@[simp] theorem Head.setAxes_time (h : Head) (p : Axis → Bool) (f : Axis → Axis) :
    (h.setAxes p f).time = h.time := rfl
@[simp] theorem Head.setAxes_cal (h : Head) (p : Axis → Bool) (f : Axis → Axis) :
    (h.setAxes p f).cal = h.cal := rfl
@[simp] theorem Head.setAxes_channels (h : Head) (p : Axis → Bool) (f : Axis → Axis) :
    (h.setAxes p f).channels = h.channels := rfl
@[simp] theorem Head.setAxes_compute (h : Head) (p : Axis → Bool) (f : Axis → Axis) :
    (h.setAxes p f).compute = h.compute := rfl
@[simp] theorem Head.setAxes_steps (h : Head) (p : Axis → Bool) (f : Axis → Axis) :
    (h.setAxes p f).steps = h.steps := rfl
@[simp] theorem Head.setAxes_microsteps (h : Head) (p : Axis → Bool) (f : Axis → Axis) :
    (h.setAxes p f).microsteps = h.microsteps := rfl
@[simp] theorem Head.setAxes_acq (h : Head) (p : Axis → Bool) (f : Axis → Axis) :
    (h.setAxes p f).acq = h.acq := rfl
@[simp] theorem Head.setAxes_peer (h : Head) (p : Axis → Bool) (f : Axis → Axis) :
    (h.setAxes p f).peer = h.peer := rfl
@[simp] theorem Head.setAxes_sent (h : Head) (p : Axis → Bool) (f : Axis → Axis) :
    (h.setAxes p f).sent = h.sent := rfl
@[simp] theorem Head.setAxes_drawn (h : Head) (p : Axis → Bool) (f : Axis → Axis) :
    (h.setAxes p f).drawn = h.drawn := rfl

@[simp] theorem Head.setMover_sys (h : Head) (m : Nat) (f : Mover → Mover) :
    (h.setMover m f).sys = h.sys := rfl
@[simp] theorem Head.setMover_queues (h : Head) (m : Nat) (f : Mover → Mover) :
    (h.setMover m f).queues = h.queues := rfl
@[simp] theorem Head.setMover_ethq (h : Head) (m : Nat) (f : Mover → Mover) :
    (h.setMover m f).ethq = h.ethq := rfl
@[simp] theorem Head.setMover_fences (h : Head) (m : Nat) (f : Mover → Mover) :
    (h.setMover m f).fences = h.fences := rfl
@[simp] theorem Head.setMover_turn (h : Head) (m : Nat) (f : Mover → Mover) :
    (h.setMover m f).turn = h.turn := rfl
@[simp] theorem Head.setMover_evq (h : Head) (m : Nat) (f : Mover → Mover) :
    (h.setMover m f).evq = h.evq := rfl
@[simp] theorem Head.setMover_eth (h : Head) (m : Nat) (f : Mover → Mover) :
    (h.setMover m f).eth = h.eth := rfl
@[simp] theorem Head.setMover_pcie (h : Head) (m : Nat) (f : Mover → Mover) :
    (h.setMover m f).pcie = h.pcie := rfl
@[simp] theorem Head.setMover_faults (h : Head) (m : Nat) (f : Mover → Mover) :
    (h.setMover m f).faults = h.faults := rfl
@[simp] theorem Head.setMover_sec (h : Head) (m : Nat) (f : Mover → Mover) :
    (h.setMover m f).sec = h.sec := rfl
@[simp] theorem Head.setMover_backup (h : Head) (m : Nat) (f : Mover → Mover) :
    (h.setMover m f).backup = h.backup := rfl
@[simp] theorem Head.setMover_power (h : Head) (m : Nat) (f : Mover → Mover) :
    (h.setMover m f).power = h.power := rfl
@[simp] theorem Head.setMover_pins (h : Head) (m : Nat) (f : Mover → Mover) :
    (h.setMover m f).pins = h.pins := rfl
@[simp] theorem Head.setMover_net (h : Head) (m : Nat) (f : Mover → Mover) :
    (h.setMover m f).net = h.net := rfl
@[simp] theorem Head.setMover_ranges (h : Head) (m : Nat) (f : Mover → Mover) :
    (h.setMover m f).ranges = h.ranges := rfl
@[simp] theorem Head.setMover_axes (h : Head) (m : Nat) (f : Mover → Mover) :
    (h.setMover m f).axes = h.axes := rfl
@[simp] theorem Head.setMover_tracks (h : Head) (m : Nat) (f : Mover → Mover) :
    (h.setMover m f).tracks = h.tracks := rfl
@[simp] theorem Head.setMover_binds (h : Head) (m : Nat) (f : Mover → Mover) :
    (h.setMover m f).binds = h.binds := rfl
@[simp] theorem Head.setMover_deferred (h : Head) (m : Nat) (f : Mover → Mover) :
    (h.setMover m f).deferred = h.deferred := rfl
@[simp] theorem Head.setMover_terrain (h : Head) (m : Nat) (f : Mover → Mover) :
    (h.setMover m f).terrain = h.terrain := rfl
@[simp] theorem Head.setMover_blends (h : Head) (m : Nat) (f : Mover → Mover) :
    (h.setMover m f).blends = h.blends := rfl
@[simp] theorem Head.setMover_time (h : Head) (m : Nat) (f : Mover → Mover) :
    (h.setMover m f).time = h.time := rfl
@[simp] theorem Head.setMover_cal (h : Head) (m : Nat) (f : Mover → Mover) :
    (h.setMover m f).cal = h.cal := rfl
@[simp] theorem Head.setMover_channels (h : Head) (m : Nat) (f : Mover → Mover) :
    (h.setMover m f).channels = h.channels := rfl
@[simp] theorem Head.setMover_compute (h : Head) (m : Nat) (f : Mover → Mover) :
    (h.setMover m f).compute = h.compute := rfl
@[simp] theorem Head.setMover_steps (h : Head) (m : Nat) (f : Mover → Mover) :
    (h.setMover m f).steps = h.steps := rfl
@[simp] theorem Head.setMover_microsteps (h : Head) (m : Nat) (f : Mover → Mover) :
    (h.setMover m f).microsteps = h.microsteps := rfl
@[simp] theorem Head.setMover_acq (h : Head) (m : Nat) (f : Mover → Mover) :
    (h.setMover m f).acq = h.acq := rfl
@[simp] theorem Head.setMover_peer (h : Head) (m : Nat) (f : Mover → Mover) :
    (h.setMover m f).peer = h.peer := rfl
@[simp] theorem Head.setMover_sent (h : Head) (m : Nat) (f : Mover → Mover) :
    (h.setMover m f).sent = h.sent := rfl
@[simp] theorem Head.setMover_drawn (h : Head) (m : Nat) (f : Mover → Mover) :
    (h.setMover m f).drawn = h.drawn := rfl

@[simp] theorem Head.setRange_sys (h : Head) (r : Nat) (f : Range → Range) :
    (h.setRange r f).sys = h.sys := rfl
@[simp] theorem Head.setRange_queues (h : Head) (r : Nat) (f : Range → Range) :
    (h.setRange r f).queues = h.queues := rfl
@[simp] theorem Head.setRange_ethq (h : Head) (r : Nat) (f : Range → Range) :
    (h.setRange r f).ethq = h.ethq := rfl
@[simp] theorem Head.setRange_fences (h : Head) (r : Nat) (f : Range → Range) :
    (h.setRange r f).fences = h.fences := rfl
@[simp] theorem Head.setRange_turn (h : Head) (r : Nat) (f : Range → Range) :
    (h.setRange r f).turn = h.turn := rfl
@[simp] theorem Head.setRange_evq (h : Head) (r : Nat) (f : Range → Range) :
    (h.setRange r f).evq = h.evq := rfl
@[simp] theorem Head.setRange_eth (h : Head) (r : Nat) (f : Range → Range) :
    (h.setRange r f).eth = h.eth := rfl
@[simp] theorem Head.setRange_pcie (h : Head) (r : Nat) (f : Range → Range) :
    (h.setRange r f).pcie = h.pcie := rfl
@[simp] theorem Head.setRange_faults (h : Head) (r : Nat) (f : Range → Range) :
    (h.setRange r f).faults = h.faults := rfl
@[simp] theorem Head.setRange_sec (h : Head) (r : Nat) (f : Range → Range) :
    (h.setRange r f).sec = h.sec := rfl
@[simp] theorem Head.setRange_backup (h : Head) (r : Nat) (f : Range → Range) :
    (h.setRange r f).backup = h.backup := rfl
@[simp] theorem Head.setRange_power (h : Head) (r : Nat) (f : Range → Range) :
    (h.setRange r f).power = h.power := rfl
@[simp] theorem Head.setRange_pins (h : Head) (r : Nat) (f : Range → Range) :
    (h.setRange r f).pins = h.pins := rfl
@[simp] theorem Head.setRange_net (h : Head) (r : Nat) (f : Range → Range) :
    (h.setRange r f).net = h.net := rfl
@[simp] theorem Head.setRange_axes (h : Head) (r : Nat) (f : Range → Range) :
    (h.setRange r f).axes = h.axes := rfl
@[simp] theorem Head.setRange_movers (h : Head) (r : Nat) (f : Range → Range) :
    (h.setRange r f).movers = h.movers := rfl
@[simp] theorem Head.setRange_tracks (h : Head) (r : Nat) (f : Range → Range) :
    (h.setRange r f).tracks = h.tracks := rfl
@[simp] theorem Head.setRange_binds (h : Head) (r : Nat) (f : Range → Range) :
    (h.setRange r f).binds = h.binds := rfl
@[simp] theorem Head.setRange_deferred (h : Head) (r : Nat) (f : Range → Range) :
    (h.setRange r f).deferred = h.deferred := rfl
@[simp] theorem Head.setRange_terrain (h : Head) (r : Nat) (f : Range → Range) :
    (h.setRange r f).terrain = h.terrain := rfl
@[simp] theorem Head.setRange_blends (h : Head) (r : Nat) (f : Range → Range) :
    (h.setRange r f).blends = h.blends := rfl
@[simp] theorem Head.setRange_time (h : Head) (r : Nat) (f : Range → Range) :
    (h.setRange r f).time = h.time := rfl
@[simp] theorem Head.setRange_cal (h : Head) (r : Nat) (f : Range → Range) :
    (h.setRange r f).cal = h.cal := rfl
@[simp] theorem Head.setRange_channels (h : Head) (r : Nat) (f : Range → Range) :
    (h.setRange r f).channels = h.channels := rfl
@[simp] theorem Head.setRange_compute (h : Head) (r : Nat) (f : Range → Range) :
    (h.setRange r f).compute = h.compute := rfl
@[simp] theorem Head.setRange_steps (h : Head) (r : Nat) (f : Range → Range) :
    (h.setRange r f).steps = h.steps := rfl
@[simp] theorem Head.setRange_microsteps (h : Head) (r : Nat) (f : Range → Range) :
    (h.setRange r f).microsteps = h.microsteps := rfl
@[simp] theorem Head.setRange_acq (h : Head) (r : Nat) (f : Range → Range) :
    (h.setRange r f).acq = h.acq := rfl
@[simp] theorem Head.setRange_peer (h : Head) (r : Nat) (f : Range → Range) :
    (h.setRange r f).peer = h.peer := rfl
@[simp] theorem Head.setRange_sent (h : Head) (r : Nat) (f : Range → Range) :
    (h.setRange r f).sent = h.sent := rfl
@[simp] theorem Head.setRange_drawn (h : Head) (r : Nat) (f : Range → Range) :
    (h.setRange r f).drawn = h.drawn := rfl

@[simp] theorem Head.setChannel_sys (h : Head) (c : Nat) (f : Feedback → Feedback) :
    (h.setChannel c f).sys = h.sys := rfl
@[simp] theorem Head.setChannel_queues (h : Head) (c : Nat) (f : Feedback → Feedback) :
    (h.setChannel c f).queues = h.queues := rfl
@[simp] theorem Head.setChannel_ethq (h : Head) (c : Nat) (f : Feedback → Feedback) :
    (h.setChannel c f).ethq = h.ethq := rfl
@[simp] theorem Head.setChannel_fences (h : Head) (c : Nat) (f : Feedback → Feedback) :
    (h.setChannel c f).fences = h.fences := rfl
@[simp] theorem Head.setChannel_turn (h : Head) (c : Nat) (f : Feedback → Feedback) :
    (h.setChannel c f).turn = h.turn := rfl
@[simp] theorem Head.setChannel_evq (h : Head) (c : Nat) (f : Feedback → Feedback) :
    (h.setChannel c f).evq = h.evq := rfl
@[simp] theorem Head.setChannel_eth (h : Head) (c : Nat) (f : Feedback → Feedback) :
    (h.setChannel c f).eth = h.eth := rfl
@[simp] theorem Head.setChannel_pcie (h : Head) (c : Nat) (f : Feedback → Feedback) :
    (h.setChannel c f).pcie = h.pcie := rfl
@[simp] theorem Head.setChannel_faults (h : Head) (c : Nat) (f : Feedback → Feedback) :
    (h.setChannel c f).faults = h.faults := rfl
@[simp] theorem Head.setChannel_sec (h : Head) (c : Nat) (f : Feedback → Feedback) :
    (h.setChannel c f).sec = h.sec := rfl
@[simp] theorem Head.setChannel_backup (h : Head) (c : Nat) (f : Feedback → Feedback) :
    (h.setChannel c f).backup = h.backup := rfl
@[simp] theorem Head.setChannel_power (h : Head) (c : Nat) (f : Feedback → Feedback) :
    (h.setChannel c f).power = h.power := rfl
@[simp] theorem Head.setChannel_pins (h : Head) (c : Nat) (f : Feedback → Feedback) :
    (h.setChannel c f).pins = h.pins := rfl
@[simp] theorem Head.setChannel_net (h : Head) (c : Nat) (f : Feedback → Feedback) :
    (h.setChannel c f).net = h.net := rfl
@[simp] theorem Head.setChannel_ranges (h : Head) (c : Nat) (f : Feedback → Feedback) :
    (h.setChannel c f).ranges = h.ranges := rfl
@[simp] theorem Head.setChannel_axes (h : Head) (c : Nat) (f : Feedback → Feedback) :
    (h.setChannel c f).axes = h.axes := rfl
@[simp] theorem Head.setChannel_movers (h : Head) (c : Nat) (f : Feedback → Feedback) :
    (h.setChannel c f).movers = h.movers := rfl
@[simp] theorem Head.setChannel_tracks (h : Head) (c : Nat) (f : Feedback → Feedback) :
    (h.setChannel c f).tracks = h.tracks := rfl
@[simp] theorem Head.setChannel_binds (h : Head) (c : Nat) (f : Feedback → Feedback) :
    (h.setChannel c f).binds = h.binds := rfl
@[simp] theorem Head.setChannel_deferred (h : Head) (c : Nat) (f : Feedback → Feedback) :
    (h.setChannel c f).deferred = h.deferred := rfl
@[simp] theorem Head.setChannel_terrain (h : Head) (c : Nat) (f : Feedback → Feedback) :
    (h.setChannel c f).terrain = h.terrain := rfl
@[simp] theorem Head.setChannel_blends (h : Head) (c : Nat) (f : Feedback → Feedback) :
    (h.setChannel c f).blends = h.blends := rfl
@[simp] theorem Head.setChannel_time (h : Head) (c : Nat) (f : Feedback → Feedback) :
    (h.setChannel c f).time = h.time := rfl
@[simp] theorem Head.setChannel_cal (h : Head) (c : Nat) (f : Feedback → Feedback) :
    (h.setChannel c f).cal = h.cal := rfl
@[simp] theorem Head.setChannel_compute (h : Head) (c : Nat) (f : Feedback → Feedback) :
    (h.setChannel c f).compute = h.compute := rfl
@[simp] theorem Head.setChannel_steps (h : Head) (c : Nat) (f : Feedback → Feedback) :
    (h.setChannel c f).steps = h.steps := rfl
@[simp] theorem Head.setChannel_microsteps (h : Head) (c : Nat) (f : Feedback → Feedback) :
    (h.setChannel c f).microsteps = h.microsteps := rfl
@[simp] theorem Head.setChannel_acq (h : Head) (c : Nat) (f : Feedback → Feedback) :
    (h.setChannel c f).acq = h.acq := rfl
@[simp] theorem Head.setChannel_peer (h : Head) (c : Nat) (f : Feedback → Feedback) :
    (h.setChannel c f).peer = h.peer := rfl
@[simp] theorem Head.setChannel_sent (h : Head) (c : Nat) (f : Feedback → Feedback) :
    (h.setChannel c f).sent = h.sent := rfl
@[simp] theorem Head.setChannel_drawn (h : Head) (c : Nat) (f : Feedback → Feedback) :
    (h.setChannel c f).drawn = h.drawn := rfl

@[simp] theorem Head.setBranch_sys (h : Head) (b : Nat) (f : Branch → Branch) :
    (h.setBranch b f).sys = h.sys := rfl
@[simp] theorem Head.setBranch_queues (h : Head) (b : Nat) (f : Branch → Branch) :
    (h.setBranch b f).queues = h.queues := rfl
@[simp] theorem Head.setBranch_ethq (h : Head) (b : Nat) (f : Branch → Branch) :
    (h.setBranch b f).ethq = h.ethq := rfl
@[simp] theorem Head.setBranch_fences (h : Head) (b : Nat) (f : Branch → Branch) :
    (h.setBranch b f).fences = h.fences := rfl
@[simp] theorem Head.setBranch_turn (h : Head) (b : Nat) (f : Branch → Branch) :
    (h.setBranch b f).turn = h.turn := rfl
@[simp] theorem Head.setBranch_evq (h : Head) (b : Nat) (f : Branch → Branch) :
    (h.setBranch b f).evq = h.evq := rfl
@[simp] theorem Head.setBranch_eth (h : Head) (b : Nat) (f : Branch → Branch) :
    (h.setBranch b f).eth = h.eth := rfl
@[simp] theorem Head.setBranch_pcie (h : Head) (b : Nat) (f : Branch → Branch) :
    (h.setBranch b f).pcie = h.pcie := rfl
@[simp] theorem Head.setBranch_faults (h : Head) (b : Nat) (f : Branch → Branch) :
    (h.setBranch b f).faults = h.faults := rfl
@[simp] theorem Head.setBranch_sec (h : Head) (b : Nat) (f : Branch → Branch) :
    (h.setBranch b f).sec = h.sec := rfl
@[simp] theorem Head.setBranch_backup (h : Head) (b : Nat) (f : Branch → Branch) :
    (h.setBranch b f).backup = h.backup := rfl
@[simp] theorem Head.setBranch_power (h : Head) (b : Nat) (f : Branch → Branch) :
    (h.setBranch b f).power = h.power := rfl
@[simp] theorem Head.setBranch_pins (h : Head) (b : Nat) (f : Branch → Branch) :
    (h.setBranch b f).pins = h.pins := rfl
@[simp] theorem Head.setBranch_ranges (h : Head) (b : Nat) (f : Branch → Branch) :
    (h.setBranch b f).ranges = h.ranges := rfl
@[simp] theorem Head.setBranch_axes (h : Head) (b : Nat) (f : Branch → Branch) :
    (h.setBranch b f).axes = h.axes := rfl
@[simp] theorem Head.setBranch_movers (h : Head) (b : Nat) (f : Branch → Branch) :
    (h.setBranch b f).movers = h.movers := rfl
@[simp] theorem Head.setBranch_tracks (h : Head) (b : Nat) (f : Branch → Branch) :
    (h.setBranch b f).tracks = h.tracks := rfl
@[simp] theorem Head.setBranch_binds (h : Head) (b : Nat) (f : Branch → Branch) :
    (h.setBranch b f).binds = h.binds := rfl
@[simp] theorem Head.setBranch_deferred (h : Head) (b : Nat) (f : Branch → Branch) :
    (h.setBranch b f).deferred = h.deferred := rfl
@[simp] theorem Head.setBranch_terrain (h : Head) (b : Nat) (f : Branch → Branch) :
    (h.setBranch b f).terrain = h.terrain := rfl
@[simp] theorem Head.setBranch_blends (h : Head) (b : Nat) (f : Branch → Branch) :
    (h.setBranch b f).blends = h.blends := rfl
@[simp] theorem Head.setBranch_time (h : Head) (b : Nat) (f : Branch → Branch) :
    (h.setBranch b f).time = h.time := rfl
@[simp] theorem Head.setBranch_cal (h : Head) (b : Nat) (f : Branch → Branch) :
    (h.setBranch b f).cal = h.cal := rfl
@[simp] theorem Head.setBranch_channels (h : Head) (b : Nat) (f : Branch → Branch) :
    (h.setBranch b f).channels = h.channels := rfl
@[simp] theorem Head.setBranch_compute (h : Head) (b : Nat) (f : Branch → Branch) :
    (h.setBranch b f).compute = h.compute := rfl
@[simp] theorem Head.setBranch_steps (h : Head) (b : Nat) (f : Branch → Branch) :
    (h.setBranch b f).steps = h.steps := rfl
@[simp] theorem Head.setBranch_microsteps (h : Head) (b : Nat) (f : Branch → Branch) :
    (h.setBranch b f).microsteps = h.microsteps := rfl
@[simp] theorem Head.setBranch_acq (h : Head) (b : Nat) (f : Branch → Branch) :
    (h.setBranch b f).acq = h.acq := rfl
@[simp] theorem Head.setBranch_peer (h : Head) (b : Nat) (f : Branch → Branch) :
    (h.setBranch b f).peer = h.peer := rfl
@[simp] theorem Head.setBranch_sent (h : Head) (b : Nat) (f : Branch → Branch) :
    (h.setBranch b f).sent = h.sent := rfl
@[simp] theorem Head.setBranch_drawn (h : Head) (b : Nat) (f : Branch → Branch) :
    (h.setBranch b f).drawn = h.drawn := rfl

@[simp] theorem Head.setLane_sys (h : Head) (l : Nat) (f : Lane → Lane) :
    (h.setLane l f).sys = h.sys := rfl
@[simp] theorem Head.setLane_queues (h : Head) (l : Nat) (f : Lane → Lane) :
    (h.setLane l f).queues = h.queues := rfl
@[simp] theorem Head.setLane_ethq (h : Head) (l : Nat) (f : Lane → Lane) :
    (h.setLane l f).ethq = h.ethq := rfl
@[simp] theorem Head.setLane_fences (h : Head) (l : Nat) (f : Lane → Lane) :
    (h.setLane l f).fences = h.fences := rfl
@[simp] theorem Head.setLane_turn (h : Head) (l : Nat) (f : Lane → Lane) :
    (h.setLane l f).turn = h.turn := rfl
@[simp] theorem Head.setLane_evq (h : Head) (l : Nat) (f : Lane → Lane) :
    (h.setLane l f).evq = h.evq := rfl
@[simp] theorem Head.setLane_eth (h : Head) (l : Nat) (f : Lane → Lane) :
    (h.setLane l f).eth = h.eth := rfl
@[simp] theorem Head.setLane_pcie (h : Head) (l : Nat) (f : Lane → Lane) :
    (h.setLane l f).pcie = h.pcie := rfl
@[simp] theorem Head.setLane_faults (h : Head) (l : Nat) (f : Lane → Lane) :
    (h.setLane l f).faults = h.faults := rfl
@[simp] theorem Head.setLane_sec (h : Head) (l : Nat) (f : Lane → Lane) :
    (h.setLane l f).sec = h.sec := rfl
@[simp] theorem Head.setLane_backup (h : Head) (l : Nat) (f : Lane → Lane) :
    (h.setLane l f).backup = h.backup := rfl
@[simp] theorem Head.setLane_power (h : Head) (l : Nat) (f : Lane → Lane) :
    (h.setLane l f).power = h.power := rfl
@[simp] theorem Head.setLane_pins (h : Head) (l : Nat) (f : Lane → Lane) :
    (h.setLane l f).pins = h.pins := rfl
@[simp] theorem Head.setLane_ranges (h : Head) (l : Nat) (f : Lane → Lane) :
    (h.setLane l f).ranges = h.ranges := rfl
@[simp] theorem Head.setLane_axes (h : Head) (l : Nat) (f : Lane → Lane) :
    (h.setLane l f).axes = h.axes := rfl
@[simp] theorem Head.setLane_movers (h : Head) (l : Nat) (f : Lane → Lane) :
    (h.setLane l f).movers = h.movers := rfl
@[simp] theorem Head.setLane_tracks (h : Head) (l : Nat) (f : Lane → Lane) :
    (h.setLane l f).tracks = h.tracks := rfl
@[simp] theorem Head.setLane_binds (h : Head) (l : Nat) (f : Lane → Lane) :
    (h.setLane l f).binds = h.binds := rfl
@[simp] theorem Head.setLane_deferred (h : Head) (l : Nat) (f : Lane → Lane) :
    (h.setLane l f).deferred = h.deferred := rfl
@[simp] theorem Head.setLane_terrain (h : Head) (l : Nat) (f : Lane → Lane) :
    (h.setLane l f).terrain = h.terrain := rfl
@[simp] theorem Head.setLane_blends (h : Head) (l : Nat) (f : Lane → Lane) :
    (h.setLane l f).blends = h.blends := rfl
@[simp] theorem Head.setLane_time (h : Head) (l : Nat) (f : Lane → Lane) :
    (h.setLane l f).time = h.time := rfl
@[simp] theorem Head.setLane_cal (h : Head) (l : Nat) (f : Lane → Lane) :
    (h.setLane l f).cal = h.cal := rfl
@[simp] theorem Head.setLane_channels (h : Head) (l : Nat) (f : Lane → Lane) :
    (h.setLane l f).channels = h.channels := rfl
@[simp] theorem Head.setLane_compute (h : Head) (l : Nat) (f : Lane → Lane) :
    (h.setLane l f).compute = h.compute := rfl
@[simp] theorem Head.setLane_steps (h : Head) (l : Nat) (f : Lane → Lane) :
    (h.setLane l f).steps = h.steps := rfl
@[simp] theorem Head.setLane_microsteps (h : Head) (l : Nat) (f : Lane → Lane) :
    (h.setLane l f).microsteps = h.microsteps := rfl
@[simp] theorem Head.setLane_acq (h : Head) (l : Nat) (f : Lane → Lane) :
    (h.setLane l f).acq = h.acq := rfl
@[simp] theorem Head.setLane_peer (h : Head) (l : Nat) (f : Lane → Lane) :
    (h.setLane l f).peer = h.peer := rfl
@[simp] theorem Head.setLane_sent (h : Head) (l : Nat) (f : Lane → Lane) :
    (h.setLane l f).sent = h.sent := rfl
@[simp] theorem Head.setLane_drawn (h : Head) (l : Nat) (f : Lane → Lane) :
    (h.setLane l f).drawn = h.drawn := rfl

@[simp] theorem Head.setPosition_sys (h : Head) (n : Nat) (f : Position → Position) :
    (h.setPosition n f).sys = h.sys := rfl
@[simp] theorem Head.setPosition_queues (h : Head) (n : Nat) (f : Position → Position) :
    (h.setPosition n f).queues = h.queues := rfl
@[simp] theorem Head.setPosition_ethq (h : Head) (n : Nat) (f : Position → Position) :
    (h.setPosition n f).ethq = h.ethq := rfl
@[simp] theorem Head.setPosition_fences (h : Head) (n : Nat) (f : Position → Position) :
    (h.setPosition n f).fences = h.fences := rfl
@[simp] theorem Head.setPosition_turn (h : Head) (n : Nat) (f : Position → Position) :
    (h.setPosition n f).turn = h.turn := rfl
@[simp] theorem Head.setPosition_evq (h : Head) (n : Nat) (f : Position → Position) :
    (h.setPosition n f).evq = h.evq := rfl
@[simp] theorem Head.setPosition_eth (h : Head) (n : Nat) (f : Position → Position) :
    (h.setPosition n f).eth = h.eth := rfl
@[simp] theorem Head.setPosition_pcie (h : Head) (n : Nat) (f : Position → Position) :
    (h.setPosition n f).pcie = h.pcie := rfl
@[simp] theorem Head.setPosition_faults (h : Head) (n : Nat) (f : Position → Position) :
    (h.setPosition n f).faults = h.faults := rfl
@[simp] theorem Head.setPosition_sec (h : Head) (n : Nat) (f : Position → Position) :
    (h.setPosition n f).sec = h.sec := rfl
@[simp] theorem Head.setPosition_backup (h : Head) (n : Nat) (f : Position → Position) :
    (h.setPosition n f).backup = h.backup := rfl
@[simp] theorem Head.setPosition_power (h : Head) (n : Nat) (f : Position → Position) :
    (h.setPosition n f).power = h.power := rfl
@[simp] theorem Head.setPosition_pins (h : Head) (n : Nat) (f : Position → Position) :
    (h.setPosition n f).pins = h.pins := rfl
@[simp] theorem Head.setPosition_ranges (h : Head) (n : Nat) (f : Position → Position) :
    (h.setPosition n f).ranges = h.ranges := rfl
@[simp] theorem Head.setPosition_axes (h : Head) (n : Nat) (f : Position → Position) :
    (h.setPosition n f).axes = h.axes := rfl
@[simp] theorem Head.setPosition_movers (h : Head) (n : Nat) (f : Position → Position) :
    (h.setPosition n f).movers = h.movers := rfl
@[simp] theorem Head.setPosition_tracks (h : Head) (n : Nat) (f : Position → Position) :
    (h.setPosition n f).tracks = h.tracks := rfl
@[simp] theorem Head.setPosition_binds (h : Head) (n : Nat) (f : Position → Position) :
    (h.setPosition n f).binds = h.binds := rfl
@[simp] theorem Head.setPosition_deferred (h : Head) (n : Nat) (f : Position → Position) :
    (h.setPosition n f).deferred = h.deferred := rfl
@[simp] theorem Head.setPosition_terrain (h : Head) (n : Nat) (f : Position → Position) :
    (h.setPosition n f).terrain = h.terrain := rfl
@[simp] theorem Head.setPosition_blends (h : Head) (n : Nat) (f : Position → Position) :
    (h.setPosition n f).blends = h.blends := rfl
@[simp] theorem Head.setPosition_time (h : Head) (n : Nat) (f : Position → Position) :
    (h.setPosition n f).time = h.time := rfl
@[simp] theorem Head.setPosition_cal (h : Head) (n : Nat) (f : Position → Position) :
    (h.setPosition n f).cal = h.cal := rfl
@[simp] theorem Head.setPosition_channels (h : Head) (n : Nat) (f : Position → Position) :
    (h.setPosition n f).channels = h.channels := rfl
@[simp] theorem Head.setPosition_compute (h : Head) (n : Nat) (f : Position → Position) :
    (h.setPosition n f).compute = h.compute := rfl
@[simp] theorem Head.setPosition_steps (h : Head) (n : Nat) (f : Position → Position) :
    (h.setPosition n f).steps = h.steps := rfl
@[simp] theorem Head.setPosition_microsteps (h : Head) (n : Nat) (f : Position → Position) :
    (h.setPosition n f).microsteps = h.microsteps := rfl
@[simp] theorem Head.setPosition_acq (h : Head) (n : Nat) (f : Position → Position) :
    (h.setPosition n f).acq = h.acq := rfl
@[simp] theorem Head.setPosition_peer (h : Head) (n : Nat) (f : Position → Position) :
    (h.setPosition n f).peer = h.peer := rfl
@[simp] theorem Head.setPosition_sent (h : Head) (n : Nat) (f : Position → Position) :
    (h.setPosition n f).sent = h.sent := rfl
@[simp] theorem Head.setPosition_drawn (h : Head) (n : Nat) (f : Position → Position) :
    (h.setPosition n f).drawn = h.drawn := rfl

@[simp] theorem Head.setPin_sys (h : Head) (k : Nat) (f : Pin → Pin) :
    (h.setPin k f).sys = h.sys := rfl
@[simp] theorem Head.setPin_queues (h : Head) (k : Nat) (f : Pin → Pin) :
    (h.setPin k f).queues = h.queues := rfl
@[simp] theorem Head.setPin_ethq (h : Head) (k : Nat) (f : Pin → Pin) :
    (h.setPin k f).ethq = h.ethq := rfl
@[simp] theorem Head.setPin_fences (h : Head) (k : Nat) (f : Pin → Pin) :
    (h.setPin k f).fences = h.fences := rfl
@[simp] theorem Head.setPin_turn (h : Head) (k : Nat) (f : Pin → Pin) :
    (h.setPin k f).turn = h.turn := rfl
@[simp] theorem Head.setPin_evq (h : Head) (k : Nat) (f : Pin → Pin) :
    (h.setPin k f).evq = h.evq := rfl
@[simp] theorem Head.setPin_eth (h : Head) (k : Nat) (f : Pin → Pin) :
    (h.setPin k f).eth = h.eth := rfl
@[simp] theorem Head.setPin_pcie (h : Head) (k : Nat) (f : Pin → Pin) :
    (h.setPin k f).pcie = h.pcie := rfl
@[simp] theorem Head.setPin_faults (h : Head) (k : Nat) (f : Pin → Pin) :
    (h.setPin k f).faults = h.faults := rfl
@[simp] theorem Head.setPin_sec (h : Head) (k : Nat) (f : Pin → Pin) :
    (h.setPin k f).sec = h.sec := rfl
@[simp] theorem Head.setPin_backup (h : Head) (k : Nat) (f : Pin → Pin) :
    (h.setPin k f).backup = h.backup := rfl
@[simp] theorem Head.setPin_power (h : Head) (k : Nat) (f : Pin → Pin) :
    (h.setPin k f).power = h.power := rfl
@[simp] theorem Head.setPin_net (h : Head) (k : Nat) (f : Pin → Pin) :
    (h.setPin k f).net = h.net := rfl
@[simp] theorem Head.setPin_ranges (h : Head) (k : Nat) (f : Pin → Pin) :
    (h.setPin k f).ranges = h.ranges := rfl
@[simp] theorem Head.setPin_axes (h : Head) (k : Nat) (f : Pin → Pin) :
    (h.setPin k f).axes = h.axes := rfl
@[simp] theorem Head.setPin_movers (h : Head) (k : Nat) (f : Pin → Pin) :
    (h.setPin k f).movers = h.movers := rfl
@[simp] theorem Head.setPin_tracks (h : Head) (k : Nat) (f : Pin → Pin) :
    (h.setPin k f).tracks = h.tracks := rfl
@[simp] theorem Head.setPin_binds (h : Head) (k : Nat) (f : Pin → Pin) :
    (h.setPin k f).binds = h.binds := rfl
@[simp] theorem Head.setPin_deferred (h : Head) (k : Nat) (f : Pin → Pin) :
    (h.setPin k f).deferred = h.deferred := rfl
@[simp] theorem Head.setPin_terrain (h : Head) (k : Nat) (f : Pin → Pin) :
    (h.setPin k f).terrain = h.terrain := rfl
@[simp] theorem Head.setPin_blends (h : Head) (k : Nat) (f : Pin → Pin) :
    (h.setPin k f).blends = h.blends := rfl
@[simp] theorem Head.setPin_time (h : Head) (k : Nat) (f : Pin → Pin) :
    (h.setPin k f).time = h.time := rfl
@[simp] theorem Head.setPin_cal (h : Head) (k : Nat) (f : Pin → Pin) :
    (h.setPin k f).cal = h.cal := rfl
@[simp] theorem Head.setPin_channels (h : Head) (k : Nat) (f : Pin → Pin) :
    (h.setPin k f).channels = h.channels := rfl
@[simp] theorem Head.setPin_compute (h : Head) (k : Nat) (f : Pin → Pin) :
    (h.setPin k f).compute = h.compute := rfl
@[simp] theorem Head.setPin_steps (h : Head) (k : Nat) (f : Pin → Pin) :
    (h.setPin k f).steps = h.steps := rfl
@[simp] theorem Head.setPin_microsteps (h : Head) (k : Nat) (f : Pin → Pin) :
    (h.setPin k f).microsteps = h.microsteps := rfl
@[simp] theorem Head.setPin_acq (h : Head) (k : Nat) (f : Pin → Pin) :
    (h.setPin k f).acq = h.acq := rfl
@[simp] theorem Head.setPin_peer (h : Head) (k : Nat) (f : Pin → Pin) :
    (h.setPin k f).peer = h.peer := rfl
@[simp] theorem Head.setPin_sent (h : Head) (k : Nat) (f : Pin → Pin) :
    (h.setPin k f).sent = h.sent := rfl
@[simp] theorem Head.setPin_drawn (h : Head) (k : Nat) (f : Pin → Pin) :
    (h.setPin k f).drawn = h.drawn := rfl

@[simp] theorem Head.setFieldIn_sys (h : Head) (n : Nat) (f : FieldInput → FieldInput) :
    (h.setFieldIn n f).sys = h.sys := rfl
@[simp] theorem Head.setFieldIn_queues (h : Head) (n : Nat) (f : FieldInput → FieldInput) :
    (h.setFieldIn n f).queues = h.queues := rfl
@[simp] theorem Head.setFieldIn_ethq (h : Head) (n : Nat) (f : FieldInput → FieldInput) :
    (h.setFieldIn n f).ethq = h.ethq := rfl
@[simp] theorem Head.setFieldIn_fences (h : Head) (n : Nat) (f : FieldInput → FieldInput) :
    (h.setFieldIn n f).fences = h.fences := rfl
@[simp] theorem Head.setFieldIn_turn (h : Head) (n : Nat) (f : FieldInput → FieldInput) :
    (h.setFieldIn n f).turn = h.turn := rfl
@[simp] theorem Head.setFieldIn_evq (h : Head) (n : Nat) (f : FieldInput → FieldInput) :
    (h.setFieldIn n f).evq = h.evq := rfl
@[simp] theorem Head.setFieldIn_eth (h : Head) (n : Nat) (f : FieldInput → FieldInput) :
    (h.setFieldIn n f).eth = h.eth := rfl
@[simp] theorem Head.setFieldIn_pcie (h : Head) (n : Nat) (f : FieldInput → FieldInput) :
    (h.setFieldIn n f).pcie = h.pcie := rfl
@[simp] theorem Head.setFieldIn_faults (h : Head) (n : Nat) (f : FieldInput → FieldInput) :
    (h.setFieldIn n f).faults = h.faults := rfl
@[simp] theorem Head.setFieldIn_sec (h : Head) (n : Nat) (f : FieldInput → FieldInput) :
    (h.setFieldIn n f).sec = h.sec := rfl
@[simp] theorem Head.setFieldIn_backup (h : Head) (n : Nat) (f : FieldInput → FieldInput) :
    (h.setFieldIn n f).backup = h.backup := rfl
@[simp] theorem Head.setFieldIn_power (h : Head) (n : Nat) (f : FieldInput → FieldInput) :
    (h.setFieldIn n f).power = h.power := rfl
@[simp] theorem Head.setFieldIn_net (h : Head) (n : Nat) (f : FieldInput → FieldInput) :
    (h.setFieldIn n f).net = h.net := rfl
@[simp] theorem Head.setFieldIn_ranges (h : Head) (n : Nat) (f : FieldInput → FieldInput) :
    (h.setFieldIn n f).ranges = h.ranges := rfl
@[simp] theorem Head.setFieldIn_axes (h : Head) (n : Nat) (f : FieldInput → FieldInput) :
    (h.setFieldIn n f).axes = h.axes := rfl
@[simp] theorem Head.setFieldIn_movers (h : Head) (n : Nat) (f : FieldInput → FieldInput) :
    (h.setFieldIn n f).movers = h.movers := rfl
@[simp] theorem Head.setFieldIn_tracks (h : Head) (n : Nat) (f : FieldInput → FieldInput) :
    (h.setFieldIn n f).tracks = h.tracks := rfl
@[simp] theorem Head.setFieldIn_binds (h : Head) (n : Nat) (f : FieldInput → FieldInput) :
    (h.setFieldIn n f).binds = h.binds := rfl
@[simp] theorem Head.setFieldIn_deferred (h : Head) (n : Nat) (f : FieldInput → FieldInput) :
    (h.setFieldIn n f).deferred = h.deferred := rfl
@[simp] theorem Head.setFieldIn_terrain (h : Head) (n : Nat) (f : FieldInput → FieldInput) :
    (h.setFieldIn n f).terrain = h.terrain := rfl
@[simp] theorem Head.setFieldIn_blends (h : Head) (n : Nat) (f : FieldInput → FieldInput) :
    (h.setFieldIn n f).blends = h.blends := rfl
@[simp] theorem Head.setFieldIn_time (h : Head) (n : Nat) (f : FieldInput → FieldInput) :
    (h.setFieldIn n f).time = h.time := rfl
@[simp] theorem Head.setFieldIn_cal (h : Head) (n : Nat) (f : FieldInput → FieldInput) :
    (h.setFieldIn n f).cal = h.cal := rfl
@[simp] theorem Head.setFieldIn_channels (h : Head) (n : Nat) (f : FieldInput → FieldInput) :
    (h.setFieldIn n f).channels = h.channels := rfl
@[simp] theorem Head.setFieldIn_compute (h : Head) (n : Nat) (f : FieldInput → FieldInput) :
    (h.setFieldIn n f).compute = h.compute := rfl
@[simp] theorem Head.setFieldIn_steps (h : Head) (n : Nat) (f : FieldInput → FieldInput) :
    (h.setFieldIn n f).steps = h.steps := rfl
@[simp] theorem Head.setFieldIn_microsteps (h : Head) (n : Nat) (f : FieldInput → FieldInput) :
    (h.setFieldIn n f).microsteps = h.microsteps := rfl
@[simp] theorem Head.setFieldIn_acq (h : Head) (n : Nat) (f : FieldInput → FieldInput) :
    (h.setFieldIn n f).acq = h.acq := rfl
@[simp] theorem Head.setFieldIn_peer (h : Head) (n : Nat) (f : FieldInput → FieldInput) :
    (h.setFieldIn n f).peer = h.peer := rfl
@[simp] theorem Head.setFieldIn_sent (h : Head) (n : Nat) (f : FieldInput → FieldInput) :
    (h.setFieldIn n f).sent = h.sent := rfl
@[simp] theorem Head.setFieldIn_drawn (h : Head) (n : Nat) (f : FieldInput → FieldInput) :
    (h.setFieldIn n f).drawn = h.drawn := rfl

@[simp] theorem Head.setFieldOut_sys (h : Head) (n : Nat) (f : FieldOutput → FieldOutput) :
    (h.setFieldOut n f).sys = h.sys := rfl
@[simp] theorem Head.setFieldOut_queues (h : Head) (n : Nat) (f : FieldOutput → FieldOutput) :
    (h.setFieldOut n f).queues = h.queues := rfl
@[simp] theorem Head.setFieldOut_ethq (h : Head) (n : Nat) (f : FieldOutput → FieldOutput) :
    (h.setFieldOut n f).ethq = h.ethq := rfl
@[simp] theorem Head.setFieldOut_fences (h : Head) (n : Nat) (f : FieldOutput → FieldOutput) :
    (h.setFieldOut n f).fences = h.fences := rfl
@[simp] theorem Head.setFieldOut_turn (h : Head) (n : Nat) (f : FieldOutput → FieldOutput) :
    (h.setFieldOut n f).turn = h.turn := rfl
@[simp] theorem Head.setFieldOut_evq (h : Head) (n : Nat) (f : FieldOutput → FieldOutput) :
    (h.setFieldOut n f).evq = h.evq := rfl
@[simp] theorem Head.setFieldOut_eth (h : Head) (n : Nat) (f : FieldOutput → FieldOutput) :
    (h.setFieldOut n f).eth = h.eth := rfl
@[simp] theorem Head.setFieldOut_pcie (h : Head) (n : Nat) (f : FieldOutput → FieldOutput) :
    (h.setFieldOut n f).pcie = h.pcie := rfl
@[simp] theorem Head.setFieldOut_faults (h : Head) (n : Nat) (f : FieldOutput → FieldOutput) :
    (h.setFieldOut n f).faults = h.faults := rfl
@[simp] theorem Head.setFieldOut_sec (h : Head) (n : Nat) (f : FieldOutput → FieldOutput) :
    (h.setFieldOut n f).sec = h.sec := rfl
@[simp] theorem Head.setFieldOut_backup (h : Head) (n : Nat) (f : FieldOutput → FieldOutput) :
    (h.setFieldOut n f).backup = h.backup := rfl
@[simp] theorem Head.setFieldOut_power (h : Head) (n : Nat) (f : FieldOutput → FieldOutput) :
    (h.setFieldOut n f).power = h.power := rfl
@[simp] theorem Head.setFieldOut_net (h : Head) (n : Nat) (f : FieldOutput → FieldOutput) :
    (h.setFieldOut n f).net = h.net := rfl
@[simp] theorem Head.setFieldOut_ranges (h : Head) (n : Nat) (f : FieldOutput → FieldOutput) :
    (h.setFieldOut n f).ranges = h.ranges := rfl
@[simp] theorem Head.setFieldOut_axes (h : Head) (n : Nat) (f : FieldOutput → FieldOutput) :
    (h.setFieldOut n f).axes = h.axes := rfl
@[simp] theorem Head.setFieldOut_movers (h : Head) (n : Nat) (f : FieldOutput → FieldOutput) :
    (h.setFieldOut n f).movers = h.movers := rfl
@[simp] theorem Head.setFieldOut_tracks (h : Head) (n : Nat) (f : FieldOutput → FieldOutput) :
    (h.setFieldOut n f).tracks = h.tracks := rfl
@[simp] theorem Head.setFieldOut_binds (h : Head) (n : Nat) (f : FieldOutput → FieldOutput) :
    (h.setFieldOut n f).binds = h.binds := rfl
@[simp] theorem Head.setFieldOut_deferred (h : Head) (n : Nat) (f : FieldOutput → FieldOutput) :
    (h.setFieldOut n f).deferred = h.deferred := rfl
@[simp] theorem Head.setFieldOut_terrain (h : Head) (n : Nat) (f : FieldOutput → FieldOutput) :
    (h.setFieldOut n f).terrain = h.terrain := rfl
@[simp] theorem Head.setFieldOut_blends (h : Head) (n : Nat) (f : FieldOutput → FieldOutput) :
    (h.setFieldOut n f).blends = h.blends := rfl
@[simp] theorem Head.setFieldOut_time (h : Head) (n : Nat) (f : FieldOutput → FieldOutput) :
    (h.setFieldOut n f).time = h.time := rfl
@[simp] theorem Head.setFieldOut_cal (h : Head) (n : Nat) (f : FieldOutput → FieldOutput) :
    (h.setFieldOut n f).cal = h.cal := rfl
@[simp] theorem Head.setFieldOut_channels (h : Head) (n : Nat) (f : FieldOutput → FieldOutput) :
    (h.setFieldOut n f).channels = h.channels := rfl
@[simp] theorem Head.setFieldOut_compute (h : Head) (n : Nat) (f : FieldOutput → FieldOutput) :
    (h.setFieldOut n f).compute = h.compute := rfl
@[simp] theorem Head.setFieldOut_steps (h : Head) (n : Nat) (f : FieldOutput → FieldOutput) :
    (h.setFieldOut n f).steps = h.steps := rfl
@[simp] theorem Head.setFieldOut_microsteps (h : Head) (n : Nat) (f : FieldOutput → FieldOutput) :
    (h.setFieldOut n f).microsteps = h.microsteps := rfl
@[simp] theorem Head.setFieldOut_acq (h : Head) (n : Nat) (f : FieldOutput → FieldOutput) :
    (h.setFieldOut n f).acq = h.acq := rfl
@[simp] theorem Head.setFieldOut_peer (h : Head) (n : Nat) (f : FieldOutput → FieldOutput) :
    (h.setFieldOut n f).peer = h.peer := rfl
@[simp] theorem Head.setFieldOut_sent (h : Head) (n : Nat) (f : FieldOutput → FieldOutput) :
    (h.setFieldOut n f).sent = h.sent := rfl
@[simp] theorem Head.setFieldOut_drawn (h : Head) (n : Nat) (f : FieldOutput → FieldOutput) :
    (h.setFieldOut n f).drawn = h.drawn := rfl

@[simp] theorem Head.setOutput_sys (h : Head) (o : Nat) (f : OutputGroup → OutputGroup) :
    (h.setOutput o f).sys = h.sys := rfl
@[simp] theorem Head.setOutput_queues (h : Head) (o : Nat) (f : OutputGroup → OutputGroup) :
    (h.setOutput o f).queues = h.queues := rfl
@[simp] theorem Head.setOutput_ethq (h : Head) (o : Nat) (f : OutputGroup → OutputGroup) :
    (h.setOutput o f).ethq = h.ethq := rfl
@[simp] theorem Head.setOutput_fences (h : Head) (o : Nat) (f : OutputGroup → OutputGroup) :
    (h.setOutput o f).fences = h.fences := rfl
@[simp] theorem Head.setOutput_turn (h : Head) (o : Nat) (f : OutputGroup → OutputGroup) :
    (h.setOutput o f).turn = h.turn := rfl
@[simp] theorem Head.setOutput_evq (h : Head) (o : Nat) (f : OutputGroup → OutputGroup) :
    (h.setOutput o f).evq = h.evq := rfl
@[simp] theorem Head.setOutput_eth (h : Head) (o : Nat) (f : OutputGroup → OutputGroup) :
    (h.setOutput o f).eth = h.eth := rfl
@[simp] theorem Head.setOutput_pcie (h : Head) (o : Nat) (f : OutputGroup → OutputGroup) :
    (h.setOutput o f).pcie = h.pcie := rfl
@[simp] theorem Head.setOutput_sec (h : Head) (o : Nat) (f : OutputGroup → OutputGroup) :
    (h.setOutput o f).sec = h.sec := rfl
@[simp] theorem Head.setOutput_backup (h : Head) (o : Nat) (f : OutputGroup → OutputGroup) :
    (h.setOutput o f).backup = h.backup := rfl
@[simp] theorem Head.setOutput_power (h : Head) (o : Nat) (f : OutputGroup → OutputGroup) :
    (h.setOutput o f).power = h.power := rfl
@[simp] theorem Head.setOutput_pins (h : Head) (o : Nat) (f : OutputGroup → OutputGroup) :
    (h.setOutput o f).pins = h.pins := rfl
@[simp] theorem Head.setOutput_net (h : Head) (o : Nat) (f : OutputGroup → OutputGroup) :
    (h.setOutput o f).net = h.net := rfl
@[simp] theorem Head.setOutput_ranges (h : Head) (o : Nat) (f : OutputGroup → OutputGroup) :
    (h.setOutput o f).ranges = h.ranges := rfl
@[simp] theorem Head.setOutput_axes (h : Head) (o : Nat) (f : OutputGroup → OutputGroup) :
    (h.setOutput o f).axes = h.axes := rfl
@[simp] theorem Head.setOutput_movers (h : Head) (o : Nat) (f : OutputGroup → OutputGroup) :
    (h.setOutput o f).movers = h.movers := rfl
@[simp] theorem Head.setOutput_tracks (h : Head) (o : Nat) (f : OutputGroup → OutputGroup) :
    (h.setOutput o f).tracks = h.tracks := rfl
@[simp] theorem Head.setOutput_binds (h : Head) (o : Nat) (f : OutputGroup → OutputGroup) :
    (h.setOutput o f).binds = h.binds := rfl
@[simp] theorem Head.setOutput_deferred (h : Head) (o : Nat) (f : OutputGroup → OutputGroup) :
    (h.setOutput o f).deferred = h.deferred := rfl
@[simp] theorem Head.setOutput_terrain (h : Head) (o : Nat) (f : OutputGroup → OutputGroup) :
    (h.setOutput o f).terrain = h.terrain := rfl
@[simp] theorem Head.setOutput_blends (h : Head) (o : Nat) (f : OutputGroup → OutputGroup) :
    (h.setOutput o f).blends = h.blends := rfl
@[simp] theorem Head.setOutput_time (h : Head) (o : Nat) (f : OutputGroup → OutputGroup) :
    (h.setOutput o f).time = h.time := rfl
@[simp] theorem Head.setOutput_cal (h : Head) (o : Nat) (f : OutputGroup → OutputGroup) :
    (h.setOutput o f).cal = h.cal := rfl
@[simp] theorem Head.setOutput_channels (h : Head) (o : Nat) (f : OutputGroup → OutputGroup) :
    (h.setOutput o f).channels = h.channels := rfl
@[simp] theorem Head.setOutput_compute (h : Head) (o : Nat) (f : OutputGroup → OutputGroup) :
    (h.setOutput o f).compute = h.compute := rfl
@[simp] theorem Head.setOutput_steps (h : Head) (o : Nat) (f : OutputGroup → OutputGroup) :
    (h.setOutput o f).steps = h.steps := rfl
@[simp] theorem Head.setOutput_microsteps (h : Head) (o : Nat) (f : OutputGroup → OutputGroup) :
    (h.setOutput o f).microsteps = h.microsteps := rfl
@[simp] theorem Head.setOutput_acq (h : Head) (o : Nat) (f : OutputGroup → OutputGroup) :
    (h.setOutput o f).acq = h.acq := rfl
@[simp] theorem Head.setOutput_peer (h : Head) (o : Nat) (f : OutputGroup → OutputGroup) :
    (h.setOutput o f).peer = h.peer := rfl
@[simp] theorem Head.setOutput_sent (h : Head) (o : Nat) (f : OutputGroup → OutputGroup) :
    (h.setOutput o f).sent = h.sent := rfl
@[simp] theorem Head.setOutput_drawn (h : Head) (o : Nat) (f : OutputGroup → OutputGroup) :
    (h.setOutput o f).drawn = h.drawn := rfl

@[simp] theorem Head.emit_sys (h : Head) (o : Output) :
    (h.emit o).sys = h.sys := rfl
@[simp] theorem Head.emit_queues (h : Head) (o : Output) :
    (h.emit o).queues = h.queues := rfl
@[simp] theorem Head.emit_ethq (h : Head) (o : Output) :
    (h.emit o).ethq = h.ethq := rfl
@[simp] theorem Head.emit_fences (h : Head) (o : Output) :
    (h.emit o).fences = h.fences := rfl
@[simp] theorem Head.emit_turn (h : Head) (o : Output) :
    (h.emit o).turn = h.turn := rfl
@[simp] theorem Head.emit_evq (h : Head) (o : Output) :
    (h.emit o).evq = h.evq := rfl
@[simp] theorem Head.emit_eth (h : Head) (o : Output) :
    (h.emit o).eth = h.eth := rfl
@[simp] theorem Head.emit_pcie (h : Head) (o : Output) :
    (h.emit o).pcie = h.pcie := rfl
@[simp] theorem Head.emit_faults (h : Head) (o : Output) :
    (h.emit o).faults = h.faults := rfl
@[simp] theorem Head.emit_sec (h : Head) (o : Output) :
    (h.emit o).sec = h.sec := rfl
@[simp] theorem Head.emit_backup (h : Head) (o : Output) :
    (h.emit o).backup = h.backup := rfl
@[simp] theorem Head.emit_power (h : Head) (o : Output) :
    (h.emit o).power = h.power := rfl
@[simp] theorem Head.emit_pins (h : Head) (o : Output) :
    (h.emit o).pins = h.pins := rfl
@[simp] theorem Head.emit_net (h : Head) (o : Output) :
    (h.emit o).net = h.net := rfl
@[simp] theorem Head.emit_ranges (h : Head) (o : Output) :
    (h.emit o).ranges = h.ranges := rfl
@[simp] theorem Head.emit_axes (h : Head) (o : Output) :
    (h.emit o).axes = h.axes := rfl
@[simp] theorem Head.emit_movers (h : Head) (o : Output) :
    (h.emit o).movers = h.movers := rfl
@[simp] theorem Head.emit_tracks (h : Head) (o : Output) :
    (h.emit o).tracks = h.tracks := rfl
@[simp] theorem Head.emit_binds (h : Head) (o : Output) :
    (h.emit o).binds = h.binds := rfl
@[simp] theorem Head.emit_deferred (h : Head) (o : Output) :
    (h.emit o).deferred = h.deferred := rfl
@[simp] theorem Head.emit_terrain (h : Head) (o : Output) :
    (h.emit o).terrain = h.terrain := rfl
@[simp] theorem Head.emit_blends (h : Head) (o : Output) :
    (h.emit o).blends = h.blends := rfl
@[simp] theorem Head.emit_time (h : Head) (o : Output) :
    (h.emit o).time = h.time := rfl
@[simp] theorem Head.emit_cal (h : Head) (o : Output) :
    (h.emit o).cal = h.cal := rfl
@[simp] theorem Head.emit_channels (h : Head) (o : Output) :
    (h.emit o).channels = h.channels := rfl
@[simp] theorem Head.emit_compute (h : Head) (o : Output) :
    (h.emit o).compute = h.compute := rfl
@[simp] theorem Head.emit_steps (h : Head) (o : Output) :
    (h.emit o).steps = h.steps := rfl
@[simp] theorem Head.emit_microsteps (h : Head) (o : Output) :
    (h.emit o).microsteps = h.microsteps := rfl
@[simp] theorem Head.emit_acq (h : Head) (o : Output) :
    (h.emit o).acq = h.acq := rfl
@[simp] theorem Head.emit_peer (h : Head) (o : Output) :
    (h.emit o).peer = h.peer := rfl
@[simp] theorem Head.emit_drawn (h : Head) (o : Output) :
    (h.emit o).drawn = h.drawn := rfl

@[simp] theorem Head.finish_sys (h : Head) (a : Await) (st : Nat) (ps : List Byte) :
    (h.finish a st ps).sys = h.sys := rfl
@[simp] theorem Head.finish_ethq (h : Head) (a : Await) (st : Nat) (ps : List Byte) :
    (h.finish a st ps).ethq = h.ethq := rfl
@[simp] theorem Head.finish_fences (h : Head) (a : Await) (st : Nat) (ps : List Byte) :
    (h.finish a st ps).fences = h.fences := rfl
@[simp] theorem Head.finish_turn (h : Head) (a : Await) (st : Nat) (ps : List Byte) :
    (h.finish a st ps).turn = h.turn := rfl
@[simp] theorem Head.finish_evq (h : Head) (a : Await) (st : Nat) (ps : List Byte) :
    (h.finish a st ps).evq = h.evq := rfl
@[simp] theorem Head.finish_eth (h : Head) (a : Await) (st : Nat) (ps : List Byte) :
    (h.finish a st ps).eth = h.eth := rfl
@[simp] theorem Head.finish_pcie (h : Head) (a : Await) (st : Nat) (ps : List Byte) :
    (h.finish a st ps).pcie = h.pcie := rfl
@[simp] theorem Head.finish_faults (h : Head) (a : Await) (st : Nat) (ps : List Byte) :
    (h.finish a st ps).faults = h.faults := rfl
@[simp] theorem Head.finish_sec (h : Head) (a : Await) (st : Nat) (ps : List Byte) :
    (h.finish a st ps).sec = h.sec := rfl
@[simp] theorem Head.finish_backup (h : Head) (a : Await) (st : Nat) (ps : List Byte) :
    (h.finish a st ps).backup = h.backup := rfl
@[simp] theorem Head.finish_power (h : Head) (a : Await) (st : Nat) (ps : List Byte) :
    (h.finish a st ps).power = h.power := rfl
@[simp] theorem Head.finish_pins (h : Head) (a : Await) (st : Nat) (ps : List Byte) :
    (h.finish a st ps).pins = h.pins := rfl
@[simp] theorem Head.finish_net (h : Head) (a : Await) (st : Nat) (ps : List Byte) :
    (h.finish a st ps).net = h.net := rfl
@[simp] theorem Head.finish_ranges (h : Head) (a : Await) (st : Nat) (ps : List Byte) :
    (h.finish a st ps).ranges = h.ranges := rfl
@[simp] theorem Head.finish_axes (h : Head) (a : Await) (st : Nat) (ps : List Byte) :
    (h.finish a st ps).axes = h.axes := rfl
@[simp] theorem Head.finish_movers (h : Head) (a : Await) (st : Nat) (ps : List Byte) :
    (h.finish a st ps).movers = h.movers := rfl
@[simp] theorem Head.finish_tracks (h : Head) (a : Await) (st : Nat) (ps : List Byte) :
    (h.finish a st ps).tracks = h.tracks := rfl
@[simp] theorem Head.finish_binds (h : Head) (a : Await) (st : Nat) (ps : List Byte) :
    (h.finish a st ps).binds = h.binds := rfl
@[simp] theorem Head.finish_deferred (h : Head) (a : Await) (st : Nat) (ps : List Byte) :
    (h.finish a st ps).deferred = h.deferred := rfl
@[simp] theorem Head.finish_terrain (h : Head) (a : Await) (st : Nat) (ps : List Byte) :
    (h.finish a st ps).terrain = h.terrain := rfl
@[simp] theorem Head.finish_blends (h : Head) (a : Await) (st : Nat) (ps : List Byte) :
    (h.finish a st ps).blends = h.blends := rfl
@[simp] theorem Head.finish_time (h : Head) (a : Await) (st : Nat) (ps : List Byte) :
    (h.finish a st ps).time = h.time := rfl
@[simp] theorem Head.finish_cal (h : Head) (a : Await) (st : Nat) (ps : List Byte) :
    (h.finish a st ps).cal = h.cal := rfl
@[simp] theorem Head.finish_channels (h : Head) (a : Await) (st : Nat) (ps : List Byte) :
    (h.finish a st ps).channels = h.channels := rfl
@[simp] theorem Head.finish_compute (h : Head) (a : Await) (st : Nat) (ps : List Byte) :
    (h.finish a st ps).compute = h.compute := rfl
@[simp] theorem Head.finish_steps (h : Head) (a : Await) (st : Nat) (ps : List Byte) :
    (h.finish a st ps).steps = h.steps := rfl
@[simp] theorem Head.finish_microsteps (h : Head) (a : Await) (st : Nat) (ps : List Byte) :
    (h.finish a st ps).microsteps = h.microsteps := rfl
@[simp] theorem Head.finish_acq (h : Head) (a : Await) (st : Nat) (ps : List Byte) :
    (h.finish a st ps).acq = h.acq := rfl
@[simp] theorem Head.finish_peer (h : Head) (a : Await) (st : Nat) (ps : List Byte) :
    (h.finish a st ps).peer = h.peer := rfl
@[simp] theorem Head.finish_sent (h : Head) (a : Await) (st : Nat) (ps : List Byte) :
    (h.finish a st ps).sent = h.sent := rfl
@[simp] theorem Head.finish_drawn (h : Head) (a : Await) (st : Nat) (ps : List Byte) :
    (h.finish a st ps).drawn = h.drawn := rfl

@[simp] theorem Head.setStep_sys (h : Head) (a : Nat) (f : Stepper → Stepper) :
    (h.setStep a f).sys = h.sys := rfl
@[simp] theorem Head.setStep_queues (h : Head) (a : Nat) (f : Stepper → Stepper) :
    (h.setStep a f).queues = h.queues := rfl
@[simp] theorem Head.setStep_ethq (h : Head) (a : Nat) (f : Stepper → Stepper) :
    (h.setStep a f).ethq = h.ethq := rfl
@[simp] theorem Head.setStep_fences (h : Head) (a : Nat) (f : Stepper → Stepper) :
    (h.setStep a f).fences = h.fences := rfl
@[simp] theorem Head.setStep_turn (h : Head) (a : Nat) (f : Stepper → Stepper) :
    (h.setStep a f).turn = h.turn := rfl
@[simp] theorem Head.setStep_evq (h : Head) (a : Nat) (f : Stepper → Stepper) :
    (h.setStep a f).evq = h.evq := rfl
@[simp] theorem Head.setStep_eth (h : Head) (a : Nat) (f : Stepper → Stepper) :
    (h.setStep a f).eth = h.eth := rfl
@[simp] theorem Head.setStep_pcie (h : Head) (a : Nat) (f : Stepper → Stepper) :
    (h.setStep a f).pcie = h.pcie := rfl
@[simp] theorem Head.setStep_faults (h : Head) (a : Nat) (f : Stepper → Stepper) :
    (h.setStep a f).faults = h.faults := rfl
@[simp] theorem Head.setStep_sec (h : Head) (a : Nat) (f : Stepper → Stepper) :
    (h.setStep a f).sec = h.sec := rfl
@[simp] theorem Head.setStep_backup (h : Head) (a : Nat) (f : Stepper → Stepper) :
    (h.setStep a f).backup = h.backup := rfl
@[simp] theorem Head.setStep_power (h : Head) (a : Nat) (f : Stepper → Stepper) :
    (h.setStep a f).power = h.power := rfl
@[simp] theorem Head.setStep_pins (h : Head) (a : Nat) (f : Stepper → Stepper) :
    (h.setStep a f).pins = h.pins := rfl
@[simp] theorem Head.setStep_net (h : Head) (a : Nat) (f : Stepper → Stepper) :
    (h.setStep a f).net = h.net := rfl
@[simp] theorem Head.setStep_ranges (h : Head) (a : Nat) (f : Stepper → Stepper) :
    (h.setStep a f).ranges = h.ranges := rfl
@[simp] theorem Head.setStep_movers (h : Head) (a : Nat) (f : Stepper → Stepper) :
    (h.setStep a f).movers = h.movers := rfl
@[simp] theorem Head.setStep_tracks (h : Head) (a : Nat) (f : Stepper → Stepper) :
    (h.setStep a f).tracks = h.tracks := rfl
@[simp] theorem Head.setStep_binds (h : Head) (a : Nat) (f : Stepper → Stepper) :
    (h.setStep a f).binds = h.binds := rfl
@[simp] theorem Head.setStep_deferred (h : Head) (a : Nat) (f : Stepper → Stepper) :
    (h.setStep a f).deferred = h.deferred := rfl
@[simp] theorem Head.setStep_terrain (h : Head) (a : Nat) (f : Stepper → Stepper) :
    (h.setStep a f).terrain = h.terrain := rfl
@[simp] theorem Head.setStep_blends (h : Head) (a : Nat) (f : Stepper → Stepper) :
    (h.setStep a f).blends = h.blends := rfl
@[simp] theorem Head.setStep_time (h : Head) (a : Nat) (f : Stepper → Stepper) :
    (h.setStep a f).time = h.time := rfl
@[simp] theorem Head.setStep_cal (h : Head) (a : Nat) (f : Stepper → Stepper) :
    (h.setStep a f).cal = h.cal := rfl
@[simp] theorem Head.setStep_channels (h : Head) (a : Nat) (f : Stepper → Stepper) :
    (h.setStep a f).channels = h.channels := rfl
@[simp] theorem Head.setStep_compute (h : Head) (a : Nat) (f : Stepper → Stepper) :
    (h.setStep a f).compute = h.compute := rfl
@[simp] theorem Head.setStep_steps (h : Head) (a : Nat) (f : Stepper → Stepper) :
    (h.setStep a f).steps = h.steps := rfl
@[simp] theorem Head.setStep_microsteps (h : Head) (a : Nat) (f : Stepper → Stepper) :
    (h.setStep a f).microsteps = h.microsteps := rfl
@[simp] theorem Head.setStep_acq (h : Head) (a : Nat) (f : Stepper → Stepper) :
    (h.setStep a f).acq = h.acq := rfl
@[simp] theorem Head.setStep_peer (h : Head) (a : Nat) (f : Stepper → Stepper) :
    (h.setStep a f).peer = h.peer := rfl
@[simp] theorem Head.setStep_sent (h : Head) (a : Nat) (f : Stepper → Stepper) :
    (h.setStep a f).sent = h.sent := rfl
@[simp] theorem Head.setStep_drawn (h : Head) (a : Nat) (f : Stepper → Stepper) :
    (h.setStep a f).drawn = h.drawn := rfl

@[simp] theorem Head.noteChange_sys (h : Head) (c : MirrorChange) :
    (h.noteChange c).sys = h.sys := rfl
@[simp] theorem Head.noteChange_queues (h : Head) (c : MirrorChange) :
    (h.noteChange c).queues = h.queues := rfl
@[simp] theorem Head.noteChange_ethq (h : Head) (c : MirrorChange) :
    (h.noteChange c).ethq = h.ethq := rfl
@[simp] theorem Head.noteChange_fences (h : Head) (c : MirrorChange) :
    (h.noteChange c).fences = h.fences := rfl
@[simp] theorem Head.noteChange_turn (h : Head) (c : MirrorChange) :
    (h.noteChange c).turn = h.turn := rfl
@[simp] theorem Head.noteChange_evq (h : Head) (c : MirrorChange) :
    (h.noteChange c).evq = h.evq := rfl
@[simp] theorem Head.noteChange_eth (h : Head) (c : MirrorChange) :
    (h.noteChange c).eth = h.eth := rfl
@[simp] theorem Head.noteChange_pcie (h : Head) (c : MirrorChange) :
    (h.noteChange c).pcie = h.pcie := rfl
@[simp] theorem Head.noteChange_faults (h : Head) (c : MirrorChange) :
    (h.noteChange c).faults = h.faults := rfl
@[simp] theorem Head.noteChange_sec (h : Head) (c : MirrorChange) :
    (h.noteChange c).sec = h.sec := rfl
@[simp] theorem Head.noteChange_backup (h : Head) (c : MirrorChange) :
    (h.noteChange c).backup = h.backup := rfl
@[simp] theorem Head.noteChange_power (h : Head) (c : MirrorChange) :
    (h.noteChange c).power = h.power := rfl
@[simp] theorem Head.noteChange_pins (h : Head) (c : MirrorChange) :
    (h.noteChange c).pins = h.pins := rfl
@[simp] theorem Head.noteChange_net (h : Head) (c : MirrorChange) :
    (h.noteChange c).net = h.net := rfl
@[simp] theorem Head.noteChange_ranges (h : Head) (c : MirrorChange) :
    (h.noteChange c).ranges = h.ranges := rfl
@[simp] theorem Head.noteChange_axes (h : Head) (c : MirrorChange) :
    (h.noteChange c).axes = h.axes := rfl
@[simp] theorem Head.noteChange_movers (h : Head) (c : MirrorChange) :
    (h.noteChange c).movers = h.movers := rfl
@[simp] theorem Head.noteChange_tracks (h : Head) (c : MirrorChange) :
    (h.noteChange c).tracks = h.tracks := rfl
@[simp] theorem Head.noteChange_binds (h : Head) (c : MirrorChange) :
    (h.noteChange c).binds = h.binds := rfl
@[simp] theorem Head.noteChange_deferred (h : Head) (c : MirrorChange) :
    (h.noteChange c).deferred = h.deferred := rfl
@[simp] theorem Head.noteChange_terrain (h : Head) (c : MirrorChange) :
    (h.noteChange c).terrain = h.terrain := rfl
@[simp] theorem Head.noteChange_blends (h : Head) (c : MirrorChange) :
    (h.noteChange c).blends = h.blends := rfl
@[simp] theorem Head.noteChange_time (h : Head) (c : MirrorChange) :
    (h.noteChange c).time = h.time := rfl
@[simp] theorem Head.noteChange_cal (h : Head) (c : MirrorChange) :
    (h.noteChange c).cal = h.cal := rfl
@[simp] theorem Head.noteChange_channels (h : Head) (c : MirrorChange) :
    (h.noteChange c).channels = h.channels := rfl
@[simp] theorem Head.noteChange_compute (h : Head) (c : MirrorChange) :
    (h.noteChange c).compute = h.compute := rfl
@[simp] theorem Head.noteChange_steps (h : Head) (c : MirrorChange) :
    (h.noteChange c).steps = h.steps := rfl
@[simp] theorem Head.noteChange_microsteps (h : Head) (c : MirrorChange) :
    (h.noteChange c).microsteps = h.microsteps := rfl
@[simp] theorem Head.noteChange_acq (h : Head) (c : MirrorChange) :
    (h.noteChange c).acq = h.acq := rfl
@[simp] theorem Head.noteChange_sent (h : Head) (c : MirrorChange) :
    (h.noteChange c).sent = h.sent := rfl
@[simp] theorem Head.noteChange_drawn (h : Head) (c : MirrorChange) :
    (h.noteChange c).drawn = h.drawn := rfl

@[simp] theorem Head.belayOutputs_sys (h : Head) :
    h.belayOutputs.sys = h.sys := rfl
@[simp] theorem Head.belayOutputs_queues (h : Head) :
    h.belayOutputs.queues = h.queues := rfl
@[simp] theorem Head.belayOutputs_ethq (h : Head) :
    h.belayOutputs.ethq = h.ethq := rfl
@[simp] theorem Head.belayOutputs_fences (h : Head) :
    h.belayOutputs.fences = h.fences := rfl
@[simp] theorem Head.belayOutputs_turn (h : Head) :
    h.belayOutputs.turn = h.turn := rfl
@[simp] theorem Head.belayOutputs_evq (h : Head) :
    h.belayOutputs.evq = h.evq := rfl
@[simp] theorem Head.belayOutputs_eth (h : Head) :
    h.belayOutputs.eth = h.eth := rfl
@[simp] theorem Head.belayOutputs_pcie (h : Head) :
    h.belayOutputs.pcie = h.pcie := rfl
@[simp] theorem Head.belayOutputs_faults (h : Head) :
    h.belayOutputs.faults = h.faults := rfl
@[simp] theorem Head.belayOutputs_sec (h : Head) :
    h.belayOutputs.sec = h.sec := rfl
@[simp] theorem Head.belayOutputs_backup (h : Head) :
    h.belayOutputs.backup = h.backup := rfl
@[simp] theorem Head.belayOutputs_power (h : Head) :
    h.belayOutputs.power = h.power := rfl
@[simp] theorem Head.belayOutputs_net (h : Head) :
    h.belayOutputs.net = h.net := rfl
@[simp] theorem Head.belayOutputs_ranges (h : Head) :
    h.belayOutputs.ranges = h.ranges := rfl
@[simp] theorem Head.belayOutputs_axes (h : Head) :
    h.belayOutputs.axes = h.axes := rfl
@[simp] theorem Head.belayOutputs_movers (h : Head) :
    h.belayOutputs.movers = h.movers := rfl
@[simp] theorem Head.belayOutputs_tracks (h : Head) :
    h.belayOutputs.tracks = h.tracks := rfl
@[simp] theorem Head.belayOutputs_binds (h : Head) :
    h.belayOutputs.binds = h.binds := rfl
@[simp] theorem Head.belayOutputs_deferred (h : Head) :
    h.belayOutputs.deferred = h.deferred := rfl
@[simp] theorem Head.belayOutputs_terrain (h : Head) :
    h.belayOutputs.terrain = h.terrain := rfl
@[simp] theorem Head.belayOutputs_blends (h : Head) :
    h.belayOutputs.blends = h.blends := rfl
@[simp] theorem Head.belayOutputs_time (h : Head) :
    h.belayOutputs.time = h.time := rfl
@[simp] theorem Head.belayOutputs_cal (h : Head) :
    h.belayOutputs.cal = h.cal := rfl
@[simp] theorem Head.belayOutputs_channels (h : Head) :
    h.belayOutputs.channels = h.channels := rfl
@[simp] theorem Head.belayOutputs_compute (h : Head) :
    h.belayOutputs.compute = h.compute := rfl
@[simp] theorem Head.belayOutputs_steps (h : Head) :
    h.belayOutputs.steps = h.steps := rfl
@[simp] theorem Head.belayOutputs_microsteps (h : Head) :
    h.belayOutputs.microsteps = h.microsteps := rfl
@[simp] theorem Head.belayOutputs_acq (h : Head) :
    h.belayOutputs.acq = h.acq := rfl
@[simp] theorem Head.belayOutputs_peer (h : Head) :
    h.belayOutputs.peer = h.peer := rfl
@[simp] theorem Head.belayOutputs_sent (h : Head) :
    h.belayOutputs.sent = h.sent := rfl
@[simp] theorem Head.belayOutputs_drawn (h : Head) :
    h.belayOutputs.drawn = h.drawn := rfl

@[simp] theorem Head.belaySteps_sys (h : Head) :
    h.belaySteps.sys = h.sys := rfl
@[simp] theorem Head.belaySteps_queues (h : Head) :
    h.belaySteps.queues = h.queues := rfl
@[simp] theorem Head.belaySteps_ethq (h : Head) :
    h.belaySteps.ethq = h.ethq := rfl
@[simp] theorem Head.belaySteps_fences (h : Head) :
    h.belaySteps.fences = h.fences := rfl
@[simp] theorem Head.belaySteps_turn (h : Head) :
    h.belaySteps.turn = h.turn := rfl
@[simp] theorem Head.belaySteps_evq (h : Head) :
    h.belaySteps.evq = h.evq := rfl
@[simp] theorem Head.belaySteps_eth (h : Head) :
    h.belaySteps.eth = h.eth := rfl
@[simp] theorem Head.belaySteps_pcie (h : Head) :
    h.belaySteps.pcie = h.pcie := rfl
@[simp] theorem Head.belaySteps_faults (h : Head) :
    h.belaySteps.faults = h.faults := rfl
@[simp] theorem Head.belaySteps_sec (h : Head) :
    h.belaySteps.sec = h.sec := rfl
@[simp] theorem Head.belaySteps_backup (h : Head) :
    h.belaySteps.backup = h.backup := rfl
@[simp] theorem Head.belaySteps_power (h : Head) :
    h.belaySteps.power = h.power := rfl
@[simp] theorem Head.belaySteps_pins (h : Head) :
    h.belaySteps.pins = h.pins := rfl
@[simp] theorem Head.belaySteps_net (h : Head) :
    h.belaySteps.net = h.net := rfl
@[simp] theorem Head.belaySteps_ranges (h : Head) :
    h.belaySteps.ranges = h.ranges := rfl
@[simp] theorem Head.belaySteps_axes (h : Head) :
    h.belaySteps.axes = h.axes := rfl
@[simp] theorem Head.belaySteps_movers (h : Head) :
    h.belaySteps.movers = h.movers := rfl
@[simp] theorem Head.belaySteps_tracks (h : Head) :
    h.belaySteps.tracks = h.tracks := rfl
@[simp] theorem Head.belaySteps_binds (h : Head) :
    h.belaySteps.binds = h.binds := rfl
@[simp] theorem Head.belaySteps_deferred (h : Head) :
    h.belaySteps.deferred = h.deferred := rfl
@[simp] theorem Head.belaySteps_terrain (h : Head) :
    h.belaySteps.terrain = h.terrain := rfl
@[simp] theorem Head.belaySteps_blends (h : Head) :
    h.belaySteps.blends = h.blends := rfl
@[simp] theorem Head.belaySteps_time (h : Head) :
    h.belaySteps.time = h.time := rfl
@[simp] theorem Head.belaySteps_cal (h : Head) :
    h.belaySteps.cal = h.cal := rfl
@[simp] theorem Head.belaySteps_channels (h : Head) :
    h.belaySteps.channels = h.channels := rfl
@[simp] theorem Head.belaySteps_compute (h : Head) :
    h.belaySteps.compute = h.compute := rfl
@[simp] theorem Head.belaySteps_microsteps (h : Head) :
    h.belaySteps.microsteps = h.microsteps := rfl
@[simp] theorem Head.belaySteps_acq (h : Head) :
    h.belaySteps.acq = h.acq := rfl
@[simp] theorem Head.belaySteps_peer (h : Head) :
    h.belaySteps.peer = h.peer := rfl
@[simp] theorem Head.belaySteps_sent (h : Head) :
    h.belaySteps.sent = h.sent := rfl
@[simp] theorem Head.belaySteps_drawn (h : Head) :
    h.belaySteps.drawn = h.drawn := rfl

end Sys2Proof.Machine
end

