-- ==== Sys2Proof/Laws/Events.lean ====
section
/-! SUPPORT. What posting an event can do: it changes the event queue, the PCIe function and the outputs, nothing else. -/
namespace Sys2Proof.Machine

/-- `k` is `h` but for the event queue, the PCIe function and the outputs. -/
def Head.PostsTo (h k : Head) : Prop := ∃ e p o, k = { h with evq := e, pcie := p, sent := o }

theorem Head.PostsTo.refl (h : Head) : h.PostsTo h := ⟨h.evq, h.pcie, h.sent, rfl⟩

theorem Head.PostsTo.trans {a b c : Head} (x : a.PostsTo b) (y : b.PostsTo c) : a.PostsTo c := by
  obtain ⟨e, p, o, rfl⟩ := x
  obtain ⟨e', p', o', rfl⟩ := y
  exact ⟨e', p', o', rfl⟩

theorem Head.PostsTo.emit (h : Head) (o : Output) : h.PostsTo (h.emit o) := ⟨_, _, _, rfl⟩

theorem Head.PostsTo.evq (h : Head) (e : EventQueue) : h.PostsTo { h with evq := e } := ⟨_, _, _, rfl⟩

theorem Head.PostsTo.pcie (h : Head) (p : Pcie) : h.PostsTo { h with pcie := p } := ⟨_, _, _, rfl⟩

theorem Head.signal_posts (h : Head) (v : Nat) : h.PostsTo (h.signal v) := by
  unfold Head.signal
  split
  · exact .emit h _
  · exact .pcie h _

theorem Head.writeEvent_posts (h : Head) (code source time cycle object : Nat) (data : List Byte) :
    h.PostsTo (h.writeEvent code source time cycle object data) := by
  unfold Head.writeEvent
  simp only
  split
  · exact ((Head.PostsTo.evq h _).trans (.emit _ _)).trans (Head.signal_posts _ _)
  · exact .evq h _

theorem Head.wakeHost_posts (h : Head) : h.PostsTo h.wakeHost := by
  unfold Head.wakeHost
  split
  · exact (Head.PostsTo.pcie h _).trans (.emit _ _)
  · exact .refl h

theorem Head.flushLost_posts (h : Head) : h.PostsTo h.flushLost := by
  unfold Head.flushLost
  split
  · exact ((Head.writeEvent_posts h _ _ _ _ _ _).trans (Head.wakeHost_posts _)).trans (.evq _ _)
  · exact .refl h

/-- The spec lemma of posting (R87, R88). -/
theorem Head.postAt_posts (h : Head) (code source object time cycle : Nat) (data : List Byte) :
    h.PostsTo (h.postAt code source object time cycle data) := by
  unfold Head.postAt
  simp only
  refine (Head.flushLost_posts h).trans ?_
  split
  · exact (Head.writeEvent_posts _ _ _ _ _ _ _).trans (Head.wakeHost_posts _)
  · exact (Head.PostsTo.evq _ _).trans (Head.wakeHost_posts _)

theorem Head.post_posts (h : Head) (code source object : Nat) (data : List (Nat × Nat)) :
    h.PostsTo (h.post code source object data) := Head.postAt_posts _ _ _ _ _ _ _

theorem Head.postFor_posts (h : Head) (code object : Nat) (a : Await) : h.PostsTo (h.postFor code object a) := by
  unfold Head.postFor
  split <;> exact Head.post_posts _ _ _ _ _

theorem Head.PostsTo.faults {h k : Head} (x : h.PostsTo k) : k.faults = h.faults := by obtain ⟨_, _, _, rfl⟩ := x; rfl
theorem Head.PostsTo.sys {h k : Head} (x : h.PostsTo k) : k.sys = h.sys := by obtain ⟨_, _, _, rfl⟩ := x; rfl
theorem Head.PostsTo.pins {h k : Head} (x : h.PostsTo k) : k.pins = h.pins := by obtain ⟨_, _, _, rfl⟩ := x; rfl
theorem Head.PostsTo.steps {h k : Head} (x : h.PostsTo k) : k.steps = h.steps := by obtain ⟨_, _, _, rfl⟩ := x; rfl
theorem Head.PostsTo.ranges {h k : Head} (x : h.PostsTo k) : k.ranges = h.ranges := by obtain ⟨_, _, _, rfl⟩ := x; rfl
theorem Head.PostsTo.axes {h k : Head} (x : h.PostsTo k) : k.axes = h.axes := by obtain ⟨_, _, _, rfl⟩ := x; rfl
theorem Head.PostsTo.queues {h k : Head} (x : h.PostsTo k) : k.queues = h.queues := by obtain ⟨_, _, _, rfl⟩ := x; rfl
theorem Head.PostsTo.compute {h k : Head} (x : h.PostsTo k) : k.compute = h.compute := by obtain ⟨_, _, _, rfl⟩ := x; rfl
theorem Head.PostsTo.time {h k : Head} (x : h.PostsTo k) : k.time = h.time := by obtain ⟨_, _, _, rfl⟩ := x; rfl
theorem Head.PostsTo.sec {h k : Head} (x : h.PostsTo k) : k.sec = h.sec := by obtain ⟨_, _, _, rfl⟩ := x; rfl

end Sys2Proof.Machine
end

