-- ==== Sys2Proof/Laws/Reactions.lean ====
section
/-! SUPPORT. The last four reactions of `Head.settle` (outputs, stepper channels, ALIVE, fence): what each leaves alone, and
that together they hold the outputs of the part. -/
namespace Sys2Proof.Machine

/-! ### ALIVE and the fence leave everything else alone -/

theorem Head.settleAlive_latches (h : Head) : h.settleAlive.faults.latches = h.faults.latches := by
  unfold Head.settleAlive
  simp only
  split
  · split
    · rw [(Head.post_posts _ _ _ _ _).faults]
    · rfl
  · rfl

theorem Head.settleAlive_outputs (h : Head) : h.settleAlive.faults.outputs = h.faults.outputs := by
  unfold Head.settleAlive
  simp only
  split
  · split
    · rw [(Head.post_posts _ _ _ _ _).faults]
    · rfl
  · rfl

theorem Head.settleAlive_sys (h : Head) : h.settleAlive.sys = h.sys := by
  unfold Head.settleAlive
  simp only
  split
  · split
    · rw [(Head.post_posts _ _ _ _ _).sys]
    · rfl
  · rfl

theorem Head.settleAlive_pins (h : Head) : h.settleAlive.pins = h.pins := by
  unfold Head.settleAlive
  simp only
  split
  · split
    · rw [(Head.post_posts _ _ _ _ _).pins]
    · rfl
  · rfl

theorem Head.settleAlive_steps (h : Head) : h.settleAlive.steps = h.steps := by
  unfold Head.settleAlive
  simp only
  split
  · split
    · rw [(Head.post_posts _ _ _ _ _).steps]
    · rfl
  · rfl

theorem Head.settleAlive_axes (h : Head) : h.settleAlive.axes = h.axes := by
  unfold Head.settleAlive
  simp only
  split
  · split
    · rw [(Head.post_posts _ _ _ _ _).axes]
    · rfl
  · rfl

theorem Head.settleAlive_ranges (h : Head) : h.settleAlive.ranges = h.ranges := by
  unfold Head.settleAlive
  simp only
  split
  · split
    · rw [(Head.post_posts _ _ _ _ _).ranges]
    · rfl
  · rfl

theorem Head.settleAlive_compute (h : Head) : h.settleAlive.compute = h.compute := by
  unfold Head.settleAlive
  simp only
  split
  · split
    · rw [(Head.post_posts _ _ _ _ _).compute]
    · rfl
  · rfl

/-- The fence's reaction changes queues, fences and what an event changes. -/
theorem Head.settleFence_eq (h : Head) :
    ∃ e p o q f, h.settleFence = { h with evq := e, pcie := p, sent := o, queues := q, fences := f } := by
  unfold Head.settleFence
  split
  · exact ⟨h.evq, h.pcie, h.sent, h.queues, h.fences, rfl⟩
  · split
    · rename_i f rest _ _
      obtain ⟨e, p, o, hk⟩ := Head.post_posts h 0x0201 1 0xFFFF [(4, f.echo.tag), (1, f.queue)]
      simp only [hk]
      exact ⟨e, p, o, _, _, rfl⟩
    · exact ⟨h.evq, h.pcie, h.sent, h.queues, h.fences, rfl⟩

/-! ### What the reactions read -/

theorem Head.hasS4_congr {h k : Head} (l : k.faults.latches = h.faults.latches) : k.hasS4 = h.hasS4 := by
  unfold Head.hasS4 Head.latchWord Head.latch?
  rw [l]

theorem Head.hasS3_congr {h k : Head} (l : k.faults.latches = h.faults.latches) (r : Nat) : k.hasS3 r = h.hasS3 r := by
  unfold Head.hasS3 Head.latchWord Head.latch?
  rw [l]

theorem Head.deviceBelay_congr {h k : Head} (l : k.faults.latches = h.faults.latches) (y : k.sys = h.sys) :
    k.deviceBelay = h.deviceBelay := by
  unfold Head.deviceBelay
  rw [Head.hasS4_congr l, y]

theorem Head.rangeDrives_congr {h k : Head} (y : k.sys = h.sys) (r : k.ranges = h.ranges) (n : Nat) :
    k.rangeDrives n = h.rangeDrives n := by
  unfold Head.rangeDrives Head.range
  rw [y, r]

theorem Head.outputBelayed_congr {h k : Head} (l : k.faults.latches = h.faults.latches) (y : k.sys = h.sys)
    (r : k.ranges = h.ranges) (o : k.faults.outputs = h.faults.outputs) (n : Nat) :
    k.outputBelayed n = h.outputBelayed n := by
  unfold Head.outputBelayed Head.output
  rw [Head.deviceBelay_congr l y, Head.rangeDrives_congr y r, o]

theorem Head.stepHeldLow_congr {h k : Head} (l : k.faults.latches = h.faults.latches) (y : k.sys = h.sys)
    (r : k.ranges = h.ranges) (c : k.compute = h.compute) (a : Axis) : k.stepHeldLow a = h.stepHeldLow a := by
  unfold Head.stepHeldLow Head.range
  rw [Head.deviceBelay_congr l y, r, c]

theorem Head.output_congr {h k : Head} (o : k.faults.outputs = h.faults.outputs) (n : Nat) : k.output n = h.output n := by
  unfold Head.output
  rw [o]

/-! ### The outputs are held -/

@[simp] theorem FieldOutput.switch_on (o : FieldOutput) (on : Bool) : (o.switch on).on = on := rfl
@[simp] theorem FieldOutput.switch_written (o : FieldOutput) (on : Bool) : (o.switch on).written = o.written := rfl
@[simp] theorem FieldOutput.switch_short (o : FieldOutput) (on : Bool) : (o.switch on).short = o.short := rfl

theorem Head.belayOutputs_fieldOutputsHeld (h : Head) : h.belayOutputs.fieldOutputsHeld := by
  intro n o ho hb
  have hb : h.outputBelayed n = true := hb
  simp only [Head.belayOutputs, List.getElem?_mapIdx, Option.map_eq_some_iff] at ho
  obtain ⟨x, -, rfl⟩ := ho
  simp [hb]

theorem Head.belayOutputs_ballsHeld (h : Head) : h.belayOutputs.ballsHeld := by
  intro k p hp hb
  have hb : h.outputBelayed (4 + k) = true := hb
  simp only [Head.belayOutputs, List.getElem?_mapIdx, Option.map_eq_some_iff] at hp
  obtain ⟨x, -, rfl⟩ := hp
  rw [if_pos hb]
  unfold Pin.belay
  split <;> simp_all [Head.output]

theorem Head.belaySteps_stepsHeld (h : Head) : h.belaySteps.stepsHeld := by
  intro n c hc ha
  simp only [Head.belaySteps, List.getElem?_mapIdx, Option.map_eq_some_iff] at hc
  obtain ⟨x, -, rfl⟩ := hc
  have ha : ((h.axes.find? fun a => a.localStep && a.stepChannel = n).all fun a => h.stepHeldLow a) = true := ha
  split
  · rename_i a h'
    rw [h'] at ha
    have ha : h.stepHeldLow a = true := ha
    simp [ha]
  · simp

theorem Head.settleAlive_aliveHeld (h : Head) : h.settleAlive.aliveHeld := by
  intro hc
  rw [Head.hasS4_congr h.settleAlive_latches] at hc
  unfold Head.fromCommission Head.fromBoot at hc
  rw [h.settleAlive_sys] at hc
  unfold Head.settleAlive
  simp only
  rw [if_pos (by simpa [Head.fromCommission, Head.fromBoot] using hc)]
  split
  · rw [(Head.post_posts _ _ _ _ _).faults]
    simp
  · simp

/-- Whatever a command did, its reactions leave the outputs held. -/
theorem Head.settle_outputsHeld (h : Head) : h.settle.outputsHeld := by
  unfold Head.settle
  simp only
  generalize List.foldl _ _ _ = k
  obtain ⟨e, p, o, q, f, hk⟩ := Head.settleFence_eq k.belayOutputs.belaySteps.settleAlive
  have latches : k.belayOutputs.belaySteps.settleAlive.faults.latches = k.faults.latches := Head.settleAlive_latches _
  have outputs : k.belayOutputs.belaySteps.settleAlive.faults.outputs = k.faults.outputs := Head.settleAlive_outputs _
  have sys : k.belayOutputs.belaySteps.settleAlive.sys = k.sys := Head.settleAlive_sys _
  have pins : k.belayOutputs.belaySteps.settleAlive.pins = k.belayOutputs.pins := Head.settleAlive_pins _
  have steps : k.belayOutputs.belaySteps.settleAlive.steps = k.belayOutputs.belaySteps.steps := Head.settleAlive_steps _
  have axes : k.belayOutputs.belaySteps.settleAlive.axes = k.axes := Head.settleAlive_axes _
  have ranges : k.belayOutputs.belaySteps.settleAlive.ranges = k.ranges := Head.settleAlive_ranges _
  have compute : k.belayOutputs.belaySteps.settleAlive.compute = k.compute := Head.settleAlive_compute _
  rw [hk]
  refine ⟨?_, ?_, ?_, ?_⟩
  · intro n x hx hb
    refine Head.belayOutputs_fieldOutputsHeld k n x (pins ▸ hx) ?_
    rw [← hb]
    exact (Head.outputBelayed_congr latches sys ranges outputs n).symm
  · intro n x hx hb
    have := Head.belayOutputs_ballsHeld k n x (pins ▸ hx)
      (by rw [← hb]; exact (Head.outputBelayed_congr latches sys ranges outputs (4 + n)).symm)
    refine ⟨?_, this.2⟩
    rw [this.1]
    congr 2
    exact congrArg OutputGroup.safeHigh (Head.output_congr outputs (4 + n)).symm
  · intro n c hc ha
    refine Head.belaySteps_stepsHeld k n c (steps ▸ hc) ?_
    rw [← ha]
    show (k.axes.find? _).all _ = (Option.all _ (List.find? _ _))
    rw [axes]
    congr 1
    funext a
    exact (Head.stepHeldLow_congr latches sys ranges compute a).symm
  · exact Head.settleAlive_aliveHeld _

end Sys2Proof.Machine
end

