-- ==== Sys2Proof/Laws/Motion.lean ====
section
/-! SUPPORT. What the fault reactions of axes and ranges can change (R97, R101, R222, R333): queues, axes, the calendar's
entries and what waits to be mirrored; a range's reaction its range as well. -/
namespace Sys2Proof.Machine

/-- `k` is `h` but for queues, axes, calendar and mirror. -/
def Head.MovesTo (h k : Head) : Prop := ∃ q a c p, k = { h with queues := q, axes := a, cal := c, peer := p }

theorem Head.MovesTo.refl (h : Head) : h.MovesTo h := ⟨h.queues, h.axes, h.cal, h.peer, rfl⟩

theorem Head.MovesTo.trans {a b c : Head} (x : a.MovesTo b) (y : b.MovesTo c) : a.MovesTo c := by
  obtain ⟨q, x, c, p, rfl⟩ := x
  obtain ⟨q', x', c', p', rfl⟩ := y
  exact ⟨q', x', c', p', rfl⟩

theorem Head.MovesTo.finish (h : Head) (a : Await) (st : Nat) (ps : List Byte) : h.MovesTo (h.finish a st ps) := ⟨_, _, _, _, rfl⟩
theorem Head.MovesTo.setAxis (h : Head) (a : Nat) (f : Axis → Axis) : h.MovesTo (h.setAxis a f) := ⟨_, _, _, _, rfl⟩
theorem Head.MovesTo.setAxes (h : Head) (p : Axis → Bool) (f : Axis → Axis) : h.MovesTo (h.setAxes p f) := ⟨_, _, _, _, rfl⟩
theorem Head.MovesTo.setStep (h : Head) (a : Nat) (f : Stepper → Stepper) : h.MovesTo (h.setStep a f) := ⟨_, _, _, _, rfl⟩
theorem Head.MovesTo.noteChange (h : Head) (c : MirrorChange) : h.MovesTo (h.noteChange c) := ⟨_, _, _, _, rfl⟩

theorem Head.MovesTo.foldl {α : Type} (f : Head → α → Head) (step : ∀ (h : Head) (x : α), h.MovesTo (f h x)) (xs : List α) (h : Head) :
    h.MovesTo (xs.foldl f h) := by
  induction xs generalizing h with
  | nil => exact .refl h
  | cons x xs ih => exact (step h x).trans (ih (f h x))

theorem Head.dropMotion_moves (h : Head) (a : Nat) : h.MovesTo (h.dropMotion a) := by
  unfold Head.dropMotion
  exact .trans (.trans (.trans (.finish h _ _ _) (.finish _ _ _ _)) (.finish _ _ _ _)) (.setAxis _ _ _)

theorem Head.stopSteps_moves (h : Head) (a : Axis) (set : Nat) (quick fault : Bool) (status : Nat) :
    h.MovesTo (h.stopSteps a set quick fault status) := by
  have done : h.MovesTo ((h.finish (.stepped (a.step.group.getD a.id)) status).finish (.homed a.id) status) :=
    .trans (.finish h _ _ _) (.finish _ _ _ _)
  unfold Head.stopSteps
  simp only
  split
  · exact done
  · split
    · exact done.trans (.setStep _ _ _)
    · exact done.trans (.setAxes _ _ _)

theorem Head.dropSteps_moves (h : Head) (a : Axis) : h.MovesTo (h.dropSteps a) := by
  have done : h.MovesTo (((h.finish (.stepped (a.step.group.getD a.id)) Status.stepStopped).finish (.homed a.id)
      Status.badState).finish (.stepStopped a.id) Status.ok) :=
    .trans (.trans (.finish h _ _ _) (.finish _ _ _ _)) (.finish _ _ _ _)
  unfold Head.dropSteps
  refine .trans (done.trans ?_) (.setStep _ _ _)
  split
  · exact .foldl _ (fun h x => (Head.stopSteps_moves h _ _ _ _ _).trans (.setStep _ _ _)) _ _
  · exact .refl _

theorem Head.dropAxis_moves (h : Head) (a : Axis) : h.MovesTo (h.dropAxis a) := by
  unfold Head.dropAxis
  refine .trans ?_ (.setAxis _ _ _)
  refine (Head.dropMotion_moves h a.id).trans ?_
  split
  · exact Head.dropSteps_moves _ _
  · exact .refl _

theorem Head.freeEntry_moves (h : Head) (n : Nat) : h.MovesTo (h.freeEntry n) := by
  unfold Head.freeEntry
  split
  · exact ⟨_, _, _, _, rfl⟩
  · exact .refl _

theorem Head.freeHandover_moves (h : Head) (axis : Nat) : h.MovesTo (h.freeHandover axis) := by
  unfold Head.freeHandover
  split
  · exact .foldl _ (fun h k => Head.freeEntry_moves h _) _ _
  · exact .refl _

theorem Head.belayAxis_moves (h : Head) (a : Axis) : h.MovesTo (h.belayAxis a) := by
  unfold Head.belayAxis
  exact ((Head.dropAxis_moves h a).trans (Head.freeHandover_moves _ _)).trans (.setAxis _ _ _)

theorem Head.startStop_moves (h : Head) (a : Axis) (quick fault : Bool) (after : AfterStop) :
    h.MovesTo (h.startStop a quick fault after) := by
  unfold Head.startStop
  exact .trans (.finish h _ _ _) (.setAxis _ _ _)

/-- The spec lemma of an axis's reaction. -/
theorem Head.settleAxis_moves (h : Head) (id : Nat) : h.MovesTo (h.settleAxis id) := by
  unfold Head.settleAxis
  split
  · exact .refl _
  · simp only
    split
    · split
      · exact .refl _
      · split
        · split
          · split
            · exact .refl _
            · exact Head.startStop_moves _ _ _ _ _
          · split
            · exact .refl _
            · exact Head.stopSteps_moves _ _ _ _ _ _
        · exact Head.belayAxis_moves _ _
    · split
      · exact .setAxis _ _ _
      · exact .refl _

theorem Head.MovesTo.ranges {h k : Head} (x : h.MovesTo k) : k.ranges = h.ranges := by obtain ⟨_, _, _, _, rfl⟩ := x; rfl
theorem Head.MovesTo.faults {h k : Head} (x : h.MovesTo k) : k.faults = h.faults := by obtain ⟨_, _, _, _, rfl⟩ := x; rfl
theorem Head.MovesTo.sys {h k : Head} (x : h.MovesTo k) : k.sys = h.sys := by obtain ⟨_, _, _, _, rfl⟩ := x; rfl

/-- `k` is `h` but for queues, axes, calendar, mirror and ranges. -/
def Head.RangesTo (h k : Head) : Prop := ∃ q a c p r, k = { h with queues := q, axes := a, cal := c, peer := p, ranges := r }

theorem Head.RangesTo.refl (h : Head) : h.RangesTo h := ⟨h.queues, h.axes, h.cal, h.peer, h.ranges, rfl⟩

theorem Head.RangesTo.trans {a b c : Head} (x : a.RangesTo b) (y : b.RangesTo c) : a.RangesTo c := by
  obtain ⟨q, x, c, p, r, rfl⟩ := x
  obtain ⟨q', x', c', p', r', rfl⟩ := y
  exact ⟨q', x', c', p', r', rfl⟩

theorem Head.MovesTo.rangesTo {h k : Head} (x : h.MovesTo k) : h.RangesTo k := by
  obtain ⟨q, a, c, p, rfl⟩ := x
  exact ⟨q, a, c, p, _, rfl⟩

theorem Head.RangesTo.setRange (h : Head) (r : Nat) (f : Range → Range) : h.RangesTo (h.setRange r f) := ⟨_, _, _, _, _, rfl⟩

theorem Head.RangesTo.foldl {α : Type} (f : Head → α → Head) (step : ∀ (h : Head) (x : α), h.RangesTo (f h x)) (xs : List α) (h : Head) :
    h.RangesTo (xs.foldl f h) := by
  induction xs generalizing h with
  | nil => exact .refl h
  | cons x xs ih => exact (step h x).trans (ih (f h x))

theorem Head.belayRange_ranges (h : Head) (r : Nat) : h.RangesTo (h.belayRange r) := by
  unfold Head.belayRange
  have done : h.RangesTo ((h.finish (.rangeRunning r) Status.badState).finish (.rangeStopped r) Status.ok) :=
    Head.MovesTo.rangesTo (.trans (.finish h _ _ _) (.finish _ _ _ _))
  exact (done.trans (.setRange _ _ _)).trans (.foldl _ (fun h a => (Head.dropAxis_moves h a).rangesTo) _ _)

/-- The spec lemma of a range's reaction. -/
theorem Head.settleRange_ranges (h : Head) (r : Nat) : h.RangesTo (h.settleRange r) := by
  unfold Head.settleRange
  simp only
  split
  · exact .refl _
  · split
    · split
      · exact .refl _
      · exact Head.belayRange_ranges _ _
    · split
      · exact .setRange _ _ _
      · split
        · exact .trans (.setRange _ _ _) (Head.MovesTo.rangesTo (.finish _ _ _ _))
        · exact .refl _

theorem Head.RangesTo.faults {h k : Head} (x : h.RangesTo k) : k.faults = h.faults := by obtain ⟨_, _, _, _, _, rfl⟩ := x; rfl
theorem Head.RangesTo.sys {h k : Head} (x : h.RangesTo k) : k.sys = h.sys := by obtain ⟨_, _, _, _, _, rfl⟩ := x; rfl

end Sys2Proof.Machine
end

