-- ==== Sys2Proof/Laws/Window.lean ====
section
/-! SUPPORT. The recovery window (Table 03-1): its words are kept in one canonical form, and a read gives what was last written. -/
namespace Sys2Proof.Machine

theorem wordsWf_cons {w v : Nat} {m : List (Nat × Nat)} :
    wordsWf ((w, v) :: m) ↔ v ≠ 0 ∧ (∀ c ∈ m, w < c.1) ∧ wordsWf m := by
  simp [wordsWf, and_assoc]

theorem wordsWf_filter {m : List (Nat × Nat)} (wf : wordsWf m) (f : Nat × Nat → Bool) : wordsWf (m.filter f) := by
  induction m with
  | nil => rfl
  | cons c m ih =>
    obtain ⟨nonzero, rising, rest⟩ := wordsWf_cons.mp wf
    rw [List.filter_cons]
    split
    · exact wordsWf_cons.mpr ⟨nonzero, fun d hd => rising d (List.mem_filter.mp hd).1, ih rest⟩
    · exact ih rest

theorem mem_putKey {x c : Nat × Nat} {m : List (Nat × Nat)} (h : c ∈ putKey (fun c => c.1) x m) : c = x ∨ c ∈ m := by
  induction m with
  | nil => simpa [putKey] using h
  | cons y m ih =>
    simp only [putKey] at h
    split at h
    · simpa using h
    · split at h
      · exact (List.mem_cons.mp h).imp_right (List.mem_cons_of_mem _)
      · rcases List.mem_cons.mp h with rfl | h
        · exact .inr (List.mem_cons_self ..)
        · exact (ih h).imp_right (List.mem_cons_of_mem _)

theorem wordsWf_putKey {m : List (Nat × Nat)} {w v : Nat} (wf : wordsWf m) (hv : v ≠ 0) :
    wordsWf (putKey (fun c => c.1) (w, v) m) := by
  induction m with
  | nil => simp [putKey, wordsWf, hv]
  | cons y m ih =>
    obtain ⟨nonzero, rising, rest⟩ := wordsWf_cons.mp wf
    simp only [putKey]
    split
    · rename_i below
      refine wordsWf_cons.mpr ⟨hv, fun d hd => ?_, wf⟩
      rcases List.mem_cons.mp hd with rfl | hd
      · exact below
      · exact Nat.lt_trans below (rising d hd)
    · split
      · rename_i same
        exact wordsWf_cons.mpr ⟨hv, fun d hd => same ▸ rising d hd, rest⟩
      · refine wordsWf_cons.mpr ⟨nonzero, fun d hd => ?_, ih rest⟩
        rcases mem_putKey hd with rfl | hd
        · show y.1 < w
          omega
        · exact rising d hd

/-- Writing a word keeps the window's canonical form. -/
theorem putWord_wf {m : List (Nat × Nat)} (wf : wordsWf m) (w v : Nat) : wordsWf (putWord m w v) := by
  unfold putWord
  split
  · exact wordsWf_filter wf _
  · exact wordsWf_putKey wf ‹_›

/-- Writing bytes keeps the window's canonical form. -/
theorem fillWords_wf {m : List (Nat × Nat)} (wf : wordsWf m) (bytes : List Byte) : wordsWf (fillWords m bytes) := by
  unfold fillWords
  generalize List.range _ = places
  induction places generalizing m with
  | nil => exact wf
  | cons i places ih => exact ih (putWord_wf wf _ _)

theorem wordAt_putKey (m : List (Nat × Nat)) (w v a : Nat) :
    wordAt (putKey (fun c => c.1) (w, v) m) a = if a = w then v else wordAt m a := by
  induction m with
  | nil =>
    by_cases e : a = w
    · simp [putKey, wordAt, e]
    · simp [putKey, wordAt, e, Ne.symm e]
  | cons y m ih =>
    simp only [putKey]
    by_cases e : a = w
    · subst e
      split
      · simp [wordAt]
      · split
        · simp [wordAt]
        · rename_i apart
          have ne : (y.1 == a) = false := by simpa using Ne.symm apart
          simpa [wordAt, List.find?_cons, ne] using ih
    · have ne : (w == a) = false := by simpa using Ne.symm e
      split
      · simp [wordAt, List.find?_cons, ne]
      · split
        · rename_i same
          have ney : (y.1 == a) = false := by rw [← same]; exact ne
          simp [wordAt, ne, ney]
        · rw [if_neg e] at ih
          by_cases hy : y.1 = a
          · simp [wordAt, hy]
          · have ney : (y.1 == a) = false := by simpa using hy
            simpa [wordAt, List.find?_cons, ney] using ih

/-- A read after a write: the word written reads as written, every other as before. -/
theorem wordAt_putWord (m : List (Nat × Nat)) (w v a : Nat) :
    wordAt (putWord m w v) a = if a = w then v else wordAt m a := by
  unfold putWord
  split
  · subst v
    by_cases e : a = w
    · subst e
      have none : m.find? (fun _ => false) = Option.none := List.find?_eq_none.mpr (by simp)
      simp [wordAt, List.find?_filter, none]
    · rw [if_neg e]
      unfold wordAt
      congr 2
      rw [List.find?_filter]
      congr 1
      funext c
      by_cases h : c.1 = a <;> simp_all
  · exact wordAt_putKey m w v a

end Sys2Proof.Machine
end

