-- ==== Sys2Proof/Tests/Slice0.lean ====
section
/-! SUPPORT. The model's own tests: small heads; ill-formed commands that WellFormed refuses; the spec's worked examples; and,
for every statement, states and operands that meet the hypotheses of each of its clauses together. -/
namespace Sys2Proof.Tests
open Sys2Proof Sys2Proof.Machine

set_option Elab.async false

/-! ### Small heads -/

/-- An axis in range 0, placed on core 0 of tile 0, with all coefficient words 0. -/
def axis (id : Nat) (kind : AxisKind) (location track : Nat) : Axis :=
  { id, kind, range := 0, location, track, segIndex := 0, segStart := 0, segLength := 1000000, state := .enabled
    coeff := List.replicate 64 0, coeffRescue := List.replicate 64 0, place := { tile := 0, core := 0, state := .placed } }

/-- A base schedule with one branch of two nodes. -/
def schedule : Schedule :=
  { schedId := 1, rescue := false, rate := 2, upStart := 3000, pipe := 1, dynStart := 20000, join := 25000, mini := 500
    miniCount := 4, window := 27000, babbleLimit := 4, joinEnable := true, babbleWindow := 64
    branches := [{ branch := 0, join := true, slot := 3000, hop := 100, positions := [⟨false, 2, 0⟩, ⟨false, 1, 0⟩] }]
    tracks := [] }

/-- A node that holds its slot. -/
def held : Position := { state := .held, identity := 7, delayA := some 0, delayB := some 0 }

/-- A SOLO head in SERVICE, one second in: mover axis 0 with its mover 0, its segment 1, a remote stepper 2, a local stepper 3
on channel 0 and a rotary axis 4. -/
def work : Head :=
  { sys := { mode := .service, role := .solo, home := true, built := true, checked := true, bootStep := .built }
    axes := [axis 0 .mover 0xFFFF 0, { axis 1 .segment 0 0 with mover := some 0, moverNow := some 0 }, axis 2 .stepper 1024 0,
             axis 3 .stepper 0x8000 0, axis 4 .segment 1 0xFF]
    movers := [{ id := 0, axis := 0, track := 0, length := 400000, coord := 0 }]
    ranges := [{ state := .running }] ++ List.replicate 7 {}
    net := { base := some schedule, running := true, branches := [{ positions := [held, held] }] ++ List.replicate 31 {} }
    time := { head := 1000000000 * 2 ^ 32, cycle := 1000, cycleStart := 1000000000 } }

/-- The same head in another mode. -/
def workIn (m : Mode) : Head := { work with sys := { work.sys with mode := m } }

/-- The same head in another role, with the saddle link up. -/
def workAs (r : Role) : Head := { work with sys := { work.sys with role := r }, peer := { saddleUp := true } }

/-- The echo of a host item with tag 9. -/
def echo9 : Echo := { opcode := 0x0102, tag := 9, target := 0, flags := 0, session := 0, sequence := 0, authed := false }
/-- A final reply of `n` parameter bytes. -/
def reply9 (n : Nat) : Reply := { echo := echo9, asyncDone := false, status := 0, params := List.replicate n 0 }

/-- Queue 0 enabled and changed. -/
def queued (f : Queue → Queue) : Head :=
  { work with queues := setAt 0 (fun q => f { q with enabled := true }) work.queues }
/-- A chunked item being read and a reply of 4 bytes waiting. -/
def replying : Head := queued fun q => { q with replies := [reply9 4] }
/-- A reply too long for the queue. -/
def overlong : Head := queued fun q => { q with replies := [reply9 4000] }
/-- An asynchronous item of queue 0 that has ended. -/
def ended (discard : Bool) : Head :=
  queued fun q => { q with async := [{ echo := echo9, await := .fence, owed := true, final := some (0, []), discard }] }
/-- A group of queue 0, one item short of its effect. -/
def grouped (byTime : Bool) : Head :=
  queued fun q => { q with group := some { byTime, cycle := 1001, time := 1000000100, remaining := 1, fence := echo9, items := [] } }
/-- A FENCE_QUEUES item that waits. -/
def fenced : Head := { work with fences := [{ queue := 0, echo := echo9, timeout := 5, since := 0 }] }

/-- BOOT with recovery over PCIe. -/
def recovering : Head :=
  { work with sys := { work.sys with mode := .boot, bootsel := 2 }, pcie := { work.pcie with linkUp := true, recReady := true } }
/-- Both Ethernet ports run; port 0 reassembles a datagram; three event datagrams are staged. -/
def onNet : Head :=
  { work with eth := [{ mode := 1, addr := 0x0A000001, mask := 0xFF000000, reassembly := [{ key := (1, 2), since := 0, fragments := [] }] }, {}]
              evq := { work.evq with route := 1, staged := [[1], [2], [3]] } }
/-- The second port too has stamps kept: its queue of transmit stamps is full. -/
def stamped : Head :=
  { onNet with time := { onNet.time with ports := [{ stamps := List.replicate 16 (0, 0) }, {}] } }

/-- In RESET with the supplies at work. -/
def starting (p : Power) : Head :=
  { work with sys := { work.sys with mode := .reset, porN := false }, power := p }
/-- The end of BOOT. -/
def lateBoot : Head := { workIn .boot with sys := { (workIn .boot).sys with bootStep := .saddle } }
/-- COMMISSION, network not yet built, AUTO_SERVICE set. -/
def commissioning (built : Bool) : Head :=
  { work with sys := { work.sys with mode := .commission, built, autoService := true }
              net := { work.net with rescue := some { schedule with schedId := 2, rescue := true }, checkRescue := .passed } }
/-- SOLO with a standby head ready. -/
def paired : Head := { work with peer := { work.peer with saddleUp := true, peerStandby := true } }
/-- A transition to a mode under way. -/
def changing (m : Mode) : Head := { work with sys := { work.sys with transition := some ⟨m, 0, 1, none⟩ } }
/-- RESCUE, its axes on no tile, with one mover braked at its landing. -/
def landed : Head :=
  { workIn .rescue with
    axes := [{ axis 0 .mover 0xFFFF 0 with motion := {} }], tracks := [{ landings := [0] }] }
/-- On its way to RESCUE without a rescue schedule. -/
def rescuing : Head := changing .rescue
/-- Rescue triggers armed, the mains input low. -/
def triggered : Head := { work with sys := { work.sys with triggers := 7 } }

/-- PLL C relocking, PLL M locked, a DDR change under way, droop levels 1 and 2. -/
def supplies : Head :=
  { work with power := { work.power with
      pllC := { lost := true }, pllM := { lock := true }, fspChange := [true]
      droop := [{ level := 2 }, { level := 1 }] ++ List.replicate 16 {} } }

/-- Axis 0 (the mover) changed. -/
def moverWith (f : Axis → Axis) : Head := work.setAxis 0 f
/-- The remote stepper changed. -/
def stepWith (f : Stepper → Stepper) : Head := work.setAxis 2 fun a => { a with step := f a.step }
/-- The local stepper changed. -/
def localWith (f : Stepper → Stepper) : Head := work.setAxis 3 fun a => { a with step := f a.step }
/-- Node 0 changed. -/
def nodeWith (f : Position → Position) : Head := work.setPosition 0 f
/-- Branch 0 changed. -/
def branchWith (f : Branch → Branch) : Head := work.setBranch 0 f
/-- Lane 0 and saddle lane 0 in a link state. -/
def lanes (link : Nat) (inverted : Bool) : Head :=
  (work.setLane 0 fun l => { l with link, inverted }).setLane 32 fun l => { l with link, inverted }
/-- Lane 0 of a head whose role is NONE. -/
def laneOff : Head := { lanes 1 false with sys := { work.sys with role := .none } }
/-- Stream 0 running on the probes. -/
def stream0 : StreamCfg :=
  { adc := false, source := 0, div := 1, phase := 0, probes := [0], ringLog2 := 16, vector := 9, ringAddr := 0x10000
    ctrlAddr := 0x20000, watermark := 1000 }
def streaming (f : Stream → Stream) : Head := work.setStreamOf 0 fun s => f { s with state := 1, cfg := some stream0 }
/-- A frame with one value. -/
def frame1 : Frame := { index := 5, time := 1000, period := 0, bytes := [1, 0, 0, 0], values := [some 1] }
/-- A finished record of two frames. -/
def record1 : Record :=
  { index := 5, fraction := 0, time := 256000, forced := false, shortPre := false, left := 0, frames := [frame1, frame1], incomplete := false }
def unitCfg1 : UnitCfg :=
  { stream := 0, source := 0, slope := 0, repeatMode := true, byEvents := false, measure := true, arg := 0, level := 0, hyst := 0
    holdoff := 1, pre := 0, post := 2, measChannel := 0, measHyst := 0 }
/-- Trigger unit 0 with that record. -/
def measuring (streamState : Nat) (cap : Bool) : Head :=
  let h := streaming fun s => { s with state := streamState }
  let h := h.setUnit 0 fun u => { u with cfg := some unitCfg1, state := .holdoff, records := [record1] }
  if cap then { h with acq := { h.acq with capture := some ⟨0, 1, 0⟩ } } else h
/-- A-to-D converter 0 changed. -/
def adcWith (f : Adc → Adc) : Head := work.setAdc 0 f
/-- Feedback channel 0 in a mode. -/
def channelIn (mode : Nat) (f : Feedback → Feedback) : Head :=
  work.setChannel 0 fun c => f { c with cfg := { c.cfg with mode } }
/-- A table entry of the calendar, armed for mover 0. -/
def entry0 : CalEntry :=
  { entry := 0, mover := 0, track := 0, dir := 0, rearm := false, notify := true, action := 0, coord := 0, hyst := 1
    param := List.replicate 16 0, state := .armed, fired := 0, last := 0, missed := false }
/-- The time base changed. -/
def timed (f : TimeBase → TimeBase) : Head := { work with time := f work.time }
/-- The fault collector changed. -/
def faulty (f : Faults → Faults) : Head := { work with faults := f work.faults }
/-- The compute section changed. -/
def loaded (f : Compute → Compute) : Head := { work with compute := f work.compute }
/-- Tile 0 changed. -/
def tileWith (f : Tile → Tile) : Head := work.setTile 0 f
/-- The redundancy section of a role changed. -/
def peerIn (r : Role) (f : Peer → Peer) : Head := { workAs r with peer := f (workAs r).peer }
/-- The security section changed. -/
def secured (f : Security → Security) : Head := { work with sec := f work.sec }

/-- Work in progress of the segment axis. -/
def work1 : Work := { since := 1000 }
def op (axis group : Nat) : Operation := { group, axis, step := 0, cost := 100, since := 0 }

/-- A frame of the other head. -/
def peerFrame (type addr : Nat) (n : Nat) : List Byte :=
  withCrc (pack [(1, type * 16), (2, addr), (2, 0), (3, 1000), (2, n), (2, 0)] ++ List.replicate n 0)
def forwarded (inner : List Byte) : List Byte := pack [(1, 0), (1, 0), (2, 0), (4, 0)] ++ inner
def upForwarded : List Byte := forwarded (peerFrame 3 0 40)
def beaconForwarded : List Byte := forwarded (peerFrame 1 0 16)
def downForwarded : List Byte := forwarded (peerFrame 2 0 24)
def heart : List Byte := pack [(1, 1), (1, 0), (2, 1), (2, 0), (2, 0)] ++ List.replicate 64 0
/-- A report of the standby head's channel. -/
def report6 : List Byte := pack [(1, 6), (1, 0), (2, 1), (2, 0), (2, 0)] ++ List.replicate 16 0
/-- A PTP Sync of one step. -/
def ptpSync : PtpMessage := { annexE := false, bytes := [0, 2, 0, 44] ++ List.replicate 40 0 }
def section6 : List Byte := pack [(1, 6), (1, 0), (2, 1), (2, 0), (2, 0)] ++ List.replicate 8 0
def setting7 : List Byte := pack [(1, 7), (1, 0), (2, 1), (2, 0), (2, 0)] ++ List.replicate 28 0

/-- Range 0 of class G0, its segment axis and its mover axis at the start of their graphs, every core of tile 0 and of Massif
at work for SYS. -/
def crowded : Head :=
  let busy : ReadyList := { cores := List.replicate 4 { active := some (op 3 8) } }
  let h := { work with ranges := setAt 0 (fun r => { r with cls := 0 }) work.ranges
                       compute := { work.compute with massif := busy } }
  (h.setTile 0 fun t => { t with list := busy }).setAxes (fun a => a.id < 2) fun a => { a with graph := .ready, work := some work1 }

/-! ### Host items -/

/-- A session that may send CONFIGURE, MAINTAIN and DEBUG commands, its key one byte. -/
def session1 : Session := { id := 1, key := [1], classes := 7, keyIndex := 0, highest := none, lastUse := 0 }
/-- A head with that session open, in lifecycle state DEVELOPMENT. -/
def opened (h : Head) : Head := { h with sec := { h.sec with sessions := [session1], lifecycle := 1, lifecycleNow := 1, debugLevel := 0 } }
/-- An authenticated item of queue 0 with these parameters. -/
def signed (opcode target : Nat) (params : List Byte) : Packet :=
  { queue := 0, tag := 5, target, flags := 9, session := 1, sequence := 1, length := params.length
    body := params ++ (Config.hmac384 [1]
      (pack [(2, opcode), (2, params.length), (4, 5), (2, target), (1, 9), (1, 1), (4, 1)] ++ params)).take 16 }
/-- What the kernel checks of a host item: nothing refuses it once its MAC verifies, there is room for an item that runs on,
and the further hypotheses of its clause hold of the head that takes it. -/
def servedTest (c : Command) (target : Nat) (params : List Byte) (hd : Head) (later : Bool) (extra : Packet → Head → Bool) : Bool :=
  let s : State := { head := opened hd, pending := [] }
  let p := signed c.opcode target params
  s.fresh.fromBoot && (s.fresh.queue 0).lateItems = 0 && (s.fresh.queue 0).group = none && params.length ≤ 4080
    && judge c .again p s.fresh = none && (!later || decide (((s.taken p).queue 0).pendingAsync < 64)) && extra p (s.taken p)

/-- COMMISSION, range 0 stopped. -/
def halting : Head := { workIn .commission with ranges := { state := .stopped } :: List.replicate 7 {} }
/-- COMMISSION, the mover free of its segment and without automatic handover; its axis is disabled. -/
def bindable : Head :=
  let h : Head := { workIn .commission with movers := work.movers.map fun m => { m with autoHandover := false } }
  (h.setAxis 1 fun a => { a with mover := none, moverNow := none }).setAxes (fun a => a.id = 0 || a.id = 3) fun a =>
    { a with state := .disabled }
/-- The same, with the segment held. -/
def retracked : Head := bindable.setAxis 1 fun a => { a with mover := some 0, moverNow := some 0 }
/-- COMMISSION, channel A of branch 0 cut. -/
def restorable : Head := (workIn .commission).setBranch 0 fun b => { b with chanA := { b.chanA with cut := true } }
/-- COMMISSION, every axis disabled. -/
def idleAxes : Head := (workIn .commission).setAxes (fun _ => true) fun a => { a with state := .disabled }
/-- A calendar entry of the host. -/
def armed1024 : Head := { work with cal := { work.cal with entries := [{ entry0 with entry := 1024 }, entry0] } }
/-- A track with a landing where mover 0 stands, no travel limits, the mover axis tracked. -/
def landingHead : Head :=
  let h := { workIn .commission with tracks := { landings := [0] } :: List.replicate 63 {} }
  { h with movers := h.movers.map fun m => { m with obs := { m.obs with state := .tracking } } }
/-- COMMISSION with a module of one Tor entry for hook 1, loaded by command, and a free hook on a placed axis. -/
def moduleHead : Head :=
  { idleAxes with compute := { work.compute with modules := [
      { id := 1, massif := false, keySlot := 0, version := 1, holdoff := 10, priv := 0
        entries := [{ offset := 0, cost := 10, hook := 1, kinds := 1 }], code := [0], consts := [], bytes := 180, byCommand := true }] } }
/-- The same, attached to axis 0. -/
def hooked : Head := moduleHead.setAxis 1 fun a => { a with hooks := [{ hook := 1, moduleId := 1, entry := 0, priv := [], fresh := true }] }
/-- SET_STEPPER's parameters for a remote axis. -/
def stepParams : List Byte :=
  pack [(4, 0), (1, 3), (1, 0), (1, 100), (1, 20), (2, 2500), (1, 0), (1, 0), (2, 1), (2, 1), (2, 0), (2, 100), (1, 255), (1, 4),
    (2, 1), (4, 0x266666), (4, 0x733333), (4, 0x19999A), (2, 200), (2, 32), (2, 192), (2, 224), (4, 0), (1, 255), (1, 255), (1, 255),
    (1, 0), (1, 8), (1, 0), (2, 100)]
/-- COMMISSION, a ready standby peer. -/
def ready : Head :=
  { workIn .commission with sys := { (workIn .commission).sys with role := .active }
                            peer := { saddleUp := true, peerStandby := true, mirror := .ready, heard := true, state := some 0x200 } }
/-- One captured segment of 64 bytes; trigger unit 0 on a stopped stream. -/
def segmented : Head :=
  let h := (workIn .commission).setStreamOf 0 fun s => { s with cfg := some stream0 }
  let h := h.setUnit 0 fun u => { u with cfg := some { unitCfg1 with repeatMode := false } }
  { h with acq := { h.acq with segments := [List.replicate 64 0] } }
/-- Steppers idle, their range running, with limit inputs. -/
def driving : Head :=
  (workIn .commission).setAxes (fun a => a.kind = .stepper) fun a => { a with step := { a.step with cfg := { a.step.cfg with homeInput := 3 } } }
def pairedAdc : Head := (workIn .commission).setAdc 0 fun a => { a with cfg := { a.cfg with mode := 2 } }
def paired2 : Head := { paired with sys := { paired.sys with mode := .commission } }
/-- IDLE, its one mover braked at a landing. -/
def idleLanded : Head := { landed with sys := { landed.sys with mode := .idle } }
/-- Queues 0 and 1 enabled. -/
def twoQueues : Head := { work with queues := work.queues.map fun q => { q with enabled := true } }

/-- Zero bytes. -/
def zero (n : Nat) : List Byte := List.replicate n 0
/-- The items of a block's witnesses: a command, its TARGET and parameters, the head that takes it, and what else the clause
asks. -/
structure HostCase where
  c      : Command
  target : Nat
  params : List Byte
  head   : Head
  later  : Bool := false
  extra  : Packet → Head → Bool := fun _ _ => true

def HostCase.state (x : HostCase) : State := { head := opened x.head, pending := [] }
def HostCase.packet (x : HostCase) : Packet := signed x.c.opcode x.target x.params
/-- Every hypothesis of a clause holds together. -/
def HostCase.met (x : HostCase) : Prop :=
  x.state.serves x.c x.packet ∧ (x.later = true → x.state.room x.packet) ∧ x.extra x.packet (x.state.taken x.packet) = true
def HostCase.test (x : HostCase) : Bool := servedTest x.c x.target x.params x.head x.later x.extra

theorem signed_headers (o t : Nat) (ps : List Byte) (l : ps.length ≤ 4080) : headersBad (signed o t ps) = false := by
  have e : (signed o t ps).body.length = ps.length + 16 := by simp [signed, Config.hmac384]
  have f : (signed o t ps).length = ps.length := rfl
  have g : hasMac (signed o t ps).flags = true := show hasMac 9 = true by decide
  simp only [headersBad, badHeader, e, f, g]
  simp only [signed, List.any_nil, Bool.or_false, Bool.or_eq_false_iff, decide_eq_false_iff_not]
  simp only [if_true]
  omega

theorem signed_macs (o t : Nat) (ps : List Byte) {h : Head} (s : h.session? 1 = some session1) :
    macsOk o (signed o t ps) h = true := by
  have g : hasMac 9 = true := by decide
  simp only [macsOk, macOk, signed, g, s]
  simp [session1]

/-- What the kernel checked is the clause's hypotheses. -/
theorem HostCase.met_of_test (x : HostCase) (e : x.test = true) : x.met := by
  simp only [HostCase.test, servedTest, Bool.and_eq_true, decide_eq_true_eq, Bool.or_eq_true, Bool.not_eq_true'] at e
  obtain ⟨⟨⟨⟨⟨⟨a, b⟩, c⟩, d⟩, f⟩, g⟩, k⟩ := e
  refine ⟨⟨show 0 < 8 by decide, a, b, c, ?_⟩, ?_, k⟩
  · exact (judge_again (signed_headers _ _ _ d) (signed_macs _ _ _ rfl)).trans f
  · intro l
    rcases g with g | g
    · simp [l] at g
    · exact g

theorem all_met (l : List HostCase) (e : l.all (fun x => x.test) = true) : ∀ x ∈ l, x.met :=
  fun x m => x.met_of_test (List.all_eq_true.mp e x m)

/-! ### The general statements -/

/-- StepRunsFront, IdleStepTicks: a queue that is not empty, and heads that run and that do not. -/
theorem test_met_tick : (workIn .off).fromBoot = false ∧ work.fromBoot = true := by decide +kernel

def queuedRow : State := { head := work, pending := [.cycleStart, .laneDown 0] }
theorem test_met_wellQueued : queuedRow.wellQueued := by
  intro i m
  simp only [queuedRow, List.mem_cons, List.not_mem_nil, or_false] at m
  rcases m with rfl | rfl <;> rfl

theorem test_met_objects : (Instr.laneDown 40).objects = false ∧ (Instr.laneDown 39).objects = true := by decide

/-- StepKeepsOutputsHeld, StepKeepsModeAndRanges: a head after a command, its range 0 in belay, takes another. -/
def belayedRange : Head :=
  { work with ranges := { state := .belay } :: List.replicate 7 {}
              faults := { work.faults with latches := [{ source := srcRange 0, word := 1, counts := [], firstCycle := some 5 }] } }
theorem test_met_outputsHeld : belayedRange.settle.outputsHeld ∧
    ∃ t, step { head := belayedRange.settle, pending := [.eqEnable] } = .next t :=
  ⟨belayedRange.settle_outputsHeld, _, rfl⟩
theorem test_met_modeHeld : belayedRange.modeHeld ∧ belayedRange.rangesHeld ∧ belayedRange.hasS3 0 = true ∧
    ∃ t, step { head := belayedRange, pending := [.eqEnable] } = .next t := by
  refine ⟨?_, ?_, by decide +kernel, _, rfl⟩
  · unfold Head.modeHeld; decide +kernel
  · unfold Head.rangesHeld; decide +kernel

/-- SettleFrame: no S4 latch; or one, not running; or one, in SAFE. -/
def withS4 (m : Mode) : Head :=
  { workIn m with faults := { work.faults with latches := [{ source := 0, word := 1, counts := [], firstCycle := some 5 }] } }
theorem test_met_settleFrame : work.hasS4 = false ∧ ((withS4 .off).hasS4 = true ∧ (withS4 .off).fromBoot = false) ∧
    ((withS4 .safe).hasS4 = true ∧ (withS4 .safe).sys.mode = .safe) := by decide +kernel

/-- An item without a MAC. -/
def plain (target : Nat) (params : List Byte) : Packet :=
  { queue := 0, tag := 5, target, flags := 1, session := 0, sequence := 0, length := params.length, body := params }

/-- RefusedItem: WAKE with a parameter too many. -/
theorem test_met_refusedItem : hostCommand (.wake (plain 0xFFFF [0])) = some (wakeCmd, plain 0xFFFF [0]) ∧
    work.fromBoot = true ∧ (work.queue 0).lateItems = 0 ∧ (work.queue 0).group = none ∧
    judge wakeCmd .queue (plain 0xFFFF [0]) work = some Status.badLength :=
  ⟨rfl, by decide +kernel⟩

/-- ItemsHeldBack, clause by clause. -/
def groupedFor (remaining : Nat) : Head :=
  queued fun q => { q with group := some { byTime := false, cycle := 2000, time := 0, remaining, fence := echo9, items := [] } }
theorem test_met_itemsHeldBack :
    hostCommand (.getSystemStatus (plain 0xFFFF [])) = some (getSystemStatusCmd, plain 0xFFFF []) ∧
    (workIn .off).fromBoot = false ∧
    ((queued fun q => { q with lateItems := 1 }).fromBoot = true ∧ ((queued fun q => { q with lateItems := 1 }).queue 0).lateItems = 1
      ∧ judge getSystemStatusCmd .queue (plain 0xFFFF []) (queued id) = none) ∧
    ((groupedFor 0).fromBoot = true ∧ ((groupedFor 0).queue 0).lateItems = 0
      ∧ (((groupedFor 0).queue 0).group.map fun g => g.remaining) = some 0) ∧
    ((groupedFor 2).fromBoot = true ∧ ((groupedFor 2).queue 0).lateItems = 0
      ∧ (((groupedFor 2).queue 0).group.map fun g => g.remaining) = some 2
      ∧ judge getSystemStatusCmd .queue (plain 0xFFFF []) (groupedFor 1) = none
      ∧ ((groupedFor 1).queue 0).pendingAsync < 64) :=
  ⟨rfl, by decide +kernel⟩

/-- UnauthenticatedItem: REVOKE_KEY and SET_TIME_SOURCE without a MAC. -/
theorem test_met_unauthenticated : revokeKeyCmd.cls = .maintain ∧ setTimeSourceCmd.cls = .configure ∧
    hasMac (plain 0xFFFF []).flags = false ∧ revokeKeyCmd.open_ (plain 0xFFFF []) work = false ∧
    setTimeSourceCmd.open_ (plain 0xFFFF []) work = false ∧
    hostCommand (.revokeKey (plain 0xFFFF [])) = some (revokeKeyCmd, plain 0xFFFF []) ∧
    hostCommand (.setTimeSource (plain 0xFFFF [])) = some (setTimeSourceCmd, plain 0xFFFF []) :=
  ⟨rfl, rfl, by decide, by decide +kernel, by decide +kernel, rfl, rfl⟩

/-- ForgedItem: a MAC of a session that is not open. -/
theorem test_met_forgedItem : hostCommand (.wake (signed 0x0104 0xFFFF [])) = some (wakeCmd, signed 0x0104 0xFFFF []) ∧
    work.fromBoot = true ∧ (work.queue 0).lateItems = 0 ∧ (work.queue 0).group = none ∧
    headersBad (signed 0x0104 0xFFFF []) = false ∧ macsOk 0x0104 (signed 0x0104 0xFFFF []) work = false :=
  ⟨rfl, by decide +kernel, by decide +kernel, by decide +kernel, signed_headers _ _ _ (by decide), by decide +kernel⟩

/-- ObserveChangesNothing: GET_SYSTEM_STATUS, served. -/
theorem test_met_observe : hostCommand (.getSystemStatus (plain 0xFFFF [])) = some (getSystemStatusCmd, plain 0xFFFF []) ∧
    getSystemStatusCmd.cls = .observe ∧ State.serves { head := work, pending := [] } getSystemStatusCmd (plain 0xFFFF []) :=
  ⟨rfl, rfl, by unfold State.serves; decide +kernel⟩

/-- StandbyRefuses: SET_MODE at a standby head. -/
theorem test_met_standbyRefuses :
    hostCommand (.setMode (plain 0xFFFF [2, 0, 0, 0])) = some (setModeCmd, plain 0xFFFF [2, 0, 0, 0]) ∧
    hostCommand (.systemReset (plain 0xFFFF [])) = some (systemResetCmd, plain 0xFFFF []) ∧
    setModeCmd.opcode = 0x0101 ∧ systemResetCmd.opcode = 0x0106 ∧ (workAs .standby).commands = false ∧
    (workAs .standby).fromBoot = true ∧ ((workAs .standby).queue 0).lateItems = 0 ∧ ((workAs .standby).queue 0).group = none ∧
    headersBad (plain 0xFFFF [2, 0, 0, 0]) = false ∧ macsOk 0x0101 (plain 0xFFFF [2, 0, 0, 0]) (workAs .standby) = true ∧
    (chunks (plain 0xFFFF [2, 0, 0, 0])).all setModeCmd.len = true ∧
    classOk setModeCmd (plain 0xFFFF [2, 0, 0, 0]) { workAs .standby with sec := { work.sec with lifecycleNow := 1 } } = true :=
  ⟨rfl, rfl, rfl, rfl, by decide +kernel⟩

/-- FrameRoundTrip, SettingRoundTrip. -/
theorem test_met_frame : (0x3 : Nat) < 16 ∧ (0 : Nat) < 16 ∧ (1023 : Nat) < 1024 ∧ (1 : Nat) < 2 ∧
    ([1, 2] : List Byte).length < 65536 ∧ work.claim < 65536 := by decide +kernel
theorem test_met_setting : (plain 7 [1]).queue = 0 ∧ (plain 7 [1]).tag < 2 ^ 32 ∧ (plain 7 [1]).target < 2 ^ 16 ∧
    (plain 7 [1]).flags < 2 ^ 8 ∧ (plain 7 [1]).session < 2 ^ 8 ∧ (plain 7 [1]).sequence < 2 ^ 32 ∧ (plain 7 [1]).length < 2 ^ 16 ∧
    (plain 7 [1]).body.length = (plain 7 [1]).length ∧ (plain 7 [1]).rest = [] := by decide

/-- EventPosting: in D3hot with PME enabled; dropped by a full ring and by ENABLE 0, posted after lost ones, and posted. -/
theorem test_met_eventPosting : work.evq.route = 0 ∧ work.evq.enabled = false ∧
    (({ work.evq with enabled := true, tail := 4095 } : EventQueue).tail + 1) % 4096 = work.evq.head ∧
    (({ work.evq with enabled := true, lost := 3 } : EventQueue).tail + 1) % 4096 ≠ work.evq.head := by decide +kernel

/-- DetectionLatches: S4 code 1 of the device, not yet latched and latched. -/
theorem test_met_detection : (severity? 0 1).isSome = true ∧ work.latched 0 1 = false ∧ (work.raise 0 1).latched 0 1 = true := by
  decide +kernel

/-- ClaimOrder: epochs one and 2,048 apart, and equal. -/
theorem test_claims : claimGreater 0x001C 0xFFFC = true ∧ claimGreater 0x8000 0x0000 = false ∧ claimGreater 0x0000 0x8000 = false ∧
    claimGreater 0x001C 0x0018 = true := by decide +kernel

/-! ### WellFormed: an ill-formed term for each check -/

theorem test_wf_objects : List.all (List.map (fun i : Instr => !i.wf)
    [.sqTailWrite 8 0 [], .sqTailWrite 0 4096 [], .sqFlushWrite 8 0, .eqHeadWrite 4096, .registerWrite 0x400000 0 0,
     .ethFrameRx 2 [], .reassemblyTimeout 0 4, .eventDatagramSend 0, .eventDatagramSend 33, .porNRise 8 true true, .wakeSource 3,
     .uplinkFrameRx 32 0 [] false, .settlingDone 256, .settlingDone 0x2008, .sensorSuspect 4096, .sensorSuspect 0x2008,
     .moverCutoff 256, .axisGraphComplete 4096, .recordReadyDeadline 1024, .rangeOverrun 8, .dynReplyRx 0 2 0 [] false,
     .contourLate 8192, .laneDown 40, .migrationPrepare 0 16 0, .windowLoad 16 0 0, .tableLoadDone 0 16, .operationDispatch 33,
     .faultDetected 0x10000 0, .faultDetected 0 32] ) id = true := by decide +kernel
theorem test_wf_objects_2 : List.all (List.map (fun i : Instr => !i.wf)
    [.fieldInputReversed 32, .fieldOutputShort 4, .belayReadback 8, .railFault 4, .pllLockLost 3 true, .droopCrossing 18 1,
     .droopCrossing 0 3, .droopRestore 18, .generalTriggerFire 8, .adcPassDone 4 [], .skewCalibrationDone 2 true 0,
     .consumerPoll 4 0, .triggerHoldoffEnd 8, .quadratureEdge 8 ⟨true, 64⟩, .sessionIdleTimeout 0, .sessionIdleTimeout 16, .pinParkEnd 40,
     .debugHalt 0 16 0, .debugHalt 1 0 4, .debugHalt 3 0 0]) id = true := by decide +kernel
theorem test_wf_widths : List.all (List.map (fun i : Instr => !i.wf)
    [.sqTailWrite 0 0 [[0]], .sqFlushWrite 0 (2 ^ 64), .recCommit (2 ^ 32) [], .ethDatagramRx 0 (2 ^ 32) 0 0 [],
     .ethDatagramRx 0 0 (2 ^ 16) 0 [], .dynRequestSend 0 256, .migrationPrepare 0 0 256, .windowLoad 0 (2 ^ 16) 0, .windowLoad 0 0 (2 ^ 31),
     .fieldInputSnapshot (2 ^ 32) 0, .fieldInputSnapshot 0 (2 ^ 64), .ptpTxStamp 0 (2 ^ 16) 0, .adcPassDone 0 (List.replicate 17 0),
     .hallTransition 0 ⟨8, 64⟩, .ptpMessageRx 0 ⟨true, List.replicate (2 ^ 16) 0⟩ 0, .jtagExtest [true], .jtagSamplePreload [] []]) id = true := by decide +kernel
theorem test_wf_packets : List.all (List.map (fun p : Packet => !(Instr.wake p).wf) [
     { plain 0 [] with queue := 8 }, { plain 0 [] with tag := 2 ^ 32 }, plain 0x10000 [], { plain 0 [] with flags := 256 },
     { plain 0 [] with session := 256 }, { plain 0 [] with sequence := 2 ^ 32 }, { plain 0 [] with length := 2 ^ 16 },
     { plain 0 [] with rest := [⟨256, 0, 0, 0, 0, 0, []⟩] }]) id = true := by decide +kernel
theorem test_wf_good : (Instr.wake (plain 0xFFFF [])).wf = true ∧ Instr.cycleStart.wf = true := by decide +kernel

/-! ### The spec's worked examples -/

/-- R202's worked example: KP_V word 0x9E_1F2A, a velocity error of 0x00_1000, 2,590,664. -/
theorem test_gain : gainM 0x9E1F2A = 647666 ∧ gainE 0x9E1F2A = 10 ∧ gainStore 0x9E1F2A 0x1000 = (2590664, false) := by decide +kernel
/-- The worked example of Table 03-7: 4,080 bytes of parameters and a MAC take 69 slots. -/
theorem test_slots : packetSlots 9 4080 = 69 := by decide
/-- R208's worked example: 65,536 + 12,143 after rounding. -/
def friction0 : Terrain :=
  { id := 0, cogging := false, periodic := false, origin := 3000000, spacingLog2 := 16
    entries := List.replicate 6057 0 ++ [0x10000, 0x14000] }
theorem test_terrain : roundDiv (friction0.value 400000123) (2 ^ 24) = 77679 := by decide +kernel
/-- Table 14-2's formats (R365), from the codes of R361: AIN 2.25 V is 0xC000 and a difference of −0.75 V is −8,192. -/
theorem test_results : resultOf { res := 16 } 5 0xC000 = 0xC000 ∧ resultOf { res := 12 } 5 0xC000 = 0x0C00 ∧
    resultOf { res := 12, left := true } 5 0xC000 = 0xC000 ∧ resultOf { res := 16 } 0x22 (-8192) = 0xE000 ∧
    resultOf { res := 12 } 0x22 (-8192) = 0xFE00 ∧ resultOf { res := 12, left := true } 0x22 (-8192) = 0xE000 := by decide +kernel
/-- R362: +125 °C reads 50,963. -/
theorem test_temperature : resultOf { res := 12 } 0x49 50963 = 50963 := by decide +kernel
/-- R456: 400 years are 146,097 days; 2100 is no leap year, 2400 starts again. -/
theorem test_calendar : yearDays 400 = 146097 ∧ leapYear 2100 = false ∧ leapYear 2000 = true ∧
    dateOf ((⟨2100, 2, 28, 23, 59, 59⟩ : Date).seconds + 1) = ⟨2100, 3, 1, 0, 0, 0⟩ := by decide +kernel
/-- R462's total of the balls (Table 19-1). -/
theorem test_balls : (ballGroups.map fun g => g.2).foldl (· + ·) 0 = 900 := by decide
/-- R464, Table 19-2: balls in OFF, in RESET, and in SERVICE, where axis 3 drives stepper channel 0. -/
theorem test_ball_states : (workIn .off).ballState (.st 0 .pa1) = .undriven ∧ (workIn .off).ballState (.fout 0) = .level false ∧
    (workIn .reset).ballState .ddrReset = .level false ∧ (workIn .reset).ballState (.gp 0) = .pullDown ∧
    work.ballState (.gp 0) = .pullDown ∧ work.ballState .xspiReset = .level true := by decide +kernel
/-- Code groups of IEEE 802.3, Table 36-1 (R146): K28.5 and D16.2 after either disparity. -/
theorem test_code_groups : (encodeSymbol false (.special 0xBC)).1 = 0b0011111010 ∧ (encodeSymbol true (.special 0xBC)).1 = 0b1100000101 ∧
    (encodeSymbol false (.data 0x50)).1 = 0b0110110101 ∧ (encodeSymbol true (.data 0x50)).1 = 0b1001000101 ∧
    encodeAll true idleSet = ([0b1100000101, 0b0110110101], true) := by decide +kernel

/-! ### The blocks of host commands: every clause met, its items signed -/

theorem test_met_ModeCommands : ∀ x ∈ ([
    ⟨getSystemStatusCmd, 65535, [], work, false,
      fun _ _ => true⟩,
    ⟨setModeCmd, 65535, [2, 0, 0, 0], work, true,
      fun (p : Packet) (_ : Head) => decide (pu p 0 1 = 2)⟩,
    ⟨setModeCmd, 65535, [3, 0, 0, 0], (workIn .rescue), true,
      fun (p : Packet) (_ : Head) => decide (pu p 0 1 = 3)⟩,
    ⟨setModeCmd, 65535, [4, 0, 0, 0], work, true,
      fun (p : Packet) (H : Head) => decide (pu p 0 1 = 4) && decide ((H.enterRescue 1 (originOf p)).sys.transition.isSome = true)⟩,
    ⟨setModeCmd, 65535, [4, 0, 0, 0], idleLanded, false,
      fun (p : Packet) (H : Head) => decide (pu p 0 1 = 4) && decide ((H.enterRescue 1 (originOf p)).sys.transition.isSome = false)⟩,
    ⟨enterIdleCmd, 65535, [100] ++ zero 7, work, true,
      fun (p : Packet) (H : Head) => (match H.depthFor (pu p 0 4) with | some _ => true | _ => false)⟩,
    ⟨setToleranceCmd, 65535, [1, 0, 0, 0], (workIn .idle), true,
      fun (p : Packet) (_ : Head) => decide (pu p 0 4 < 2)⟩,
    ⟨setToleranceCmd, 65535, [2, 0, 0, 0], ({ workIn .idle with sys := { (workIn .idle).sys with depth := 1, tolerance := 200 } }), false,
      fun (p : Packet) (H : Head) => decide (2 ≤ pu p 0 4) && decide ((H.depthFor (pu p 0 4)).getD H.sys.depth = H.sys.depth)⟩,
    ⟨setToleranceCmd, 65535, [2, 0, 0, 0], (workIn .idle), true,
      fun (p : Packet) (H : Head) => decide (2 ≤ pu p 0 4) && (let d := (H.depthFor (pu p 0 4)).getD H.sys.depth; decide (d ≠ H.sys.depth))⟩,
    ⟨wakeCmd, 65535, [], (workIn .idle), true,
      fun _ _ => true⟩,
    ⟨setRescuePolicyCmd, 65535, [1, 2, 232, 3, 5, 0, 0, 0], work, false,
      fun _ _ => true⟩,
    ⟨systemResetCmd, 65535, zero 4, (workIn .commission), false,
      fun _ _ => true⟩] : List HostCase), x.met :=
  all_met _ (by decide +kernel)

theorem test_met_QueueCommands : ∀ x ∈ ([
    ⟨getQueueStatusCmd, 65535, zero 4, work, false,
      fun _ _ => true⟩,
    ⟨fenceQueuesCmd, 65535, zero 4, work, false,
      fun _ _ => true⟩,
    ⟨fenceCycleCmd, 65535, [76, 4, 0, 0, 0, 0, 2, 0], work, true,
      fun _ _ => true⟩,
    ⟨fenceTimeCmd, 65535, [0, 171, 144, 65, 0, 0, 0, 0, 2, 0, 0, 0], work, true,
      fun _ _ => true⟩,
    ⟨flushQueueCmd, 65535, [1, 0, 0, 0], twoQueues, false,
      fun _ _ => true⟩,
    ⟨setEventRouteCmd, 65535, zero 12, work, false,
      fun (p : Packet) (_ : Head) => decide (pu p 0 1 = 0)⟩,
    ⟨setEventRouteCmd, 65535, [1, 0, 0, 0, 10, 0, 0, 1, 160, 15, 0, 0], work, false,
      fun (p : Packet) (_ : Head) => decide (0 < pu p 0 1)⟩] : List HostCase), x.met :=
  all_met _ (by decide +kernel)

theorem test_met_SessionCommands : ∀ x ∈ ([
    ⟨sessionChallengeCmd, 0, [], work, false,
      fun _ _ => true⟩,
    ⟨sessionCloseCmd, 1, [], work, false,
      fun _ _ => true⟩] : List HostCase), x.met :=
  all_met _ (by decide +kernel)

theorem test_met_RangeCommands : ∀ x ∈ ([
    ⟨getRangeCmd, 0, [], work, false,
      fun _ _ => true⟩,
    ⟨setRangeCmd, 0, [1, 1, 1, 1], (workIn .commission), false,
      fun _ _ => true⟩,
    ⟨rangeStartCmd, 0, [], work, false,
      fun (p : Packet) (H : Head) => decide ((H.range p.target).state = .running)⟩,
    ⟨rangeStartCmd, 0, [], halting, false,
      fun (p : Packet) (H : Head) => decide ((H.range p.target).state ≠ .running)⟩,
    ⟨rangeStopCmd, 0, [], halting, false,
      fun (p : Packet) (H : Head) => decide ((H.range p.target).state = .stopped)⟩,
    ⟨rangeStopCmd, 0, [], work, true,
      fun (p : Packet) (H : Head) => decide ((H.range p.target).state ≠ .stopped)⟩,
    ⟨getAxisCmd, 0, zero 4, work, false,
      fun (p : Packet) (H : Head) => (match targetAxis? p H with | some _ => true | _ => false)⟩,
    ⟨defineAxisCmd, 32, [0, 0, 0, 0, 3, 0, 0, 132, 255] ++ zero 11, (workIn .commission), false,
      fun _ _ => true⟩,
    ⟨deleteAxisCmd, 2, zero 4, (workIn .commission), false,
      fun (p : Packet) (H : Head) => (match targetAxis? p H with | some _ => true | _ => false)⟩,
    ⟨axisEnableCmd, 0, zero 4, work, false,
      fun (p : Packet) (H : Head) => (match targetAxis? p H with | some _ => true | _ => false)⟩,
    ⟨axisDisableCmd, 0, zero 4, (moverWith fun a => { a with motion := { a.motion with move := .moving, plan := some ⟨0, 0, 0, 0, [], 0⟩, inPosRun := 40, restRun := 40 } }), true,
      fun (p : Packet) (H : Head) => (match targetAxis? p H with | some a => decide ((a.profiled && a.state = .enabled && !a.atRest) = true) | _ => false)⟩,
    ⟨axisDisableCmd, 0, zero 4, work, false,
      fun (p : Packet) (H : Head) => (match targetAxis? p H with | some a => decide ((a.profiled && a.state = .enabled && !a.atRest) = false) | _ => false)⟩] : List HostCase), x.met :=
  all_met _ (by decide +kernel)

theorem test_met_MoverCommands : ∀ x ∈ ([
    ⟨getMoverCmd, 0, [], work, false,
      fun (p : Packet) (H : Head) => (match H.mover? p.target with | some _ => true | _ => false)⟩,
    ⟨defineMoverCmd, 0, [0, 0, 0, 3, 128, 26, 6, 0, 232, 3, 0, 0, 232, 3, 0, 0, 160, 15] ++ zero 6, bindable, false,
      fun _ _ => true⟩,
    ⟨bindSegmentCmd, 1, zero 8, bindable, false,
      fun _ _ => true⟩,
    ⟨unbindSegmentCmd, 1, zero 8, retracked, false,
      fun _ _ => true⟩,
    ⟨setMoverTrackCmd, 0, zero 8, bindable, false,
      fun (p : Packet) (H : Head) => (match (H.setMover p.target fun m => { m with track := pu p 0 1, coord := ps p 4 4, calX := none }).mover? p.target with | some _ => true | _ => false)⟩,
    ⟨setGapCmd, 0, [1, 0, 0, 0], (workIn .commission), false,
      fun _ _ => true⟩] : List HostCase), x.met :=
  all_met _ (by decide +kernel)

theorem test_met_NetworkCommands : ∀ x ∈ ([
    ⟨getScheduleCmd, 65535, zero 4, work, false,
      fun _ _ => true⟩,
    ⟨getBranchCmd, 0, [], work, false,
      fun _ _ => true⟩,
    ⟨getNodeCmd, 0, [], work, false,
      fun (p : Packet) (H : Head) => (match H.listedPosition? p.target with | some _ => true | _ => false)⟩,
    ⟨restoreBranchCmd, 0, zero 4, restorable, false,
      fun _ _ => true⟩,
    ⟨setJoinCmd, 65535, zero 4, work, false,
      fun _ _ => true⟩,
    ⟨releaseSlotCmd, 0, [], idleAxes, false,
      fun _ _ => true⟩,
    ⟨getLaneCmd, 32, [], work, false,
      fun (p : Packet) (_ : Head) => decide (p.target ≥ 32)⟩,
    ⟨getLaneCmd, 0, [], work, false,
      fun (p : Packet) (_ : Head) => decide (p.target < 32)⟩,
    ⟨calibrateLaneCmd, 0, zero 4, (workIn .commission), true,
      fun _ _ => true⟩] : List HostCase), x.met :=
  all_met _ (by decide +kernel)

theorem test_met_TimeCommands : ∀ x ∈ ([
    ⟨getTimeCmd, 65535, [], work, false,
      fun _ _ => true⟩,
    ⟨setTimeSourceCmd, 65535, [1, 0, 0, 10, 232, 3, 0, 0, 16, 39, 0, 0], (workIn .commission), false,
      fun _ _ => true⟩,
    ⟨closeStepCmd, 65535, [], (workIn .commission), false,
      fun _ _ => true⟩,
    ⟨getPtpPortCmd, 0, zero 4, work, false,
      fun _ _ => true⟩,
    ⟨setPortLatencyCmd, 0, zero 8, (workIn .commission), false,
      fun _ _ => true⟩,
    ⟨setTriggerCmd, 0, zero 20, work, false,
      fun _ _ => true⟩,
    ⟨armContourCmd, 65535, [0, 0, 0, 8, 232, 3, 0, 0, 100] ++ zero 19, work, false,
      fun (p : Packet) (H : Head) => (match H.freeHostEntry with | some _ => (match H.mover? (pu p 0 1) with | some _ => true | _ => false) | _ => false)⟩,
    ⟨disarmContourCmd, 1024, [], armed1024, false,
      fun (p : Packet) (H : Head) => (match (H.cal.entries.find? fun e => e.entry = p.target) with | some _ => true | _ => false)⟩,
    ⟨getContourCmd, 0, [], armed1024, false,
      fun (p : Packet) (H : Head) => (match (H.cal.entries.find? fun e => e.entry = p.target) with | some _ => true | _ => false)⟩,
    ⟨getContourCmd, 0, [], work, false,
      fun (p : Packet) (H : Head) => decide ((H.cal.entries.find? fun e => e.entry = p.target) = none)⟩] : List HostCase), x.met :=
  all_met _ (by decide +kernel)

theorem test_met_LoopCommands : ∀ x ∈ ([
    ⟨getLoopCmd, 0, zero 4, work, false,
      fun (p : Packet) (H : Head) => (match targetAxis? p H with | some _ => true | _ => false)⟩,
    ⟨setCoeffCmd, 0, [0, 0, 0, 0, 1] ++ zero 7, work, true,
      fun (p : Packet) (H : Head) => (match targetAxis? p H with | some _ => true | _ => false)⟩,
    ⟨getCoeffCmd, 0, zero 4, work, false,
      fun (p : Packet) (H : Head) => (match targetAxis? p H with | some _ => true | _ => false)⟩,
    ⟨clearLoopFlagsCmd, 0, zero 8, work, false,
      fun (p : Packet) (H : Head) => (match targetAxis? p H with | some _ => true | _ => false)⟩,
    ⟨moveToCmd, 0, zero 8, work, true,
      fun (p : Packet) (H : Head) => (match motionAxis? p H with | some _ => true | _ => false)⟩,
    ⟨moveLandingCmd, 0, zero 4, landingHead, true,
      fun (p : Packet) (H : Head) => (match motionAxis? p H with | some a => (match H.moverOfAxis? a.id with | some m => (match (H.track m.track).landings[pu p 0 1]? with | some _ => true | _ => false) | _ => false) | _ => false)⟩,
    ⟨stopMoverCmd, 0, zero 4, work, false,
      fun (p : Packet) (H : Head) => (match motionAxis? p H with | some a => decide (a.atRest = true) | _ => false)⟩,
    ⟨stopMoverCmd, 0, zero 4, (moverWith fun a => { a with motion := { a.motion with move := .moving, plan := some ⟨0, 0, 0, 0, [], 0⟩, inPosRun := 40, restRun := 40 } }), true,
      fun (p : Packet) (H : Head) => (match motionAxis? p H with | some a => decide (a.atRest = false) | _ => false)⟩,
    ⟨setLimitsCmd, 0, [0, 0, 0, 0, 232, 3, 0, 0, 232, 3, 0, 0, 232, 3, 0, 0], work, false,
      fun (p : Packet) (H : Head) => (match motionAxis? p H with | some _ => true | _ => false)⟩,
    ⟨setBlendCmd, 0, zero 8, (workIn .commission), false,
      fun _ _ => true⟩,
    ⟨getOverrunCmd, 0, [], work, false,
      fun _ _ => true⟩] : List HostCase), x.met :=
  all_met _ (by decide +kernel)

theorem test_met_FeedbackCommands : ∀ x ∈ ([
    ⟨getChannelCmd, 0, [], work, false,
      fun _ _ => true⟩,
    ⟨setChannelCmd, 0, [0, 0, 255, 255, 2, 0, 4, 0, 0, 0, 0, 0, 0, 0, 1, 0, 255, 0, 10, 0, 0, 0, 8, 4, 0, 4, 0, 0, 1] ++ zero 11, (workIn .commission), false,
      fun _ _ => true⟩,
    ⟨clearChannelFlagsCmd, 0, zero 4, work, false,
      fun _ _ => true⟩,
    ⟨setSensorCmd, 1, zero 24, idleAxes, false,
      fun _ _ => true⟩,
    ⟨setObserverCmd, 0, [100, 0, 100, 0, 160, 15, 0, 0, 144, 1, 0, 0, 16] ++ zero 7, work, false,
      fun _ _ => true⟩,
    ⟨getObserverCmd, 8192, [], work, false,
      fun (p : Packet) (H : Head) => (match H.observer? p.target with | some _ => (match subject? p.target H with | some (.channel _) => true | _ => false) | _ => false)⟩,
    ⟨getObserverCmd, 4100, [], work, false,
      fun (p : Packet) (H : Head) => (match H.observer? p.target with | some _ => (match subject? p.target H with | some (.rotary _) => true | _ => false) | _ => false)⟩,
    ⟨getObserverCmd, 0, [], work, false,
      fun (p : Packet) (H : Head) => (match H.observer? p.target with | some _ => (match subject? p.target H with | some (.mover m) => (match H.mover? m with | some _ => true | _ => false) | _ => false) | _ => false)⟩] : List HostCase), x.met :=
  all_met _ (by decide +kernel)

theorem test_met_PlacerCommands : ∀ x ∈ ([
    ⟨getPlacementCmd, 0, zero 4, work, false,
      fun (p : Packet) (H : Head) => (match targetAxis? p H with | some _ => true | _ => false)⟩,
    ⟨getTileLoadCmd, 65535, [], work, false,
      fun _ _ => true⟩,
    ⟨setAffinityCmd, 1, zero 8, work, false,
      fun _ _ => true⟩,
    ⟨setDispatchCmd, 0, [1, 0, 0, 0], (workIn .commission), false,
      fun _ _ => true⟩,
    ⟨setPlacerCmd, 65535, [50, 95, 80, 0, 50, 0, 0, 4, 232, 3, 128, 12], (workIn .commission), false,
      fun _ _ => true⟩,
    ⟨getModuleCmd, 1, [], moduleHead, false,
      fun (p : Packet) (H : Head) => (match H.module? p.target with | some _ => true | _ => false)⟩,
    ⟨loadModuleCmd, 1, [0, 0, 0, 0, 64, 0, 0, 0, 1], (workIn .commission), false,
      fun (p : Packet) (H : Head) => (match addChunks (loadOf p H) (chunks p) with | some (total, file) => decide (file.length ≠ total) | _ => false)⟩,
    ⟨loadModuleCmd, 1, [0, 0, 0, 0, 64] ++ zero 67, (workIn .commission), true,
      fun (p : Packet) (H : Head) => (match addChunks (loadOf p H) (chunks p) with | some (total, file) => decide (file.length = total) | _ => false)⟩,
    ⟨deleteModuleCmd, 1, [], moduleHead, false,
      fun _ _ => true⟩,
    ⟨attachOperationCmd, 1, [0, 0, 0, 0, 1, 0, 0, 0], moduleHead, false,
      fun (p : Packet) (H : Head) => (match attachEntry? p H with | some (_, _) => true | _ => false)⟩,
    ⟨detachOperationCmd, 1, [0, 0, 0, 0, 1, 0, 0, 0], hooked, false,
      fun _ _ => true⟩] : List HostCase), x.met :=
  all_met _ (by decide +kernel)

theorem test_met_StepperCommands : ∀ x ∈ ([
    ⟨getStepperCmd, 2, zero 4, work, false,
      fun (p : Packet) (H : Head) => (match stepAxis? p H with | some _ => true | _ => false)⟩,
    ⟨setStepperCmd, 2, [0, 0, 0, 0, 3, 0, 100, 20, 196, 9, 0, 0, 1, 0, 1, 0, 0, 0, 100, 0, 255, 4, 1, 0, 102, 102, 38, 0, 51, 51, 115, 0, 154, 153, 25, 0, 200, 0, 32, 0, 192, 0, 224, 0, 0, 0, 0, 0, 255, 255, 255, 0, 8, 0, 100, 0], ((workIn .commission).setAxis 2 fun a => { a with location := 0, state := .disabled }), false,
      fun (p : Packet) (H : Head) => (match stepAxis? p H with | some _ => true | _ => false)⟩,
    ⟨setStepperLimitsCmd, 2, [0, 0, 0, 0, 1, 0, 0, 0, 0, 0, 0, 0, 232, 3, 0, 0], work, false,
      fun (p : Packet) (H : Head) => (match stepAxis? p H with | some _ => true | _ => false)⟩,
    ⟨moveStepperCmd, 2, zero 12, work, true,
      fun (p : Packet) (H : Head) => (match stepAxis? p H with | some _ => true | _ => false)⟩,
    ⟨moveGroupCmd, 65535, [2, 0, 0, 0, 2, 0, 0, 0, 100, 0, 0, 0, 3, 0, 0, 0, 100, 0, 0, 0], work, true,
      fun _ _ => true⟩,
    ⟨stopStepperCmd, 2, zero 8, work, false,
      fun (p : Packet) (H : Head) => (match stepAxis? p H with | some a => decide (a.step.atRest = true) | _ => false)⟩,
    ⟨stopStepperCmd, 2, zero 8, (stepWith fun s => { s with homing := some ⟨0, false, 1, 0, 100000, .back, 0, 0, 0, some 1000⟩, state := .homing }), true,
      fun (p : Packet) (H : Head) => (match stepAxis? p H with | some a => decide (a.step.atRest = false) | _ => false)⟩,
    ⟨homeStepperCmd, 2, [0, 0, 0, 0, 0, 0, 0, 0, 100, 0, 0, 0, 0, 0, 0, 0, 232, 3, 0, 0], driving, true,
      fun (p : Packet) (H : Head) => (match stepAxis? p H with | some _ => true | _ => false)⟩,
    ⟨setMoveDescCmd, 2, zero 12, work, false,
      fun (p : Packet) (H : Head) => (match stepAxis? p H with | some _ => true | _ => false)⟩,
    ⟨clearStepperFlagsCmd, 2, zero 8, work, false,
      fun (p : Packet) (H : Head) => (match stepAxis? p H with | some _ => true | _ => false)⟩] : List HostCase), x.met :=
  all_met _ (by decide +kernel)

theorem test_met_AcquisitionCommands : ∀ x ∈ ([
    ⟨getStreamCmd, 0, [], work, false,
      fun (p : Packet) (H : Head) => decide ((H.stream p.target).cfg = none)⟩,
    ⟨getStreamCmd, 0, [], segmented, false,
      fun (p : Packet) (H : Head) => (match (H.stream p.target).cfg with | some _ => true | _ => false)⟩,
    ⟨setProbeCmd, 0, zero 8, work, false,
      fun _ _ => true⟩,
    ⟨setStreamCmd, 0, [1, 0, 0, 0, 1, 0, 0, 0, 0, 0, 0, 0, 16, 9, 0, 0, 0, 0, 1, 0, 0, 0, 0, 0, 0, 0, 3, 0, 0, 0, 0, 0, 0, 16] ++ zero 6, work, false,
      fun _ _ => true⟩,
    ⟨streamStartCmd, 0, [], segmented, false,
      fun _ _ => true⟩,
    ⟨streamStopCmd, 0, [], (streaming id), false,
      fun (p : Packet) (H : Head) => decide ((H.stream p.target).state = 1)⟩,
    ⟨streamStopCmd, 0, [], segmented, false,
      fun (p : Packet) (H : Head) => decide ((H.stream p.target).state ≠ 1)⟩,
    ⟨setTrigUnitCmd, 0, [0, 0, 0, 0, 0, 0, 0, 0, 0, 0, 0, 0, 1, 0, 0, 0, 1, 0, 1] ++ zero 9, work, false,
      fun _ _ => true⟩,
    ⟨armUnitCmd, 0, [1, 0, 0, 0], segmented, false,
      fun (p : Packet) (_ : Head) => decide (pu p 0 1 = 1)⟩,
    ⟨armUnitCmd, 0, zero 4, work, false,
      fun (p : Packet) (_ : Head) => decide (pu p 0 1 = 0)⟩,
    ⟨forceTriggerCmd, 0, [], segmented, false,
      fun _ _ => true⟩,
    ⟨getTrigUnitCmd, 0, [], work, false,
      fun _ _ => true⟩,
    ⟨startCaptureCmd, 0, [1, 0, 0, 0], segmented, true,
      fun _ _ => true⟩,
    ⟨abortCaptureCmd, 65535, [], (measuring 1 true), false,
      fun _ _ => true⟩,
    ⟨readSegmentCmd, 0, zero 8, segmented, false,
      fun _ _ => true⟩,
    ⟨getAdcCmd, 0, [], work, false,
      fun _ _ => true⟩,
    ⟨setAdcCmd, 0, [0, 16, 0, 1, 0, 7, 0, 0], work, false,
      fun _ _ => true⟩,
    ⟨setAdcTriggerCmd, 0, zero 4, work, false,
      fun _ _ => true⟩,
    ⟨setInputCmd, 0, [1, 1, 1, 1], work, false,
      fun _ _ => true⟩,
    ⟨readChannelCmd, 0, [], ({ work with acq := { work.acq with latest := [⟨0, 0, 0, 0, 0, 0, false, 9⟩] } }), false,
      fun (p : Packet) (H : Head) => (match (H.acq.latest.find? fun l => l.code = p.target) with | some _ => true | _ => false)⟩,
    ⟨readChannelCmd, 0, [], work, false,
      fun (p : Packet) (H : Head) => decide ((H.acq.latest.find? fun l => l.code = p.target) = none)⟩,
    ⟨calibrateAdcCmd, 0, zero 4, work, true,
      fun (p : Packet) (_ : Head) => decide (pu p 0 1 = 0)⟩,
    ⟨calibrateAdcCmd, 0, [1, 0, 0, 0], pairedAdc, true,
      fun (p : Packet) (_ : Head) => decide (pu p 0 1 = 1)⟩] : List HostCase), x.met :=
  all_met _ (by decide +kernel)

theorem test_met_RedundancyCommands : ∀ x ∈ ([
    ⟨getRedundancyCmd, 65535, [], work, false,
      fun _ _ => true⟩,
    ⟨setReturnCmd, 65535, zero 4, work, false,
      fun _ _ => true⟩,
    ⟨switchoverCmd, 65535, [1, 0, 0, 0], ready, true,
      fun (_ : Packet) (H : Head) => decide (H.commands = true)⟩,
    ⟨resyncPeerCmd, 65535, [], ready, true,
      fun (_ : Packet) (H : Head) => decide (H.commands = true)⟩] : List HostCase), x.met :=
  all_met _ (by decide +kernel)

theorem test_met_FaultCommands : ∀ x ∈ ([
    ⟨getFaultSummaryCmd, 65535, [], work, false,
      fun _ _ => true⟩,
    ⟨getFaultsCmd, 0, [], work, false,
      fun _ _ => true⟩,
    ⟨listFaultsCmd, 65535, zero 4, work, false,
      fun _ _ => true⟩,
    ⟨clearFaultCmd, 0, zero 4, work, false,
      fun _ _ => true⟩,
    ⟨clearFirstFaultCmd, 65535, [], work, false,
      fun _ _ => true⟩,
    ⟨setAliveCmd, 65535, [232, 3, 10, 0], (workIn .commission), false,
      fun _ _ => true⟩,
    ⟨setBelayConfigCmd, 65535, [0, 0, 0, 0, 20, 0, 2, 0], (workIn .commission), false,
      fun _ _ => true⟩,
    ⟨setOutputGroupCmd, 0, zero 4, (workIn .commission), false,
      fun _ _ => true⟩] : List HostCase), x.met :=
  all_met _ (by decide +kernel)

theorem test_met_SecurityCommands : ∀ x ∈ ([
    ⟨getSecurityCmd, 65535, [], work, false,
      fun _ _ => true⟩,
    ⟨setLifecycleCmd, 65535, [2] ++ zero 11, (workIn .commission), false,
      fun (p : Packet) (_ : Head) => decide (pu p 0 1 = 2)⟩,
    ⟨setLifecycleCmd, 65535, [3] ++ zero 11, (workIn .commission), false,
      fun (p : Packet) (_ : Head) => decide (pu p 0 1 = 3)⟩,
    ⟨revokeKeyCmd, 65535, zero 4, (workIn .commission), false,
      fun _ _ => true⟩,
    ⟨advanceRollbackCmd, 65535, [1, 0, 0, 0], (workIn .commission), false,
      fun _ _ => true⟩,
    ⟨writeImageCmd, 65535, [0, 0, 0, 0, 232, 3, 0, 0, 0, 0, 0, 0, 1], (workIn .commission), false,
      fun (p : Packet) (H : Head) => (match fileAfter p H with | some (total, file) => decide (file.length ≠ total) | _ => false)⟩,
    ⟨debugChallengeCmd, 65535, [], work, false,
      fun _ _ => true⟩,
    ⟨debugOpenCmd, 65535, [1, 0, 0, 0], work, false,
      fun (p : Packet) (H : Head) => decide (needsToken p H = false)⟩,
    ⟨debugCloseCmd, 65535, [], (secured fun s => { s with sessions := [⟨1, [], 0, 0, none, 0⟩], sessionIdle := 1, debugSession := some ⟨1, some 1000, false⟩ }), false,
      fun _ _ => true⟩] : List HostCase), x.met :=
  all_met _ (by decide +kernel)

theorem test_met_PowerCommands : ∀ x ∈ ([
    ⟨getPowerCmd, 65535, [], work, false,
      fun _ _ => true⟩,
    ⟨setPowerConfigCmd, 65535, [32, 3, 115, 120] ++ zero 4, (workIn .commission), false,
      fun _ _ => true⟩,
    ⟨getRtcCmd, 65535, [], work, false,
      fun _ _ => true⟩,
    ⟨setRtcCmd, 65535, [232, 7, 2, 29, 12, 0, 0, 0, 1, 0, 0, 0], work, false,
      fun (p : Packet) (_ : Head) => decide (bit (pu p 8 1) 0 = true)⟩,
    ⟨setRtcCmd, 65535, [232, 7, 2, 29, 12] ++ zero 7, work, false,
      fun (p : Packet) (_ : Head) => decide (bit (pu p 8 1) 0 = false)⟩,
    ⟨setRtcAlarmCmd, 65535, zero 12, work, false,
      fun _ _ => true⟩,
    ⟨setRtcConfigCmd, 65535, zero 4, work, false,
      fun _ _ => true⟩,
    ⟨readBackupCmd, 65535, [], work, false,
      fun _ _ => true⟩,
    ⟨writeBackupCmd, 65535, zero 8, work, false,
      fun _ _ => true⟩] : List HostCase), x.met :=
  all_met _ (by decide +kernel)

theorem test_met_PinCommands : ∀ x ∈ ([
    ⟨getPinCmd, 0, [], work, false,
      fun (p : Packet) (_ : Head) => decide (p.target < 40)⟩,
    ⟨getPinCmd, 256, [], work, false,
      fun (p : Packet) (_ : Head) => decide (p.target = 0x100)⟩,
    ⟨setPinCmd, 0, [0, 0, 10, 0], work, false,
      fun _ _ => true⟩,
    ⟨commitPinsCmd, 65535, [2, 0, 0, 0], work, false,
      fun _ _ => true⟩,
    ⟨setGpioCmd, 65535, zero 16, work, false,
      fun _ _ => true⟩,
    ⟨getFieldIoCmd, 65535, [], work, false,
      fun _ _ => true⟩,
    ⟨setFieldInputCmd, 0, zero 4, (workIn .commission), false,
      fun _ _ => true⟩,
    ⟨setFieldOutputCmd, 0, zero 4, work, false,
      fun (p : Packet) (H : Head) => (match H.localOutput p.target (pu p 0 1 = 1) with | .ok _ => true | _ => false)⟩,
    ⟨setFoutConfigCmd, 0, zero 4, (workIn .commission), false,
      fun _ _ => true⟩] : List HostCase), x.met :=
  all_met _ (by decide +kernel)

/-! Four commands ask a check of the spec's cryptography or a free value first; their hypotheses are met when it passes. -/

/-- The stages of R83 that an item with a good MAC meets, one by one. -/
theorem judged {c : Command} {p : Packet} {h : Head} (a : c.defined = true) (l : ((chunks p).all c.len && c.lenIn p h) = true)
    (k : (classOk c p h && c.permitted p h) = true) (n : (c.active && c.shared p h && !h.commands) = false)
    (s : c.stateOk p h = true) (i : itemOk c p h = true) (q : c.paramOk p h = true) (r : firstRefusal (c.refusals p h) = none) :
    judge c .again p h = none := by
  have n' : (decide (Via.again ≠ .internal) && c.active && c.shared p h && !h.commands) = false := by simpa using n
  have t : firstRefusal (stages c .again p h) = none := by
    simp only [stages, a, l, k, s, i, q, n', Bool.not_true, Bool.and_false, Bool.or_false]; rfl
  simp only [judge, t, r]; rfl

theorem serves_signed {c : Command} {t : Nat} {ps : List Byte} {h : Head} (s : h.session? 1 = some session1)
    (f : ({ h with sent := [] } : Head).fromBoot = true) (i : (h.queue 0).lateItems = 0) (g : (h.queue 0).group = none)
    (l : ps.length ≤ 4080) (j : judge c .again (signed c.opcode t ps) { h with sent := [] } = none) :
    State.serves { head := h, pending := [] } c (signed c.opcode t ps) :=
  ⟨show 0 < 8 by decide, f, i, g, (judge_again (signed_headers _ _ _ l) (signed_macs _ _ _ (h := { h with sent := [] }) s)).trans j⟩

def openItem : Packet := signed sessionOpenCmd.opcode 2 (zero 200)
/-- A nonce is out, and key 0 is the host's. -/
def opening : Head :=
  { work with sent := [], sec := { (opened work).sec with
      nonce := some (zero 48, work.now), hostKeys := [{ publicKey := zero 97, classes := 3 }] } }
theorem sessionOpen_param (p : Packet) (h : Head) : sessionOpenCmd.paramOk p h =
    (decide (pu p 0 1 < h.sec.hostKeys.length) && decide (pu p 0 1 < 4) && pz p 1 3 && pz p 101 3 && decide (1 ≤ p.target)
      && decide (p.target ≤ 15) && Config.isCurvePoint (openEphemeral p)) := rfl

theorem test_met_sessionOpen (v : openSigned openItem opening = true)
    (c : Config.isCurvePoint (openEphemeral openItem) = true) :
    State.serves { head := opening, pending := [] } sessionOpenCmd openItem ∧
      opening.nonce? = some (zero 48) := by
  refine ⟨serves_signed (by rfl) (by decide +kernel) (by decide +kernel) (by decide +kernel) (by decide +kernel) (judged
    (by decide +kernel) (by decide +kernel) (by decide +kernel) (by decide +kernel) (by decide +kernel) (by decide +kernel) ?_ ?_),
    by decide +kernel⟩
  · have c : Config.isCurvePoint (openEphemeral (signed sessionOpenCmd.opcode 2 (zero 200))) = true := c
    rw [sessionOpen_param, c, Bool.and_true]; decide +kernel
  · have x : opening.nonce?.isNone = false := by decide +kernel
    have y : (opening.session? 2).isSome = false := by decide +kernel
    show firstRefusal [(opening.nonce?.isNone, _), (!openSigned openItem opening, _), ((opening.session? 2).isSome, _)] = none
    rw [x, v, y]; rfl

def provisionParams : List Byte := List.replicate 240 1
def blank : Head := { workIn .boot with sent := [], sec := { (opened work).sec with lifecycle := 0, lifecycleNow := 0 } }
theorem test_met_provision (v : Config.freeNat 0 % 2 = 0) :
    State.serves { head := blank, pending := [] } provisionCmd (signed 0x0F01 0xFFFF provisionParams) := by
  refine serves_signed (by rfl) (by decide +kernel) (by decide +kernel) (by decide +kernel) (by decide +kernel) (judged
    (by decide +kernel) (by decide +kernel) (by decide +kernel) (by decide +kernel) (by decide +kernel) (by decide +kernel)
    (by decide +kernel) ?_)
  have x : blank.fuseFails = false := by
    show decide (Config.freeNat 0 % 2 = 1) = false
    rw [v]; rfl
  show firstRefusal [(blank.fuseFails, _)] = none
  rw [x]; rfl

/-- A configuration image of no bytes, and the one chunk that carries it to set 1. -/
def emptyImage : List Byte :=
  pack [(4, 0x47435956), (2, 1), (1, 2), (1, 0), (4, 0), (4, 0), (4, 0)] ++ zero 12 ++ [4] ++ zero 319
def imageParams : List Byte := pack [(4, 0), (4, 352), (1, 1), (3, 0)] ++ emptyImage
def writing : Head := { opened (workIn .commission) with sent := [] }
theorem test_met_writeImage (v : writing.imageSigned emptyImage = true) :
    let s : State := { head := writing, pending := [] }
    s.serves writeImageCmd (signed 0x0F05 0xFFFF imageParams) ∧ s.room (signed 0x0F05 0xFFFF imageParams) ∧
      fileAfter (signed 0x0F05 0xFFFF imageParams) (s.taken (signed 0x0F05 0xFFFF imageParams)) = some (352, emptyImage) := by
  have w : wholeFile (signed 0x0F05 0xFFFF imageParams) writing = some emptyImage := by decide +kernel
  refine ⟨serves_signed (by rfl) (by decide +kernel) (by decide +kernel) (by decide +kernel) (by decide +kernel) (judged
    (by decide +kernel) (by decide +kernel) (by decide +kernel) (by decide +kernel) (by decide +kernel) (by decide +kernel)
    (by decide +kernel) ?_), ?_, by decide +kernel⟩
  · have x : otherTransfer (signed 0x0F05 0xFFFF imageParams) writing = false := by decide +kernel
    have y : writing.imageAdmissible emptyImage = true := by decide +kernel
    show firstRefusal [(!otherTransfer (signed 0x0F05 0xFFFF imageParams) writing &&
        (wholeFile (signed 0x0F05 0xFFFF imageParams) writing).any fun f => !writing.imageSigned f, _),
      (!otherTransfer (signed 0x0F05 0xFFFF imageParams) writing &&
        (wholeFile (signed 0x0F05 0xFFFF imageParams) writing).any fun f => !writing.imageAdmissible f, _),
      (otherTransfer (signed 0x0F05 0xFFFF imageParams) writing, _)] = none
    rw [x, w]; simp only [Option.any_some, v, y]; rfl
  · show ((acceptPacket _ writing).queue 0).pendingAsync < 64
    decide +kernel

def tokenItem : Packet := signed debugOpenCmd.opcode 0xFFFF (pack [(4, 2)] ++ zero 168)
def fielded : Head := { opened (workIn .commission) with
  sent := [], sec := { (opened work).sec with lifecycle := 2, lifecycleNow := 2 } }
theorem test_met_debugOpen (v : fielded.tokenValid (debugToken tokenItem) = true) :
    let s : State := { head := fielded, pending := [] }
    s.serves debugOpenCmd tokenItem ∧
      needsToken tokenItem (s.taken tokenItem) = true := by
  refine ⟨serves_signed (by rfl) (by decide +kernel) (by decide +kernel) (by decide +kernel) (by decide +kernel) (judged
    (by decide +kernel) (by decide +kernel) (by decide +kernel) (by decide +kernel) (by decide +kernel) (by decide +kernel)
    (by decide +kernel) ?_), by decide +kernel⟩
  have y : fielded.sec.debugSession.isSome = false := by decide +kernel
  show firstRefusal [(needsToken tokenItem fielded && !fielded.tokenValid (debugToken tokenItem), _), (fielded.sec.debugSession.isSome, _)] = none
  rw [v, y, Bool.not_true, Bool.and_false]; rfl

/-! ### The families of events: every clause met -/

theorem test_met_DoorbellRows : List.all (
    [(let h : Head := work
      let q : Nat := 0
      let index : Nat := 200
      let _slots : List (List Byte) := []
      decide (q < 8) && decide (index < 4096) && decide (h.fromBoot = true) && decide ((h.queue q).sqDepth ≤ index)),
     (let h : Head := work
      let q : Nat := 0
      let index : Nat := 0
      let _slots : List (List Byte) := []
      decide (q < 8) && decide (index < 4096) && decide (h.fromBoot = true) && decide (index < (h.queue q).sqDepth)),
     (let h : Head := work
      let q : Nat := 0
      let index : Nat := 0
      decide (q < 8) && decide (index < 4096) && decide (h.fromBoot = true)),
     (let h : Head := replying
      let q : Nat := 0
      let value : Nat := 1
      decide (q < 8) && decide (h.fromBoot = true) && decide (bit value 0 = true)
        && decide ((h.queue q).enabled = true)),
     (let h : Head := work
      let q : Nat := 0
      decide (q < 8) && decide (h.fromBoot = true) && decide ((h.queue q).enabled = false)),
     (let h : Head := replying
      let q : Nat := 0
      decide (q < 8) && decide (h.fromBoot = true) && decide ((h.queue q).enabled = true)),
     (let h : Head := work
      decide (h.fromBoot = true) && decide (h.evq.enabled = false)),
     (let h : Head := work
      decide (h.fromBoot = true)),
     (let h : Head := work
      let index : Nat := 0
      decide (index < 4096) && decide (h.fromBoot = true)),
     (let h : Head := work
      let q : Nat := 0
      decide (q < 8) && decide (h.fromBoot = true)),
     (let h : Head := work
      decide (h.fromBoot = true))] : List Bool) id = true := by
  decide +kernel

theorem test_met_PortRows : List.all (
    [(let h : Head := work
      decide (h.fromBoot = true)),
     (let h : Head := work
      decide (h.fromBoot = true)),
     (let h : Head := work
      decide (h.fromBoot = true)),
     (let h : Head := work
      decide (h.fromBoot = true)),
     (let h : Head := recovering
      let length : Nat := 4
      let _window : List Byte := []
      decide (h.sys.mode = .boot) && decide (h.sys.bootsel = 2) && decide (h.pcie.recReady = true)
        && decide (1 ≤ length) && decide (length ≤ 1048576)),
     (let h : Head := recovering
      decide (h.sys.mode = .boot) && decide (h.sys.bootsel = 2) && decide (h.pcie.recReady = true)),
     (let h : Head := work
      let offset : Nat := 0
      let _value : Nat := 0
      decide (offset < 0x400000) && decide (offset % 4 = 0) && decide (h.fromBoot = true)),
     (let h : Head := work
      let offset : Nat := 0
      let _value : Nat := 0
      decide (offset < 0x400000) && decide (offset % 8 = 0) && decide (h.fromBoot = true)),
     (let _h : Head := work
      let _d3hot : Bool := true
      let _pme : Bool := true
      true),
     (let _h : Head := work
      true),
     (let _h : Head := work
      true),
     (let _h : Head := work
      true),
     (let h : Head := onNet
      let port : Nat := 0
      let _srcAddr : Nat := 0
      let _srcPort : Nat := 0
      let _dstPort : Nat := 0
      let _payload : List Byte := []
      decide (port < 2) && decide (h.portUp port = true)),
     (let h : Head := onNet
      let port : Nat := 0
      let _frame : List Byte := []
      decide (port < 2) && decide (h.portUp port = true)),
     (let h : Head := onNet
      let port : Nat := 0
      let index : Nat := 0
      decide (port < 2) && decide (index < 4)
        && ((match (h.eth.getD port {}).reassembly[index]? with | some r => decide (r.since + 2000000 ≤ h.now) | _ => false))),
     (let h : Head := onNet
      let count : Nat := 1
      decide (1 ≤ count) && decide (count ≤ 32) && decide (h.evq.route ≠ 0) && decide (count ≤ h.evq.staged.length))] : List Bool) id = true := by
  decide +kernel

theorem test_met_ItemRows : List.all (
    [(let _h : Head := work
      true),
     (let h : Head := ended true
      let q : Nat := 0
      decide (q < 8)
        && ((match (h.queue q).takeFinal with | some (i, _) => (match i.final with | some (_, _) => decide (i.discard = true) | _ => false) | _ => false))),
     (let h : Head := overlong
      let q : Nat := 0
      decide (q < 8)
        && ((match (h.queue q).replies with | r :: _ => decide ((h.queue q).enabled = true) && decide ((h.queue q).ethernet = false) && decide ((h.queue q).cqDepth - 1 < slotsFor (h.replyBytes r).length) && decide ((replySlots (h.queue q).fgen (h.replyBytes { r with status := Status.noCapacity, params := [] })).length ≤ (h.queue q).cqFree) | _ => false))),
     (let h : Head := replying
      let q : Nat := 0
      decide (q < 8)
        && ((match (h.queue q).replies with | r :: _ => decide ((h.queue q).enabled = true) && decide ((h.queue q).ethernet = false) && decide (slotsFor (h.replyBytes r).length ≤ (h.queue q).cqDepth - 1) && decide ((replySlots (h.queue q).fgen (h.replyBytes r)).length ≤ (h.queue q).cqFree) | _ => false))),
     (let h : Head := ended false
      let q : Nat := 0
      decide (q < 8)
        && ((match (h.queue q).takeFinal with | some (i, _) => (match i.final with | some (_, _) => decide (i.discard = false) | _ => false) | _ => false))),
     (let h : Head := fenced
      (match h.fences with | f :: _ => decide (h.fenceOver f = true) | _ => false)),
     (let _h : Head := work
      let q : Nat := 0
      decide (q < 8)),
     (let h : Head := grouped false
      let q : Nat := 0
      decide (q < 8)
        && ((match (h.queue q).group with | some g => decide (0 < g.remaining) && decide (g.byTime = false) && decide (g.cycle ≤ h.time.cycle + 1) | _ => false))),
     (let h : Head := grouped true
      let q : Nat := 0
      decide (q < 8)
        && ((match (h.queue q).group with | some g => decide (0 < g.remaining) && decide (g.byTime = true) && decide (g.time < h.time.cycleStart + 2 * h.cycleNs) | _ => false)))] : List Bool) id = true := by
  decide +kernel

theorem test_met_StartRows : List.all (
    [(let h : Head := workIn .off
      let vin : Nat := 1000
      decide (h.sys.mode = .off) && decide (420 ≤ vin)),
     (let h : Head := starting { sequencing := true }
      decide (h.sys.mode = .reset) && decide (h.power.sequencing = true)),
     (let h : Head := starting { retryDue := true, railsGood := true }
      decide (h.sys.mode = .reset) && decide (h.power.retryDue = true) && decide (h.power.retries < 3)),
     (let h : Head := starting { sequencing := true }
      let bootsel : Nat := 0
      let _headSel : Bool := true
      let _testN : Bool := true
      decide (bootsel < 8) && decide (h.sys.mode = .reset) && decide (h.sys.porN = false)
        && decide ((h.power.railsGood || h.power.sequencing) = true)),
     (let h : Head := work
      decide (h.backup.loadDue = true) && decide (h.sys.porN = true) && decide (h.sys.mode ≠ .off)),
     (let h : Head := workIn .boot
      decide (h.booting = true)),
     (let h : Head := workIn .boot
      decide (h.booting = true)),
     (let h : Head := State.reset.head
      decide (h.booting = true) && decide (h.recoveryWaits = false) && decide (h.sys.bootStep ≠ .saddle)
        && decide (h.sys.bootStep ≠ .built)),
     (let h : Head := lateBoot
      let _peerHome : Bool := true
      decide (h.sys.mode = .boot) && decide (h.sys.bootStep = .saddle)
        && decide ((h.sys.bootFailed = false ∨ (h.sys.bootCode = 0x10 ∧ h.peer.saddleUp = true)))),
     (let h : Head := paired
      decide (h.sys.role = .solo) && decide (h.peer.peerStandby = true)),
     (let h : Head := commissioning false
      decide (h.sys.mode = .commission) && decide (h.sys.built = false)),
     (let h : Head := commissioning true
      decide (h.sys.mode = .commission) && decide (h.sys.autoService = true) && decide (h.commands = true)
        && decide (h.sys.transition = none) && decide (h.rescueReady = true) && decide (h.networkReady = true))] : List Bool) id = true := by
  decide +kernel

theorem test_met_ModeRows : List.all (
    [(let h : Head := changing .idle
      (match h.sys.transition with | some t => decide (h.transitionReady t = true) | _ => false)),
     (let h : Head := work
      decide (h.fromBoot = true)),
     (let _h : Head := work
      true),
     (let _h : Head := work
      true),
     (let h : Head := { work with sys := { work.sys with wakeInput := 32, nodeWake := true } }
      decide (h.wakeEdge = true)),
     (let h : Head := { work with sys := { work.sys with wakeInput := 32, nodeWake := true } }
      decide (h.sys.nodeWake = true)),
     (let _h : Head := work
      true),
     (let h : Head := triggered
      decide (bit h.sys.triggers 1 = true) && decide (h.mainsFailed = true) && decide (h.mayRescue = true)),
     (let h : Head := triggered
      let vin : Nat := 300
      decide (h.fromBoot = true)
        && (let k := { h with power := { h.power with vin } }; decide (bit k.sys.triggers 2 = true) && decide (vin < k.sys.vinThreshold) && decide (k.mayRescue = true))),
     (let h : Head := rescuing
      decide ((h.sys.transition.any fun t => t.target = .rescue) = true)
        && decide (h.scheduleNow = h.scheduleFor .rescue 0) && decide (h.net.switch = none)
        && decide ((h.axes.all fun a => a.place.tile ≥ 16 || h.keptTiles.contains a.place.tile) = true)),
     (let h : Head := landed
      decide (h.sys.mode = .rescue) && decide (h.sys.transition = none) && decide (h.sys.rescueDone = false)
        && decide (h.commands = true) && decide (h.allLanded = true)),
     (let h : Head := supplies
      let c : Nat := 0
      decide (c < 3) && decide ((h.power.pll c).lost = true) && decide ((h.power.pll c).failed < 3))] : List Bool) id = true := by
  decide +kernel

theorem test_met_CycleRows : List.all (
    [(let h : Head := work
      let node : Nat := 0
      decide (node < 1024) && decide (h.commands = true) && decide (h.net.running = true)
        && decide (h.supervised = false)
        && ((match h.position? node with | some p => decide (p.state = .held) && decide (p.down = none) | _ => false))),
     (let h : Head := work
      decide (h.fromCommission = true)),
     (let h : Head := workAs .standby
      decide (h.sys.role = .standby) && decide (h.net.running = true) && decide (h.net.kind ≠ .valley)),
     (let _h : Head := work
      let branch : Nat := 0
      let _start : Nat := 0
      let _bytes : List Byte := []
      let _truncated : Bool := true
      decide (branch < 32)),
     (let h : Head := workAs .active
      let bytes : List Byte := upForwarded
      decide (h.sys.role = .active) && decide (h.peer.saddleUp = true)
        && ((match h.openForwarded bytes with | (k, some (lane, inner)) => decide ((frameHeader inner).type = FrameType.upStatic) && decide ((frameHeader inner).addr / 32 = lane) && decide ((frameHeader inner).length = k.upLength (frameHeader inner).addr) && decide ((k.position? (frameHeader inner).addr).any (fun p => p.state = .held) = true) | _ => false))),
     (let h : Head := workAs .standby
      let arrival : Nat := 4294967296
      let bytes : List Byte := []
      decide (h.sys.role = .standby) && decide (h.peer.saddleUp = true)
        && ((match fwdParts bytes with | (lane, false, false, _) => decide (lane < 32) && decide (200 < arrival) | _ => false))),
     (let h : Head := workAs .standby
      let arrival : Nat := 0
      let bytes : List Byte := beaconForwarded
      decide (h.sys.role = .standby) && decide (h.peer.saddleUp = true)
        && ((match fwdParts bytes with | (lane, false, false, inner) => decide (lane < 32) && decide (arrival ≤ 200) && decide (lineError inner false = .none) && decide ((frameHeader inner).type = FrameType.beacon) && decide ((frameHeader inner).reserved = true) && decide ((h.net.branches.all fun b => b.fwdBeacon.isNone) = true) | _ => false))),
     (let h : Head := (workAs .standby).setBranch 1 fun b => { b with fwdBeacon := some [] }
      let arrival : Nat := 0
      let bytes : List Byte := beaconForwarded
      decide (h.sys.role = .standby) && decide (h.peer.saddleUp = true)
        && ((match fwdParts bytes with | (lane, false, false, inner) => decide (lane < 32) && decide (arrival ≤ 200) && decide (lineError inner false = .none) && decide ((frameHeader inner).type = FrameType.beacon) && decide ((frameHeader inner).reserved = true) && decide ((h.net.branches.all fun b => b.fwdBeacon.isNone) = false) | _ => false))),
     (let h : Head := nodeWith fun p => { p with down := some [] }
      let node : Nat := 0
      decide (node < 1024)
        && ((match h.position? node with | some p => decide (h.net.running = true) && decide (h.supervised = false) && decide (p.state = .held) && decide (((h.branch (node / 32)).chan h.ownChannel).cut = false) && decide (((h.branch (node / 32)).chan h.ownChannel).calState ≠ 3) && ((match p.down with | some _ => true | _ => false)) | _ => false))),
     (let h : Head := workAs .standby
      let node : Nat := 0
      decide (node < 1024)
        && ((match h.position? node with | some p => decide (h.net.running = true) && decide (h.supervised = false) && decide (p.state = .held) && decide (((h.branch (node / 32)).chan h.ownChannel).cut = false) && decide (((h.branch (node / 32)).chan h.ownChannel).calState ≠ 3) && decide (p.down = none) && decide (h.sys.role = .standby) | _ => false))),
     (let h : Head := workAs .standby
      let bytes : List Byte := downForwarded
      decide (h.sys.role = .standby) && decide (h.peer.saddleUp = true)
        && ((match fwdParts bytes with | (lane, false, false, inner) => decide (lane < 32) && decide (lineError inner false = .none) && decide (h.headerOk (frameHeader inner) = true) && decide ((frameHeader inner).type = FrameType.downStatic) && decide ((frameHeader inner).addr / 32 = lane) && decide ((frameHeader inner).length = 12 * h.nodeAxes (frameHeader inner).addr) | _ => false)))] : List Bool) id = true := by
  decide +kernel

theorem test_met_NodeRows : List.all (
    [(let h : Head := branchWith fun b => { b with polls := [3] }
      let branch : Nat := 0
      let mini : Nat := 1
      decide (branch < 32) && decide (h.maySend branch mini = true)
        && ((match leastOf (h.branch branch).polls with | some _ => true | _ => false))),
     (let h : Head := branchWith fun b => { b with dyn := [{ node := 0, op := 1, tag := 1, data := [], entry := none }] }
      let branch : Nat := 0
      let mini : Nat := 1
      decide (branch < 32) && decide (h.maySend branch mini = true)
        && decide (leastOf (h.branch branch).polls = none)
        && ((match (h.branch branch).dyn with | _ :: _ => true | _ => false))),
     (let _h : Head := work
      let branch : Nat := 0
      let channel : Nat := 0
      let _start : Nat := 0
      let _bytes : List Byte := []
      let _truncated : Bool := true
      decide (branch < 32) && decide (channel < 2)),
     (let h : Head := { work with cal := { work.cal with actions := [⟨0, 0, 0, 0, 0, 900⟩] } }
      let entry : Nat := 0
      decide (entry < 8192)
        && ((match (h.cal.actions.find? fun a => a.entry = entry && a.cycle < h.time.cycle) with | some _ => true | _ => false))),
     (let _h : Head := work
      let branch : Nat := 0
      let channel : Nat := 0
      let _start : Nat := 0
      let _bytes : List Byte := []
      let _truncated : Bool := true
      decide (branch < 32) && decide (channel < 2)),
     (let h : Head := { (branchWith fun b => { b with ext := [⟨1, 0, 0, 7, some 0, some 0, 1000, 0⟩] }) with sys := { work.sys with role := .standby } }
      let node : Nat := 0
      decide (node < 1024)
        && ((match ((h.branch (node / 32)).ext.find? fun e => e.kind = 1 && e.position = node % 32 && e.effective ≤ h.time.cycle) with | some _ => decide (h.commands = false) | _ => false))),
     (let h : Head := branchWith fun b => { b with ext := [⟨1, 0, 0, 7, some 0, some 0, 1000, 0⟩, ⟨3, 0, 0, 7, none, none, 2000, 8⟩] }
      let node : Nat := 0
      decide (node < 1024)
        && ((match ((h.branch (node / 32)).ext.find? fun e => e.kind = 1 && e.position = node % 32 && e.effective ≤ h.time.cycle) with | some e => let k := ((h.setBranch (node / 32) fun b => { b with ext := b.ext.filter fun x => x ≠ e }).setPosition node fun p => { p with state := .held, identity := e.identity, delayA := e.delayA, delayB := e.delayB, joinCycle := e.effective, silent := 0, lostCycle := none }); decide (k.commands = true) | _ => false))),
     (let h : Head := nodeWith fun p => { p with silent := 3 }
      let node : Nat := 0
      decide (node < 1024)
        && ((match h.position? node with | some p => decide (p.state = .held) && decide (3 ≤ p.silent) && decide (p.parked = none) && decide (h.commands = true) | _ => false))),
     (let h : Head := nodeWith fun p => { p with silent := 65 }
      let node : Nat := 0
      decide (node < 1024)
        && ((match h.position? node with | some p => decide (p.state = .held) && decide (65 ≤ p.silent) && decide (p.parked = none) && decide (h.commands = true) | _ => false))),
     (let h : Head := branchWith fun b => { b with ext := [⟨3, 0, 0, 7, none, none, 1000, 8⟩] }
      let node : Nat := 0
      decide (node < 1024)
        && ((match ((h.branch (node / 32)).ext.find? fun e => e.kind = 3 && e.position = node % 32 && !e.due && e.effective ≤ h.time.cycle) with | some _ => true | _ => false)))] : List Bool) id = true := by
  decide +kernel

theorem test_met_LaneRows : List.all (
    [(let h : Head := { work with net := { work.net with switch := some ⟨.rescue, 1001, false⟩ } }
      (match h.net.switch with | some w => decide (w.cycle ≤ h.time.cycle + 1) | _ => false)),
     (let h : Head := { work with net := { work.net with lanes := List.replicate 40 { link := 2 } } }
      decide (h.peer.saddleUp = false) && decide (((List.range 8).all fun i => (h.lane (32 + i)).link = 2) = true)),
     (let h : Head := lanes 1 true
      let lane : Nat := 0
      decide (lane < 32) && decide ((h.lane lane).link = 0 ∨ (h.lane lane).link = 1)
        && decide ((h.lane lane).inverted = true)),
     (let h : Head := branchWith fun b => { b with chanA := { b.chanA with calState := 1 }, chanB := { b.chanB with calState := 1 } }
      let branch : Nat := 0
      let channel : Nat := 0
      decide (branch < 32) && decide (channel < 2) && decide (((h.branch branch).chan channel).calState = 1)
        && decide (h.net.running = true) && decide (h.branchNumbers.contains branch = true)
        && decide (h.commands = true)),
     (let h : Head := (workAs .standby).setBranch 0 fun b => { b with chanA := { b.chanA with calState := 1 }, chanB := { b.chanB with calState := 1 } }
      let branch : Nat := 0
      let channel : Nat := 0
      decide (branch < 32) && decide (channel < 2) && decide (((h.branch branch).chan channel).calState = 1)
        && decide (h.net.running = true) && decide (h.branchNumbers.contains branch = true)
        && decide (h.commands = false) && decide (h.isOwn channel = true)),
     (let h : Head := work
      let branch : Nat := 0
      let channel : Nat := 0
      decide (branch < 32) && decide (channel < 2) && decide (((h.branch branch).chan channel).calState = 0)
        && decide (h.net.running = true) && decide (h.branchNumbers.contains branch = true)
        && decide (h.isOwn channel = true)),
     (let h : Head := branchWith fun b => { b with chanA := { b.chanA with calState := 3, calLeft := 1 } }
      let branch : Nat := 0
      let channel : Nat := 0
      decide (branch < 32) && decide (channel < 2) && decide (((h.branch branch).chan channel).calState = 3)
        && decide (((h.branch branch).chan channel).calLeft ≤ 1)),
     (let h : Head := { work with net := { work.net with lanes := List.replicate 40 { link := 2 } } }
      let lane : Nat := 0
      decide (lane < 32) && decide ((h.lane lane).link = 1 ∨ (h.lane lane).link = 2)),
     (let h : Head := { work with net := { work.net with lanes := List.replicate 40 { link := 2 } } }
      let lane : Nat := 32
      decide (32 ≤ lane) && decide (lane < 40) && decide ((h.lane lane).link = 1 ∨ (h.lane lane).link = 2)),
     (let h : Head := lanes 1 false
      let lane : Nat := 0
      decide (lane < 32) && decide ((h.lane lane).link = 0 ∨ (h.lane lane).link = 1)),
     (let h : Head := lanes 1 false
      let lane : Nat := 0
      decide (lane < 32) && decide ((h.lane lane).link = 0 ∨ (h.lane lane).link = 1)
        && decide ((h.lane lane).inverted = false)),
     (let h : Head := lanes 1 false
      let lane : Nat := 32
      let inverted : Bool := false
      decide (32 ≤ lane) && decide (lane < 40) && decide ((h.lane lane).link = 0 ∨ (h.lane lane).link = 1)
        && decide (h.peer.saddleUp = false) && decide ((inverted = true → (h.lane lane).inverted = true)))] : List Bool) id = true := by
  decide +kernel

theorem test_met_PlacementRows_1 : List.all (
    [(let h : Head := { work with compute := { work.compute with changed := true }, ranges := List.replicate 8 {} }
      decide (h.fromBoot = true)
        && decide ((((h.ranges.all fun r => r.state ≠ .running) && h.compute.changed) || (h.compute.afterBuild && h.inGap)) = true)),
     (let h : Head := { work with axes := work.axes.map fun a => { a with place := {} } }
      decide (h.fromBoot = true)
        && decide ((((h.ranges.all fun r => r.state ≠ .running) && h.compute.changed) || (h.compute.afterBuild && h.inGap)) = false)
        && decide ((h.axes.any fun a => a.place.state = .notPlaced) = true)),
     (let h : Head := { (loaded fun c => { c with shedLevel := 1, lowSince := some 0 }) with net := {} }
      let axis : Nat := 0
      let tile : Nat := 1
      let core : Nat := 255
      decide (axis < 4096) && decide (tile < 16)
        && ((match h.axis? axis with | some a => decide (a.place.state = .placed) && decide (a.place.tile ≠ tile) && decide (h.roomOn a tile = some core) && decide (h.mayMigrate a tile = true) | _ => false))),
     (let h : Head := work.setAxis 1 fun a => { a with place := { a.place with moving := some (1, 0, 1000), state := .prepare } }
      let axis : Nat := 1
      decide (axis < 4096)
        && ((match h.axis? axis with | some a => (match a.place.moving with | some (_, _, _) => let k := h.openGap; decide (k.inGap = true) && decide (k.commitOpen a = true) && decide (k.commitTaken a = true) | _ => false) | _ => false))),
     (let h : Head := moverWith fun a => { a with place := { a.place with moving := some (1, 0xFF, 1000), state := .prepare } }
      let axis : Nat := 0
      decide (axis < 4096)
        && ((match h.axis? axis with | some a => decide (a.place.state = .prepare) | _ => false))),
     (let h : Head := { work with terrain := [⟨0, false, false, 0, 0, List.replicate 2000 0⟩] }
      let tile : Nat := 0
      let table : Nat := 0
      let coordinate : Int := -256
      decide (tile < 16) && decide ((h.tile tile).state = .up)
        && decide (((h.terrain? table).any fun t => h.movers.any (h.windowWanted tile t coordinate)) = true)),
     (let _h : Head := work
      let tile : Nat := 0
      let slot : Nat := 0
      decide (tile < 16) && decide (slot < 16)),
     (let h : Head := tileWith fun t => { t with slots := [{ a := { state := .loading, ordered := true } }] }
      let tile : Nat := 0
      let slot : Nat := 0
      decide (tile < 16) && decide (slot < 16)
        && ((match ((h.tile tile).slots.getD slot {}).loading? with | some _ => decide (h.power.fspChange = []) | _ => false))),
     (let h : Head := work
      let tile : Nat := 0
      decide (tile < 16) && decide ((h.tile tile).state ≠ .lost) && decide (h.fromBoot = true)),
     (let h : Head := work
      decide (h.inGap = true)),
     (let h : Head := work
      let list : Nat := 0
      decide (list < 16 ∨ list = 32) && decide (h.listRuns list = true)),
     (let h : Head := work
      let list : Nat := 16
      decide (16 ≤ list) && decide (list < 32) && decide (h.listRuns list = true)),
     (let h : Head := { (loaded fun c => { c with shedLevel := 1, lowSince := some 0 }) with net := {} }
      decide (0 < h.compute.shedLevel)
        && decide ((h.compute.lowSince.any fun t => t + h.compute.restoreMs * 1000000 ≤ h.now) = true)),
     (let h : Head := loaded fun c => { c with overRun := 8 }
      decide (8 ≤ h.compute.overRun) && decide (h.compute.shedLevel < 2)),
     (let h : Head := loaded fun c => { c with overRun := 8, shedLevel := 2 }
      decide (8 ≤ h.compute.overRun) && decide (h.compute.shedLevel = 2)),
     (let h : Head := crowded
      let list : Nat := 0
      decide (list < 16) && decide (h.listRuns list = true)
        && ((match h.bestWaiting list with | some o => (match h.victim list (h.rank o.group) with | some (_, _) => decide (((List.range 4).any fun i => ((h.readyList list).cores.getD i {}).active.isNone && !h.coreHalted list i) = false) | _ => false) | _ => false)))] : List Bool) id = true := by
  decide +kernel

theorem test_met_PlacementRows_2 : List.all (
    [(let h : Head := crowded
      decide (h.listRuns 32 = true)
        && ((match h.bestWaiting 32 with | some o => (match h.victim 32 (h.rank o.group) with | some (_, _) => decide (((List.range 4).any fun i => ((h.readyList 32).cores.getD i {}).active.isNone && !h.coreHalted 32 i) = false) | _ => false) | _ => false)))] : List Bool) id = true := by
  decide +kernel

theorem test_met_GraphRows : List.all (
    [(let h : Head := { work with cal := { work.cal with evaluated := true } }
      let mover : Nat := 0
      decide (mover < 256)
        && ((match h.mover? mover with | some m => (match h.axis? m.axis with | some a => decide (m.cut = false) && decide (h.inTurn a = true) && (let k := (((h.observeMover mover).coverMover mover).setAxis a.id fun a => if a.graph = .waiting then { a with graph := .ready } else a); decide ((k.cal.evaluated || !k.movers.all (fun m => m.cut || (k.axis? m.axis).all fun a => !k.inTurn a)) = true)) | _ => false) | _ => false))),
     (let h : Head := work
      let mover : Nat := 0
      decide (mover < 256)
        && ((match h.mover? mover with | some m => (match h.axis? m.axis with | some a => decide (m.cut = false) && decide (h.inTurn a = true) && (let k := (((h.observeMover mover).coverMover mover).setAxis a.id fun a => if a.graph = .waiting then { a with graph := .ready } else a); decide ((!k.cal.evaluated && k.movers.all (fun m => m.cut || (k.axis? m.axis).all fun a => !k.inTurn a)) = true)) | _ => false) | _ => false))),
     (let h : Head := work
      let axis : Nat := 3
      decide (axis < 4096)
        && ((match h.axis? axis with | some a => decide (h.commands = true) && decide (h.graphOpen a = true) && (let k := (Head.finishGraph 16 axis (if a.work.isNone then h.beginGraph a else h)).dropOperations axis; (match k.axis? axis with | some b => (match b.work with | some w => decide (b.stages.length ≤ w.step) | _ => false) | _ => false)) | _ => false))),
     (let h : Head := { work with movers := work.movers.map fun m => { m with cut := true } }
      let mover : Nat := 0
      decide (mover < 256)
        && ((match h.mover? mover with | some m => (match h.axis? m.axis with | some a => decide (h.commands = true) && decide (m.cut = true) && decide (m.force = none) && decide (h.runs a = true) | _ => false) | _ => false))),
     (let h : Head := moverWith fun a => { a with motion := { a.motion with coverRun := 4, brakeWait := some 0, dwellEnd := some 0, dropAt := some 0 }, loop := { a.loop with holdRun := 3, followRun := 8 } }
      let axis : Nat := 0
      decide (axis < 4096) && ((match h.axis? axis with | some a => decide (3 ≤ a.loop.holdRun) | _ => false))),
     (let h : Head := { work with ranges := setAt 0 (fun r => { r with cls := 0, heldLog := [(1000000000, 10000000)] }) work.ranges }
      let range : Nat := 0
      decide (range < 8) && decide ((h.range range).cls = 0) && decide ((h.range range).state = .running)
        && decide (h.holdLimit range < h.heldLastSecond range)),
     (let _h : Head := work
      let axis : Nat := 0
      decide (axis < 4096)),
     (let h : Head := moverWith fun a => { a with motion := { a.motion with coverRun := 4, brakeWait := some 0, dwellEnd := some 0, dropAt := some 0 }, loop := { a.loop with holdRun := 3, followRun := 8 } }
      let axis : Nat := 0
      decide (axis < 4096)
        && ((match h.axis? axis with | some a => decide (a.profiled = true) && decide (8 ≤ a.loop.followRun) | _ => false))),
     (let h : Head := moverWith fun a => { a with motion := { a.motion with coverRun := 4, brakeWait := some 0, dwellEnd := some 0, dropAt := some 0 }, loop := { a.loop with holdRun := 3, followRun := 8 } }
      let mover : Nat := 0
      decide (mover < 256)
        && ((match h.mover? mover with | some m => (match h.axis? m.axis with | some a => decide (4 ≤ a.motion.coverRun) | _ => false) | _ => false)))] : List Bool) id = true := by
  decide +kernel

theorem test_met_BindingRows : List.all (
    [(let h : Head := moverWith fun a => { a with motion := { a.motion with move := .moving, plan := some ⟨0, 0, 0, 0, [], 0⟩, inPosRun := 40, restRun := 40 } }
      let axis : Nat := 0
      decide (axis < 4096)
        && ((match h.axis? axis with | some a => decide (a.profiled = true) && decide (a.motion.move = .moving) && decide (a.motion.plan.isSome = true) && decide (h.planOver a = true) && decide (32 ≤ a.motion.inPosRun) | _ => false))),
     (let h : Head := moverWith fun a => { a with motion := { a.motion with move := .faultStop, restRun := 40 } }
      let axis : Nat := 0
      decide (axis < 4096)
        && ((match h.axis? axis with | some a => decide (a.profiled = true) && decide ((a.motion.move = .faultStop ∨ a.motion.move = .stopping ∧ (a.motion.after = .disable ∨ a.motion.after = .belay))) && decide (h.planOver a = true) && decide (8 ≤ a.motion.restRun) && decide (a.motion.dropAt = none) | _ => false))),
     (let h : Head := moverWith fun a => { a with motion := { a.motion with move := .stopping, restRun := 40 } }
      let axis : Nat := 0
      decide (axis < 4096)
        && ((match h.axis? axis with | some a => decide (a.profiled = true) && decide (a.motion.move = .stopping) && decide ((a.motion.after = .rest ∨ a.motion.after = .rescue)) && decide (h.planOver a = true) && decide (8 ≤ a.motion.restRun) && decide (a.motion.dropAt = none) | _ => false))),
     (let h : Head := { work with deferred := [⟨1, 0, true, 1000, 0⟩] }
      let axis : Nat := 1
      decide (axis < 4096)
        && ((match takeFirstDeferred axis h with | some (d, _) => decide (d.bind = true) | _ => false))),
     (let h : Head := { work with deferred := [⟨1, 0, false, 1000, 0⟩] }
      let axis : Nat := 1
      decide (axis < 4096)
        && ((match takeFirstDeferred axis h with | some (d, _) => decide (d.bind = false) | _ => false))),
     (let h : Head := { (work.setAxis 1 fun a => { a with zeroRun := 2 }) with deferred := [⟨1, 0, false, 1000, 0⟩] }
      let axis : Nat := 1
      decide (axis < 4096)
        && ((match (h.deferred.find? fun d => d.axis = axis && !d.bind) with | some d => (match h.axis? axis with | some a => decide (a.uncovered = true) && decide (h.tooSoon a = false) && decide (a.mover = some d.mover) && decide (h.atRunEnd d.mover a.segIndex = true) | _ => false) | _ => false))),
     (let h : Head := { work with binds := [⟨1, none, 0, 1, 1000, 0⟩] }
      let axis : Nat := 1
      decide (axis < 4096)
        && ((match (h.binds.find? fun b => b.axis = axis && b.cycle ≤ h.time.cycle) with | some _ => true | _ => false))),
     (let h : Head := work.setAxis 1 fun a => { a with epochNew := true, epochCycle := 900, upEpoch := some 200 }
      let axis : Nat := 1
      decide (axis < 4096)
        && ((match h.axis? axis with | some a => decide (a.epochNew = true) && decide (a.epochCycle + 8 ≤ h.time.cycle) && decide (a.upEpoch ≠ some a.epoch) && decide (a.bindTimedOut = false) | _ => false))),
     (let h : Head := (moverWith fun a => { a with motion := { a.motion with brakeWait := some 0 } }).setAxis 1 fun a => { a with coverage := 5 }
      let axis : Nat := 0
      decide (axis < 4096)
        && ((match h.axis? axis with | some a => decide ((a.motion.brakeWait.any fun t => t ≤ h.now) = true) && decide (h.brakesOff a = false) | _ => false))),
     (let h : Head := moverWith fun a => { a with motion := { a.motion with coverRun := 4, brakeWait := some 0, dwellEnd := some 0, dropAt := some 0 }, loop := { a.loop with holdRun := 3, followRun := 8 } }
      let axis : Nat := 0
      decide (axis < 4096)
        && ((match h.axis? axis with | some a => decide ((a.motion.dwellEnd.any fun t => t ≤ h.now) = true) && decide (a.motion.move = .idle) | _ => false))),
     (let h : Head := moverWith fun a => { a with motion := { a.motion with move := .faultStop, restRun := 40 } }
      let axis : Nat := 0
      decide (axis < 4096)
        && ((match h.axis? axis with | some a => decide (a.motion.move = .faultStop) && decide (a.motion.dropAt = none) && decide ((a.motion.plan.all fun p => p.ends + 500000000 ≤ h.now) = true) | _ => false))),
     (let h : Head := moverWith fun a => { a with motion := { a.motion with move := .faultStop, dropAt := some 0 } }
      let axis : Nat := 0
      decide (axis < 4096)
        && ((match h.axis? axis with | some a => decide ((a.motion.dropAt.any fun t => t ≤ h.now || h.braked a) = true) && decide ((a.motion.move = .faultStop ∨ a.motion.after = .belay)) | _ => false))),
     (let h : Head := moverWith fun a => { a with motion := { a.motion with coverRun := 4, brakeWait := some 0, dwellEnd := some 0, dropAt := some 0 }, loop := { a.loop with holdRun := 3, followRun := 8 } }
      let axis : Nat := 0
      decide (axis < 4096)
        && ((match h.axis? axis with | some a => decide ((a.motion.dropAt.any fun t => t ≤ h.now || h.braked a) = true) && decide (a.motion.move ≠ .faultStop) && decide (a.motion.after ≠ .belay) | _ => false)))] : List Bool) id = true := by
  decide +kernel

theorem test_met_FaultRows : List.all (
    [(let h : Head := faulty fun f => { f with reports := [⟨999, 0, 0x9000, 1, 3⟩, ⟨999, 5, 0, 1, 3⟩] }
      let k := h.reach (h.time.cycleStart + 2000)
      decide (k.faults.first = none)
        && (let rs := (k.faults.reports.filter fun r => r.cycle + 1 = k.time.cycle && r.severity ≥ 2); (match firstReport rs with | some _ => true | _ => false))),
     (let h : Head := work
      let source : Nat := 0
      let code : Nat := 2
      decide (source < 0x10000) && decide (code < 32) && decide (h.fromBoot = true)
        && decide (h.sourceExists source = true)
        && decide ((reportedCode source code || h.causePresent source code) = true)
        && decide (((source / 4096 = 0 && code = 20) || (source / 4096 = 1 && code = 2)) = false)
        && decide ((source / 4096 = 2 && code = 2) = false)),
     (let h : Head := work
      let r : Nat := 0
      decide (r < 4096) && decide (h.fromBoot = true) && decide (h.sourceExists (0x2000 + r) = true)
        && decide ((reportedCode (0x2000 + r) 2 || h.causePresent (0x2000 + r) 2) = true)),
     (let h : Head := work
      let source : Nat := 0
      let code : Nat := 20
      decide (source < 0x10000) && decide (code < 32) && decide (h.fromBoot = true)
        && decide (h.sourceExists source = true)
        && decide ((reportedCode source code || h.causePresent source code) = true)
        && decide (((source / 4096 = 0 && code = 20) || (source / 4096 = 1 && code = 2)) = true)),
     (let h : Head := work
      decide (h.faults.dieLinkOk = true) && decide (h.fromBoot = true)),
     (let h : Head := work
      decide (h.fromBoot = true)),
     (let h : Head := faulty fun f => { f with latches := [⟨0, 32, [(5, 1, 1000)], some 1000⟩] }
      let a : Bool := true
      let b : Bool := false
      decide (h.fromBoot = true) && decide ((a && b) = false) && decide (h.faults.safeInRanges = 0)
        && decide ((h.faults.safeInA && h.faults.safeInB) = false) && decide (h.latched 0 5 = true)),
     (let h : Head := work
      let a : Bool := true
      let b : Bool := false
      decide (h.fromBoot = true) && decide ((a && b) = false) && decide (h.faults.safeInRanges = 0)
        && decide ((h.faults.safeInA && h.faults.safeInB) = true ∨ h.latched 0 5 = false)),
     (let h : Head := faulty fun f => { f with safeInRanges := 1, differSince := some 0 }
      let a : Bool := true
      let b : Bool := false
      decide (h.fromBoot = true) && decide ((a && b) = false) && decide (h.faults.safeInRanges ≠ 0)),
     (let h : Head := faulty fun f => { f with safeInRanges := 1, differSince := some 0 }
      decide (h.fromBoot = true)
        && decide ((h.faults.differSince.any fun t => t + h.faults.discrepancyMs * 1000000 ≤ h.now) = true)),
     (let h : Head := work
      let balls : Nat := 1
      decide (balls < 8) && decide (h.fromBoot = true) && decide (balls ≠ 0)),
     (let h : Head := work
      decide (h.fromBoot = true)),
     (let h : Head := faulty fun f => { f with kickArmed := true, kickTimeout := 10 }
      decide (h.fromCommission = true) && decide (h.sys.mode ≠ .safe) && decide (h.faults.kickArmed = true)
        && decide (h.hasS4 = false)),
     (let h : Head := faulty fun f => { f with kickArmed := true, kickTimeout := 10 }
      decide (h.faults.kickArmed = true) && decide (h.faults.kickTime + h.faults.kickTimeout * 1000000 ≤ h.now)),
     (let h : Head := faulty fun f => { f with aliveRun := true }
      decide (h.faults.aliveRun = true))] : List Bool) id = true := by
  decide +kernel

theorem test_met_FieldRows : List.all (
    [(let h : Head := work
      let levels : Nat := 0
      let _time : Nat := 0
      decide (levels < 2 ^ 32) && decide (h.fromCommission = true) && decide (h.faults.dieLinkOk = true)),
     (let h : Head := work
      let input : Nat := 0
      decide (input < 32) && decide (h.fromBoot = true) && decide ((h.fieldIn input).reversed = false)),
     (let _h : Head := work
      let input : Nat := 0
      decide (input < 32)),
     (let h : Head := { work with pins := { work.pins with fin := setAt 0 (fun f => { f with openDetect := true }) work.pins.fin, fout := setAt 0 (fun f => { f with on := true }) work.pins.fout, gp := setAt 0 (fun p => { p with parked := true }) work.pins.gp } }
      let input : Nat := 0
      decide (input < 32) && decide (h.fromBoot = true) && decide ((h.fieldIn input).openDetect = true)
        && decide ((h.fieldIn input).isOpen = false)),
     (let _h : Head := work
      let input : Nat := 0
      decide (input < 32)),
     (let h : Head := { work with pins := { work.pins with fin := setAt 0 (fun f => { f with openDetect := true }) work.pins.fin, fout := setAt 0 (fun f => { f with on := true }) work.pins.fout, gp := setAt 0 (fun p => { p with parked := true }) work.pins.gp } }
      let output : Nat := 0
      decide (output < 4) && decide ((h.fieldOut output).on = true)),
     (let h : Head := { work with pins := { work.pins with fout := setAt 0 (fun f => { f with on := true, short := true }) work.pins.fout } }
      let output : Nat := 0
      decide (output < 4) && decide ((h.fieldOut output).short = true) && decide ((h.fieldOut output).retryMs ≠ 0)
        && decide ((h.fieldOut output).shortAt + (h.fieldOut output).retryMs * 1000000 ≤ h.now)),
     (let h : Head := { work with pins := { work.pins with fout := setAt 0 (fun f => { f with on := true, short := true }) work.pins.fout } }
      let output : Nat := 0
      decide (output < 4) && decide ((h.fieldOut output).short = true) && decide ((h.fieldOut output).retryMs ≠ 0)
        && decide ((h.fieldOut output).shortAt + (h.fieldOut output).retryMs * 1000000 ≤ h.now)),
     (let _h : Head := work
      let output : Nat := 0
      decide (output < 4)),
     (let h : Head := { work with pins := { work.pins with fin := setAt 0 (fun f => { f with openDetect := true }) work.pins.fin, fout := setAt 0 (fun f => { f with on := true }) work.pins.fout, gp := setAt 0 (fun p => { p with parked := true }) work.pins.gp } }
      let output : Nat := 0
      decide (output < 4) && decide (h.fromCommission = true) && decide ((h.fieldOut output).openLoad = false)
        && decide ((h.fieldOut output).on = true)),
     (let h : Head := { work with pins := { work.pins with fin := setAt 0 (fun f => { f with openDetect := true }) work.pins.fin, fout := setAt 0 (fun f => { f with on := true }) work.pins.fout, gp := setAt 0 (fun p => { p with parked := true }) work.pins.gp } }
      let pin : Nat := 0
      decide (pin < 40) && decide ((h.pin pin).parked = true)),
     (let h : Head := work
      let level := (h.fromCommission && h.now % 1000000000 < 100000000)
      decide (h.pins.ppsOut ≠ level)),
     (let h : Head := work
      let _time : Nat := 0
      decide (h.fromBoot = true))] : List Bool) id = true := by
  decide +kernel

theorem test_met_SupplyRows_1 : List.all (
    [(let h : Head := work
      let vin : Nat := 300
      decide (h.sys.mode ≠ .off) && decide (vin < 370 ∨ h.power.inputOpen = true)),
     (let h : Head := work
      let vin : Nat := 6500
      decide (h.sys.mode ≠ .off) && decide (6200 < vin)),
     (let h : Head := { work with power := { work.power with inputOpen := true } }
      let vin : Nat := 300
      decide (h.power.inputOpen = true) && decide (vin < 6100)),
     (let h : Head := work
      let vin : Nat := 300
      decide (h.sys.mode ≠ .off) && decide (vin < h.power.vinLowLevel)),
     (let h : Head := work
      let vin : Nat := 1000
      decide (h.sys.mode ≠ .off) && decide (h.power.vinLowLevel + 50 < vin)),
     (let h : Head := work
      let rail : Nat := 0
      decide (rail < 4) && decide (h.fromBoot = true)),
     (let h : Head := work
      decide (h.sys.mode ≠ .off) && decide (h.power.railsGood = true)),
     (let h : Head := work
      decide (h.sys.mode ≠ .off)),
     (let h : Head := supplies
      let c : Nat := 1
      let _trip : Bool := true
      decide (c < 3) && decide (h.fromBoot = true) && decide ((h.power.pll c).lock = true)),
     (let h : Head := work
      let c : Nat := 0
      decide (c < 3) && decide (h.fromBoot = true) && decide ((h.power.pll c).lock = false)
        && decide ((h.power.pll c).failed < 3) && decide (h.pllOff c = false)
        && decide ((c = 2 → h.power.fspChange = []))),
     (let h : Head := supplies
      (match h.power.fspChange with | _ :: _ => true | _ => false)),
     (let h : Head := work
      let domain : Nat := 0
      let level : Nat := 1
      decide (domain < 18) && decide (1 ≤ level) && decide (level ≤ 2) && decide (h.fromBoot = true)
        && decide ((h.power.droop.getD domain {}).level < level)),
     (let h : Head := supplies
      let domain : Nat := 0
      decide (domain < 18) && decide ((h.power.droop.getD domain {}).level = 2)),
     (let h : Head := supplies
      let domain : Nat := 1
      decide (domain < 18) && decide ((h.power.droop.getD domain {}).level = 1)),
     (let h : Head := work
      let _pfd : Bool := true
      decide (h.sys.mode ≠ .off)),
     (let h : Head := work
      let _pfd : Bool := true
      decide (h.sys.mode ≠ .off))] : List Bool) id = true := by
  decide +kernel

theorem test_met_SupplyRows_2 : List.all (
    [(let _h : Head := work
      true),
     (let _h : Head := work
      true),
     (let _h : Head := work
      true),
     (let _h : Head := work
      true),
     (let _h : Head := work
      true),
     (let _h : Head := work
      true)] : List Bool) id = true := by
  decide +kernel

theorem test_met_TimeRows : List.all (
    [(let h : Head := onNet
      let port : Nat := 0
      let message : PtpMessage := ptpSync
      let _stamp : Nat := 0
      decide (port < 2) && decide (h.portUp port = true)
        && ((match ptpHeader message.bytes with | some x => decide (x.domain = h.idleSettings.time.domain) && decide (message.annexE = h.idleSettings.ptpAnnexE port) | _ => false))),
     (let h : Head := timed fun t => { t with stepDue := some 5, servo := .locked }
      (match h.time.stepDue with | some _ => decide (h.time.stepOpen = true) && decide (h.time.stepCycle ≤ h.time.cycle) | _ => false)),
     (let h : Head := { (timed fun t => { t with servo := .locked, offsetAt := 0 }) with time := { work.time with servo := .locked, head := 5000000000 * 2 ^ 32 } }
      decide ((h.time.servo = .tracking ∨ h.time.servo = .locked)) && decide (h.time.offsetAt + 4000000000 ≤ h.now)),
     (let h : Head := onNet
      let port : Nat := 0
      let _identifier : Nat := 0
      let _stamp : Nat := 0
      decide (port < 2) && decide (h.portUp port = true) && decide ((h.ptpPort port).stamps.length < 16)),
     (let h : Head := stamped
      let port : Nat := 0
      let _identifier : Nat := 0
      let _stamp : Nat := 0
      decide (port < 2) && decide (h.portUp port = true) && decide (16 ≤ (h.ptpPort port).stamps.length)
        && decide ((h.ptpPort port).overflow = false)),
     (let h : Head := workAs .standby
      let _roundTrip : Nat := 0
      decide (h.sys.role = .standby) && decide (h.peer.saddleUp = true)),
     (let h : Head := timed fun t => { t with triggers := [{ mode := 1, next := some 5 }] }
      let trigger : Nat := 0
      decide (trigger < 8)
        && ((match (h.trigger trigger).next with | some next => let t := h.tickAt next; decide ((t / 2 ^ 32 ≤ h.now ∨ t / 2 ^ 32 < h.time.cycleStart + h.cycleNs)) | _ => false))),
     (let h : Head := { work with cal := { work.cal with comparators := [⟨1000000000, 0, 0, 0, []⟩] } }
      let entry : Nat := 0
      decide (entry < 8192)
        && ((match (h.cal.comparators.find? fun c => c.entry = entry) with | some _ => true | _ => false)))] : List Bool) id = true := by
  decide +kernel

theorem test_met_ConverterRows : List.all (
    [(let h : Head := streaming id
      let stream : Nat := 0
      let consumer : Nat := 0
      decide (stream < 4)
        && ((match (h.stream stream).cfg with | some _ => decide ((h.stream stream).state = 1) && decide (consumer ≤ (h.stream stream).producer) && decide ((h.stream stream).consumer ≤ consumer) | _ => false))),
     (let h : Head := adcWith fun a => { a with running := some 1000000000, cfg := { a.cfg with seq := [] } }
      let adc : Nat := 0
      let samples : List Int := []
      decide (adc < 4)
        && (let a := h.adc adc; (match a.running with | some _ => decide (samples.length = a.cfg.seq.length) | _ => false))),
     (let h : Head := { work with acq := { work.acq with latest := [⟨0, 0, 0, 0, 0, 0, false, 9⟩] } }
      let input : Nat := 0
      decide (input < 32)
        && (let due := (fun (l : Latest) => !l.isOpen && l.code < 0x30 && l.run ≥ (h.acq.inputs.getD (wireInput l.code) {}).owCount && (l.code = input || (isDiff l.code && l.code - 0x20 = input / 2))); decide (h.acq.latest.any due = true))),
     (let h : Head := adcWith fun a => { a with calibrating := true, skewing := true }
      let adc : Nat := 0
      let _offset : Int := 0
      let _gain : Int := 0
      decide (adc < 4) && decide ((h.adc adc).calibrating = true)),
     (let h : Head := adcWith fun a => { a with calibrating := true, skewing := true }
      let pair : Nat := 0
      let _skew : Int := 0
      decide (pair < 2) && decide ((h.adc (2 * pair)).skewing = true)),
     (let h : Head := adcWith fun a => { a with calibrating := true, skewing := true }
      let pair : Nat := 0
      let _skew : Int := 0
      decide (pair < 2) && decide ((h.adc (2 * pair)).skewing = true)),
     (let h : Head := work
      let adc : Nat := 0
      let temperature : Int := 500
      decide (adc < 4) && decide (h.fromCommission = true) && decide ((h.adc adc).dueposted = false)
        && decide (160 ≤ (temperature - (h.adc adc).calTemp).natAbs)),
     (let h : Head := streaming id
      let stream : Nat := 0
      let consumer : Nat := 1
      decide (stream < 4)
        && ((match (h.stream stream).cfg with | some _ => decide ((h.stream stream).state = 1) && decide (((h.stream stream).producer < consumer ∨ consumer < (h.stream stream).consumer)) | _ => false))),
     (let h : Head := streaming fun s => { s with producer := 64, gap := some (1, 5, 1000, 2) }
      let stream : Nat := 0
      decide (stream < 4)
        && (let x := h.stream stream; (match x.cfg with | some _ => (match x.gap with | some (_, _, _, _) => decide (x.state = 1) && decide (x.paused = false) && decide (x.stagedBytes + 64 * (1 + x.marks.length) ≤ 1048576) | _ => false) | _ => false))),
     (let h : Head := measuring 1 false
      let unit : Nat := 0
      decide (unit < 8) && decide ((h.unit unit).state = .holdoff)
        && ((match (h.unit unit).cfg with | some c => decide (c.byEvents = false) && decide ((h.unit unit).lastTime + c.holdoff * 256 ≤ h.now * 256) | _ => false))),
     (let h : Head := measuring 0 false
      let unit : Nat := 0
      decide (unit < 8)
        && ((match (h.unit unit).cfg with | some c => (match (h.unit unit).complete? with | some (r, rest) => decide (h.capturing unit = false) && (let (_, k) := h.measure c r; decide (((k.setUnit unit fun x => { x with records := rest }).stream c.stream).state ≠ 1)) | _ => false) | _ => false))),
     (let h : Head := measuring 1 false
      let unit : Nat := 0
      decide (unit < 8)
        && ((match (h.unit unit).cfg with | some c => (match (h.unit unit).complete? with | some (r, rest) => decide (h.capturing unit = false) && (let (_, k) := h.measure c r; let j := (k.setUnit unit fun x => { x with records := rest }); decide ((j.stream c.stream).state = 1)) | _ => false) | _ => false))),
     (let h : Head := measuring 1 true
      let unit : Nat := 0
      decide (unit < 8)
        && ((match (h.unit unit).cfg with | some _ => (match (h.unit unit).complete? with | some (_, _) => (match h.acq.capture with | some m => decide (m.unit = unit) | _ => false) | _ => false) | _ => false)))] : List Bool) id = true := by
  decide +kernel

theorem test_met_EncoderRows_1 : List.all (
    [(let _h : Head := work
      let observer : Nat := 0
      decide (observerNumber observer = true)),
     (let h : Head := { work with movers := work.movers.map fun m => { m with obs := { m.obs with predRun := 17, predLimit := 16, state := .predicting } } }
      let observer : Nat := 0
      decide (observerNumber observer = true)
        && ((match h.observer? observer with | some o => decide (o.predLimit < o.predRun) && decide (o.state ≠ .noFix) | _ => false))),
     (let h : Head := work.setAxis 1 fun a => { a with source := { rejected := 16 } }
      let source : Nat := 1
      decide (sourceNumber source = true) && decide ((h.sourceRun source).excluded = false)
        && decide (16 ≤ (h.sourceRun source).rejected) && decide (source < 0x2000)),
     (let h : Head := work.setChannel 0 fun c => { c with source := { rejected := 16 } }
      let source : Nat := 8192
      decide (sourceNumber source = true) && decide ((h.sourceRun source).excluded = false)
        && decide (16 ≤ (h.sourceRun source).rejected) && decide (0x2000 ≤ source)),
     (let h : Head := work.setAxis 1 fun a => { a with source := { excluded := true, good := 64 } }
      let source : Nat := 1
      decide (sourceNumber source = true) && decide ((h.sourceRun source).excluded = true)
        && decide (64 ≤ (h.sourceRun source).good)),
     (let h : Head := channelIn 1 id
      let channel : Nat := 0
      let positive : Sampled Bool := ⟨true, 64⟩
      decide (channel < 8) && decide ((h.channel channel).cfg.mode = 1)
        && decide ((h.channel channel).cfg.filter ≤ positive.stable)),
     (let h : Head := channelIn 1 id
      let channel : Nat := 0
      let stable : Nat := 64
      decide (channel < 8) && decide ((h.channel channel).cfg.mode = 1)
        && decide ((h.channel channel).cfg.filter ≤ stable)
        && decide (((h.channel channel).quadCycle.all fun c => c + 64 < h.time.cycle) = true)),
     (let h : Head := channelIn 1 fun f => { f with quadCycle := some 990, indexDir := some false, cfg := { f.cfg with cpr := 4000 }, indexCount := 1000 }
      let channel : Nat := 0
      let stable : Nat := 64
      decide (channel < 8) && decide ((h.channel channel).cfg.mode = 1)
        && decide ((h.channel channel).cfg.filter ≤ stable)
        && decide (((h.channel channel).quadCycle.all fun c => c + 64 < h.time.cycle) = false)),
     (let h : Head := channelIn 1 id
      let channel : Nat := 0
      let _time : Nat := 0
      let gated : Sampled Bool := ⟨true, 64⟩
      decide (channel < 8)
        && (let f := h.channel channel; decide (f.cfg.mode = 1) && decide (f.cfg.filter ≤ gated.stable) && decide ((bit f.cfg.flags 0 = true → gated.value = true)) && decide ((f.indexDir = some (f.has chDirection) && indexDrifts f.cfg (toSigned 32 (f.count + 2 ^ 32 - f.indexCount))) = false))),
     (let h : Head := channelIn 1 fun f => { f with quadCycle := some 990, indexDir := some false, cfg := { f.cfg with cpr := 4000 }, indexCount := 1000 }
      let channel : Nat := 0
      let _time : Nat := 0
      let gated : Sampled Bool := ⟨true, 64⟩
      decide (channel < 8)
        && (let f := h.channel channel; decide (f.cfg.mode = 1) && decide (f.cfg.filter ≤ gated.stable) && decide ((bit f.cfg.flags 0 = true → gated.value = true)) && decide ((f.indexDir = some (f.has chDirection) && indexDrifts f.cfg (toSigned 32 (f.count + 2 ^ 32 - f.indexCount))) = true))),
     (let h : Head := channelIn 1 fun f => { f with dirRun := (4, 0) }
      let channel : Nat := 0
      decide (channel < 8)
        && (let f := h.channel channel; decide (f.cfg.dirHyst ≤ f.dirRun.1) && decide (0 < f.dirRun.1) && decide (f.dirPosted = false))),
     (let h : Head := channelIn 1 fun f => { f with dirRun := (4, 1), dirPosted := true }
      let channel : Nat := 0
      decide (channel < 8)
        && (let f := h.channel channel; decide (f.cfg.dirHyst ≤ f.dirRun.1) && decide (0 < f.dirRun.1) && decide (f.dirPosted = true))),
     (let h : Head := channelIn 3 fun f => { f with sector := some 0 }
      let channel : Nat := 0
      let code : Sampled Nat := ⟨1, 64⟩
      decide (channel < 8) && decide ((h.channel channel).cfg.mode = 3)
        && decide ((h.channel channel).cfg.filter ≤ code.stable)
        && ((match hallSector code.value with | some _ => (match (h.channel channel).sector with | some _ => true | _ => false) | _ => false))),
     (let h : Head := channelIn 3 fun f => { f with sector := some 0 }
      let channel : Nat := 0
      let code : Sampled Nat := ⟨0, 64⟩
      decide (channel < 8) && decide ((h.channel channel).cfg.mode = 3)
        && decide ((h.channel channel).cfg.filter ≤ code.stable) && decide (hallSector code.value = none)),
     (let h : Head := channelIn 2 fun f => { f with ssiBusy := true, cfg := { f.cfg with ssiBits := 12, errBit := 0xFF } }
      let channel : Nat := 0
      let frame : Nat := 0
      decide (channel < 8)
        && (let f := h.channel channel; decide (f.cfg.mode = 2) && decide (f.ssiBusy = true) && decide (ssiContent f.cfg frame = true))),
     (let h : Head := channelIn 2 fun f => { f with ssiBusy := true, cfg := { f.cfg with ssiBits := 12, errBit := 0 } }
      let channel : Nat := 0
      let frame : Nat := 1
      decide (channel < 8)
        && (let f := h.channel channel; decide (f.cfg.mode = 2) && decide (f.ssiBusy = true) && decide (ssiContent f.cfg frame = false)))] : List Bool) id = true := by
  decide +kernel

theorem test_met_EncoderRows_2 : List.all (
    [(let h : Head := channelIn 2 fun f => { f with ssiBusy := true, cfg := { f.cfg with ssiBits := 12, errBit := 0xFF } }
      let channel : Nat := 0
      let _frame : Nat := 0
      let _extra : Bool := true
      decide (channel < 8) && decide ((h.channel channel).cfg.mode = 2)
        && decide ((h.channel channel).ssiBusy = true)),
     (let h : Head := channelIn 2 fun f => { f with ssiBusy := true, cfg := { f.cfg with ssiBits := 12, errBit := 0xFF } }
      let channel : Nat := 0
      let _frame : Nat := 0
      decide (channel < 8) && (let f := h.channel channel; decide (f.cfg.mode = 2) && decide (f.ssiBusy = true))),
     (let h : Head := channelIn 1 fun f => { f with flags := chResync, run := [1, 2, 3, 4] }
      let channel : Nat := 0
      decide (channel < 8)
        && (let f := h.channel channel; decide (f.has chResync = true) && decide (f.cfg.resyncCount ≤ f.run.length)))] : List Bool) id = true := by
  decide +kernel

theorem test_met_StepperRows : List.all (
    [(let h : Head := stepWith fun s => { s with homing := some ⟨0, false, 1, 0, 100000, .back, 0, 0, 0, some 1000⟩, state := .homing }
      let axis : Nat := 2
      decide (axis < 4096)
        && ((match h.axis? axis with | some a => (match a.step.homing with | some g => (match h.latchInstant a g with | some _ => decide (a.localStep = false) | _ => false) | _ => false) | _ => false))),
     (let h : Head := localWith fun s => { s with homing := some ⟨0, false, 1, 0, 100000, .back, 0, 0, 0, some 1000⟩, state := .homing }
      let axis : Nat := 3
      decide (axis < 4096)
        && ((match h.axis? axis with | some a => (match a.step.homing with | some g => (match h.latchInstant a g with | some _ => decide (a.localStep = true) | _ => false) | _ => false) | _ => false))),
     (let h : Head := work
      let channel : Nat := 1
      decide (channel < 8) && decide ((h.axes.find? fun a => a.localStep && a.stepChannel = channel) = none)),
     (let _h : Head := work
      let channel : Nat := 0
      decide (channel < 8)),
     (let h : Head := work
      let channel : Nat := 0
      decide (channel < 8)
        && (let k := { h with steps := setAt channel (fun (c : StepChannel) => { c with fault := true, dir := false, vel := 0, ticks := 0, delayed := [], duty := (0, 0, 0, 0) }) h.steps }; (match (k.axes.find? fun a => a.localStep && a.stepChannel = channel) with | some _ => true | _ => false))),
     (let h : Head := stepWith fun s => { s with cfg := { s.cfg with encoder := true }, stallRun := 4 }
      let axis : Nat := 2
      decide (axis < 4096)
        && ((match h.axis? axis with | some a => decide (a.kind = .stepper) && decide (a.step.cfg.encoder = true) && decide (a.step.cfg.stallCycles ≤ a.step.stallRun) | _ => false))),
     (let h : Head := stepWith fun s => { s with state := .moving }
      let axis : Nat := 2
      decide (axis < 4096)
        && ((match h.axis? axis with | some a => decide (a.kind = .stepper) && decide (a.step.state = .moving) && decide ((a.step.group.all fun l => l = axis) = true) && decide ((a.step.ramp.all fun r => r.ends ≤ h.now) = true) | _ => false))),
     (let h : Head := stepWith fun s => { s with state := .stopping }
      let axis : Nat := 2
      decide (axis < 4096)
        && ((match h.axis? axis with | some a => decide (a.kind = .stepper) && decide (a.step.state = .stopping) && decide ((a.step.ramp.all fun r => r.ends ≤ h.now) = true) | _ => false))),
     (let h : Head := { (stepWith fun s => { s with state := .moving, cfg := { s.cfg with limitPos := 0, limitNeg := 1 }, ramp := some ⟨0, 0, 6553600, [(2000000000, 0)], 0, none⟩ }) with pins := work.pins }
      let axis : Nat := 2
      decide (axis < 4096)
        && ((match h.axis? axis with | some a => decide (a.kind = .stepper) && decide ((a.step.state = .moving ∨ (a.step.state = .stopping ∧ a.step.quick = false))) && decide (0 < (a.step.at h.now).2) && decide (h.stepInput a.step 0 = true) | _ => false))),
     (let h : Head := { (stepWith fun s => { s with state := .moving, cfg := { s.cfg with limitPos := 0, limitNeg := 1 }, ramp := some ⟨0, 0, -6553600, [(2000000000, 0)], 0, none⟩ }) with pins := work.pins }
      let axis : Nat := 2
      decide (axis < 4096)
        && ((match h.axis? axis with | some a => decide (a.kind = .stepper) && decide ((a.step.state = .moving ∨ (a.step.state = .stopping ∧ a.step.quick = false))) && decide ((a.step.at h.now).2 < 0) && decide (h.stepInput a.step 1 = true) | _ => false))),
     (let h : Head := stepWith fun s => { s with homing := some ⟨0, false, 1, 0, 100000, .toHome, 0, 0, 0, some 1000⟩, state := .homing }
      let axis : Nat := 2
      decide (axis < 4096)
        && ((match h.axis? axis with | some a => decide ((a.step.homing.any fun g => g.phase = .toHome) = true) && decide ((a.step.ramp.all fun r => r.ends ≤ h.now) = true) | _ => false))),
     (let h : Head := stepWith fun s => { s with homing := some ⟨0, false, 1, 0, 10, .seek, 500, 0, 0, none⟩, state := .homing }
      let axis : Nat := 2
      decide (axis < 4096)
        && ((match h.axis? axis with | some a => decide ((a.step.homing.any fun g => h.homingFails a g) = true) | _ => false))),
     (let h : Head := { (stepWith fun s => { s with cfg := { s.cfg with limitPos := 0 } }) with pins := { work.pins with fin := setAt 0 (fun f => { f with edges := List.replicate 9 1000000000 }) work.pins.fin } }
      let input : Nat := 0
      decide (input < 32)
        && ((match (h.axes.find? fun a => a.kind = .stepper && (List.range 3).any fun k => a.step.inputOf k = input) with | some a => decide (h.chattering input = true) && decide (h.latched (srcInput input) 2 = false) && (let k := ((h.setStep a.id fun s => { s with flags := s.flags ||| 0x80 }).raise (srcInput input) 2).post 0x0A07 0 a.id []; (match k.axis? a.id with | some b => decide (b.step.homing = none) | _ => false)) | _ => false))),
     (let h : Head := { (stepWith fun s => { s with cfg := { s.cfg with limitPos := 0 }, homing := some ⟨0, false, 1, 0, 100000, .seek, 0, 0, 0, none⟩ }) with pins := { work.pins with fin := setAt 0 (fun f => { f with edges := List.replicate 9 1000000000 }) work.pins.fin } }
      let input : Nat := 0
      decide (input < 32)
        && ((match (h.axes.find? fun a => a.kind = .stepper && (List.range 3).any fun k => a.step.inputOf k = input) with | some a => decide (h.chattering input = true) && decide (h.latched (srcInput input) 2 = false) && (let k := ((h.setStep a.id fun s => { s with flags := s.flags ||| 0x80 }).raise (srcInput input) 2).post 0x0A07 0 a.id []; (match k.axis? a.id with | some b => (match b.step.homing with | some _ => true | _ => false) | _ => false)) | _ => false)))] : List Bool) id = true := by
  decide +kernel

theorem test_met_PeerRows : List.all (
    [(let h : Head := peerIn .active fun p => { p with deposeRun := (2, 0), grant := some 900 }
      decide (h.commands = true) && decide (2 ≤ h.peer.deposeRun.1)),
     (let h : Head := workAs .active
      decide ((h.sys.role = .standby ∨ h.sys.role = .active)) && decide (h.peer.heard = false)
        && decide (h.peer.missedCycle ≠ some h.time.cycle)
        && (let g := h.reach h.heartbeatBy; let k := Head.restartLanes { g with peer := { g.peer with missed := satInc 255 g.peer.missed, missedCycle := some g.time.cycle } }; decide (k.mayTakeOver = false) && decide ((k.peer.missed < 2 ∨ k.peer.lostPosted = true)))),
     (let h : Head := workAs .active
      let bytes : List Byte := heart
      decide (h.peer.saddleUp = true) && decide (h.fromBoot = true) && decide (h.peer.heard = false)
        && decide (heartbeatOk bytes = true) && decide (h.heartbeatInTime = true)),
     (let h : Head := peerIn .standby fun p => { p with missed := 2, witness := (2, 2) }
      decide ((h.sys.role = .standby ∨ h.sys.role = .active)) && decide (h.peer.heard = false)
        && decide (h.peer.missedCycle ≠ some h.time.cycle)
        && (let g := h.reach h.heartbeatBy; let k := Head.restartLanes { g with peer := { g.peer with missed := satInc 255 g.peer.missed, missedCycle := some g.time.cycle } }; decide (k.mayTakeOver = true))),
     (let h : Head := peerIn .standby fun p => { p with missed := 2, witness := (0, 2) }
      decide ((h.sys.role = .standby ∨ h.sys.role = .active)) && decide (h.peer.heard = false)
        && decide (h.peer.missedCycle ≠ some h.time.cycle)
        && (let g := h.reach h.heartbeatBy; let k := Head.restartLanes { g with peer := { g.peer with missed := satInc 255 g.peer.missed, missedCycle := some g.time.cycle } }; decide (k.mayTakeOver = false) && decide (2 ≤ k.peer.missed) && decide (k.peer.lostPosted = false))),
     (let h : Head := workAs .standby
      let bytes : List Byte := section6
      decide (h.sys.role = .standby) && decide (h.peer.saddleUp = true)
        && ((match readSection bytes with | some (kind, count, first, body) => (match h.takeSection kind count first body with | some _ => true | _ => false) | _ => false))),
     (let h : Head := workAs .active
      let bytes : List Byte := report6
      decide (h.sys.role = .active) && decide (h.peer.saddleUp = true)
        && ((match readSection bytes with | some (6, 1, 0, body) => decide (body.length = 16) | _ => false))),
     (let h : Head := workAs .standby
      let bytes : List Byte := setting7
      decide (h.sys.role = .standby) && decide (h.peer.saddleUp = true)
        && ((match readSection bytes with | some (7, 1, 0, body) => (match readSetting body with | some _ => true | _ => false) | _ => false))),
     (let h : Head := peerIn .active fun p => { p with deposeRun := (2, 0), grant := some 900 }
      decide (h.sys.role = .active)
        && ((match h.peer.grant with | some r => decide (r ≤ h.time.cycle) | _ => false))),
     (let h : Head := peerIn .standby fun p => { p with flags := 4, returnCycle := 900 }
      decide (h.sys.role = .standby) && decide (bit h.peer.flags 2 = true) && decide (h.peer.returnCycle ≠ 0)
        && decide (h.peer.returnCycle ≤ h.time.cycle))] : List Bool) id = true := by
  decide +kernel

theorem test_met_SecurityRows : List.all (
    [(let h : Head := secured fun s => { s with sessions := [⟨1, [], 0, 0, none, 0⟩], sessionIdle := 1, debugSession := some ⟨1, some 1000, false⟩ }
      let session : Nat := 1
      decide (1 ≤ session) && decide (session ≤ 15)
        && ((match h.session? session with | some x => decide (x.lastUse + h.sec.sessionIdle * 1000000000 ≤ h.now) | _ => false))),
     (let h : Head := secured fun s => { s with sessions := [⟨1, [], 0, 0, none, 0⟩], sessionIdle := 1, debugSession := some ⟨1, some 1000, false⟩ }
      (match h.sec.debugSession with | some d => (match d.ends with | some t => decide (t ≤ h.now) | _ => false) | _ => false)),
     (let h : Head := { (secured fun s => { s with transfer := some ⟨10, 0, [], 0⟩ }) with time := { work.time with head := 20000000000 * 2 ^ 32 }, compute := { work.compute with loading := some (1, 2, [], 0) } }
      (match h.compute.loading with | some l => decide (l.2.2.2 + 10000000000 ≤ h.now) | _ => false)),
     (let h : Head := { (secured fun s => { s with transfer := some ⟨10, 0, [], 0⟩ }) with time := { work.time with head := 20000000000 * 2 ^ 32 }, compute := { work.compute with loading := some (1, 2, [], 0) } }
      (match h.sec.transfer with | some t => decide (t.last + 10000000000 ≤ h.now) | _ => false)),
     (let h : Head := work
      let kind : Nat := 0
      let tile : Nat := 0
      let core : Nat := 0
      (match coreOf kind tile core with | some c => decide (h.mayHalt c = true) | _ => false)),
     (let h : Head := secured fun s => { s with debugLevel := 2, halted := [.management] }
      let kind : Nat := 2
      let tile : Nat := 0
      let core : Nat := 0
      (match coreOf kind tile core with | some c => decide (h.fromBoot = true) && decide (h.sec.debugLevel = 2) && decide (h.sec.halted.contains c = true) | _ => false)),
     (let h : Head := work
      let kind : Nat := 0
      let tile : Nat := 0
      let core : Nat := 0
      (match coreOf kind tile core with | some _ => decide (h.fromBoot = true) && decide (h.sec.debugLevel = 2) | _ => false)),
     (let h : Head := work
      decide (h.tapPowered = true)),
     (let h : Head := work
      decide (h.tapPowered = true)),
     (let _h : Head := work
      let _chain : List Bool := []
      true),
     (let _h : Head := work
      let _balls : List Bool := []
      let _chain : List Bool := []
      true),
     (let _h : Head := work
      let _chain : List Bool := []
      true),
     (let _h : Head := work
      true)] : List Bool) id = true := by
  decide +kernel

end Sys2Proof.Tests
end

section
/-! PROOF. How an item outside any group is refused, and the mode commands at a head that is neither active nor solo (R32). -/
namespace Sys2Proof.Machine

/-! ### From an instruction to its command -/

/-- Every host-command row runs the command that `hostCommand` names. -/
theorem exec_hostCommand {i : Instr} {c : Command} {p : Packet} (e : hostCommand i = some (c, p)) (s : State) :
    exec i s = hostExec c p s := by
  cases i <;> cases e <;> rfl

/-- The opcodes that R32 keeps to the active or solo head belong to these five commands alone. -/
theorem hostCommand_modeOpcode {i : Instr} {c : Command} {p : Packet} (e : hostCommand i = some (c, p))
    (o : c.opcode ∈ [0x0101, 0x0102, 0x0103, 0x0104, 0x0105]) :
    c = setModeCmd ∨ c = enterIdleCmd ∨ c = setToleranceCmd ∨ c = wakeCmd ∨ c = setRescuePolicyCmd := by
  cases i with
  | setMode q => cases e; exact .inl rfl
  | enterIdle q => cases e; exact .inr (.inl rfl)
  | setTolerance q => cases e; exact .inr (.inr (.inl rfl))
  | wake q => cases e; exact .inr (.inr (.inr (.inl rfl)))
  | setRescuePolicy q => cases e; exact .inr (.inr (.inr (.inr rfl)))
  | _ => cases e <;> exact absurd o (by decide)

/-- The other two opcodes of R32 belong to GET_SYSTEM_STATUS and SYSTEM_RESET. -/
theorem hostCommand_anyHeadOpcode {i : Instr} {c : Command} {p : Packet} (e : hostCommand i = some (c, p))
    (o : c.opcode ∈ [0x0100, 0x0106]) : c = getSystemStatusCmd ∨ c = systemResetCmd := by
  cases i with
  | getSystemStatus q => cases e; exact .inl rfl
  | systemReset q => cases e; exact .inr rfl
  | _ => cases e <;> exact absurd o (by decide)

/-! ### Judging -/

/-- A refusal is one of the conditions that hold. -/
theorem firstRefusal_mem {l : List (Bool × Nat)} {status : Nat} (r : firstRefusal l = some status) : (true, status) ∈ l := by
  induction l with
  | nil => cases r
  | cons x rest ih =>
    obtain ⟨holds, own⟩ := x
    cases holds with
    | true => cases r; exact List.mem_cons_self
    | false => exact List.mem_cons_of_mem _ (ih r)

/-- The status of a judged item is that of a stage or of a refusal of its own command. -/
theorem judge_mem {c : Command} {via : Via} {p : Packet} {h : Head} {status : Nat} (j : judge c via p h = some status) :
    (true, status) ∈ stages c via p h ++ c.refusals p h := by
  obtain j | ⟨-, j⟩ := (Option.orElse_eq_some _ _ _).mp j
  · exact List.mem_append_left _ (firstRefusal_mem j)
  · exact List.mem_append_right _ (firstRefusal_mem j)

/-- A command that both heads take, without refusals of its own, is never answered NOT_ACTIVE. -/
theorem judge_ne_notActive {c : Command} {via : Via} {p : Packet} {h : Head} (a : c.active = false)
    (r : c.refusals p h = []) : judge c via p h ≠ some Status.notActive := by
  intro j
  have m := judge_mem j
  rw [r] at m
  simp [stages, a] at m

/-- Stage 6: what stages 1 to 5 let pass, a head that is neither active nor solo refuses with NOT_ACTIVE (R83). -/
theorem judge_notActive {c : Command} {p : Packet} {h : Head} (headers : headersBad p = false)
    (macs : macsOk c.opcode p h = true) (defined : c.defined = true) (len : (chunks p).all c.len = true)
    (lenIn : c.lenIn p h = true) (cls : classOk c p h = true) (permitted : c.permitted p h = true)
    (active : c.active = true) (shared : c.shared p h = true) (standby : h.commands = false) :
    judge c .queue p h = some Status.notActive := by
  simp [judge, stages, firstRefusal, headers, macs, defined, len, lenIn, cls, permitted, active, shared, standby]

/-! ### Refusing -/

/-- An item that a running head takes from a queue without a group is judged and applied. -/
theorem ungrouped_next {s : State} {c : Command} {p : Packet} (q : p.queue < 8) (boot : s.fresh.fromBoot = true)
    (late : (s.fresh.queue p.queue).lateItems = 0) (group : (s.fresh.queue p.queue).group = none) :
    hostExec c p s = .next (s.reacted (applyItem c p s.fresh)) := by
  have row : hostRow c p s = applyItem c p s.fresh := by
    change runItem c p s.fresh = _
    simp [runItem, boot, late, group]
  unfold hostExec
  rw [if_pos q, row]
  rfl

/-- A judged item with a status is refused with it. -/
theorem applyItem_refused {c : Command} {p : Packet} {h : Head} {status : Nat} (j : judge c .queue p h = some status) :
    applyItem c p h = refuseItem c status p h := by
  unfold applyItem
  rw [j]

/-- A refusal that counts nothing, of an item whose headers and MACs are right, is its reply and the session's move (R430). -/
theorem refuseItem_uncounted {c : Command} {p : Packet} {h : Head} {status : Nat} (headers : headersBad p = false)
    (macs : macsOk c.opcode p h = true) (count : c.onRefuse = fun _ _ h => h) (epoch : status ≠ Status.epochStale) :
    refuseItem c status p h = (acceptPacket p h).answer p c.opcode status [] := by
  simp [refuseItem, forged, Head.validMac, countRefusal, headers, macs, count, epoch, hasMac]

/-- Settles O15: each of the five commands stands at stage 6 with nothing of its own before it, and the two that both heads
take have no condition that answers NOT_ACTIVE. -/
theorem standbyRefuses : Obligations.StandbyRefuses := by
  unfold Obligations.StandbyRefuses
  intro i c p s e
  constructor
  · intro o standby q boot late group headers macs len cls
    have judged : judge c .queue p s.fresh = some Status.notActive ∧ c.onRefuse = fun _ _ h => h := by
      obtain rfl | rfl | rfl | rfl | rfl := hostCommand_modeOpcode e o <;>
        exact ⟨judge_notActive headers macs rfl len rfl cls rfl rfl rfl standby, rfl⟩
    obtain ⟨refused, uncounted⟩ := judged
    rw [exec_hostCommand e, ungrouped_next q boot late group, applyItem_refused refused,
      refuseItem_uncounted headers macs uncounted (by decide)]
  · intro o
    obtain rfl | rfl := hostCommand_anyHeadOpcode e o
    · exact judge_ne_notActive rfl rfl
    · exact judge_ne_notActive rfl rfl

end Sys2Proof.Machine
end

section
/-! PROOF. Posting to the event ring on the PCIe route (R87, R88): an entry's length, where an entry goes, what a full
ring does, and the wake of a host in D3hot (R69). -/
namespace Sys2Proof.Machine

/-! ### An entry is 32 bytes (Table 03-12) -/

@[simp] theorem leBytes_length (n v : Nat) : (leBytes n v).length = n := by
  induction n generalizing v with
  | zero => rfl
  | succ n ih => simp [leBytes, ih]

@[simp] theorem padTo_length (n : Nat) (bs : List Byte) : (padTo n bs).length = n := by
  simp only [padTo, List.length_take, List.length_append, List.length_replicate]
  omega

theorem eventBytes_length (code source seq time cycle object : Nat) (phase : Bool) (data : List Byte) :
    (eventBytes code source seq time cycle object phase data).length = 32 := by
  simp [eventBytes, pack]

/-! ### The event queue -/

/-- On the PCIe route there is room unless ENABLE is 0 or EQ_TAIL + 1 = EQ_HEAD (R88). -/
theorem EventQueue.room_iff {e : EventQueue} (route : e.route = 0) :
    e.room = true ↔ e.enabled = true ∧ (e.tail + 1) % 4096 ≠ e.head := by
  simp [EventQueue.room, route]

@[simp] theorem Head.signal_evq (h : Head) (v : Nat) : (h.signal v).evq = h.evq := by
  unfold Head.signal
  split <;> rfl

@[simp] theorem Head.wakeHost_evq (h : Head) : h.wakeHost.evq = h.evq := by
  unfold Head.wakeHost
  split <;> rfl

theorem Head.writeEvent_evq {h : Head} (route : h.evq.route = 0) (code source time cycle object : Nat) (data : List Byte) :
    (h.writeEvent code source time cycle object data).evq = { h.evq with
      seq := (h.evq.seq + 1) % 2 ^ 32, tail := (h.evq.tail + 1) % 4096
      phase := if (h.evq.tail + 1) % 4096 = 0 then !h.evq.phase else h.evq.phase } := by
  unfold Head.writeEvent
  simp only [if_pos route, Head.signal_evq]
  rfl

/-! ### What leaves the head: nothing is taken back, and the entry is the first to leave -/

theorem Head.signal_sent (h : Head) (v : Nat) : h.sent <+: (h.signal v).sent := by
  unfold Head.signal
  split
  · exact List.prefix_append _ _
  · exact List.prefix_rfl

theorem Head.wakeHost_sent (h : Head) : h.sent <+: h.wakeHost.sent := by
  unfold Head.wakeHost
  split
  · exact List.prefix_append _ _
  · exact List.prefix_rfl

/-- The entry goes to the slot at EQ_TAIL with the SEQ and the PHASE in force (R87). -/
theorem Head.writeEvent_sent {h : Head} (route : h.evq.route = 0) (code source time cycle object : Nat) (data : List Byte) :
    h.sent ++ [.eventEntry h.evq.tail (eventBytes code source h.evq.seq time cycle object h.evq.phase data)] <+:
      (h.writeEvent code source time cycle object data).sent := by
  unfold Head.writeEvent
  simp only [if_pos route]
  refine List.IsPrefix.trans ?_ (Head.signal_sent _ _)
  exact List.prefix_rfl

theorem take_of_append_prefix {α : Type} {l m : List α} {x : α} (p : l ++ [x] <+: m) :
    m.take (l.length + 1) = l ++ [x] := by
  simpa using (List.prefix_iff_eq_take.mp p).symm

/-- Written and signalled, an entry is the first output to leave, whether or not the host is woken after it. -/
theorem Head.writeEvent_wakeHost_sent {h : Head} (route : h.evq.route = 0) (code source time cycle object : Nat)
    (data : List Byte) :
    (h.writeEvent code source time cycle object data).wakeHost.sent.take (h.sent.length + 1) =
      h.sent ++ [.eventEntry h.evq.tail (eventBytes code source h.evq.seq time cycle object h.evq.phase data)] :=
  take_of_append_prefix ((Head.writeEvent_sent route _ _ _ _ _ _).trans (Head.wakeHost_sent _))

/-! ### EVENTS_LOST -/

theorem Head.flushLost_of_noRoom {h : Head} (room : h.evq.room = false) : h.flushLost = h := by
  simp [Head.flushLost, room]

theorem Head.flushLost_of_noneLost {h : Head} (lost : h.evq.lost = 0) : h.flushLost = h := by
  simp [Head.flushLost, lost]

/-- After drops and with room, EVENTS_LOST carries the number and the time of the first drop, and the count starts again. -/
theorem Head.flushLost_of_lost {h : Head} (lost : h.evq.lost ≠ 0) (room : h.evq.room = true) :
    h.flushLost =
      let k := (h.writeEvent 0x0220 0 h.now h.time.cycle 0xFFFF (leBytes 4 h.evq.lost ++ leBytes 4 h.evq.firstLost)).wakeHost
      { k with evq := { k.evq with lost := 0, firstLost := 0 } } := by
  simp [Head.flushLost, lost, room, pack]

/-- EVENTS_LOST is written once: whatever room it leaves, nothing is lost before it any more. -/
theorem Head.flushLost_flushLost (h : Head) : h.flushLost.flushLost = h.flushLost := by
  by_cases lost : h.evq.lost = 0
  · rw [Head.flushLost_of_noneLost lost, Head.flushLost_of_noneLost lost]
  · cases room : h.evq.room with
    | false => rw [Head.flushLost_of_noRoom room, Head.flushLost_of_noRoom room]
    | true => exact Head.flushLost_of_noneLost (by rw [Head.flushLost_of_lost lost room])

/-! ### Posting, by the room there is -/

theorem Head.postAt_flushLost (h : Head) (code source object time cycle : Nat) (data : List Byte) :
    h.flushLost.postAt code source object time cycle data = h.postAt code source object time cycle data := by
  simp only [Head.postAt, Head.flushLost_flushLost]

theorem Head.postAt_of_noRoom {h : Head} (room : h.evq.room = false) (code source object time cycle : Nat)
    (data : List Byte) :
    h.postAt code source object time cycle data = Head.wakeHost { h with evq := { h.evq with
      seq := (h.evq.seq + 1) % 2 ^ 32, dropped := satInc (2 ^ 32 - 1) h.evq.dropped, overflow := true
      lost := satInc (2 ^ 32 - 1) h.evq.lost
      firstLost := if h.evq.lost = 0 then h.now % 2 ^ 32 else h.evq.firstLost } } := by
  simp [Head.postAt, Head.flushLost_of_noRoom room, room]

theorem Head.postAt_of_noneLost {h : Head} (lost : h.evq.lost = 0) (room : h.evq.room = true)
    (code source object time cycle : Nat) (data : List Byte) :
    h.postAt code source object time cycle data = (h.writeEvent code source time cycle object data).wakeHost := by
  simp [Head.postAt, Head.flushLost_of_noneLost lost, room]

/-! ### Waking the host (R69) -/

/-- WAKE_N as the next post leaves it: asserted already, or due in D3hot with PME enabled. -/
def Head.wakeDue (h : Head) : Bool := h.pcie.wakeN || (h.pcie.d3hot && h.pcie.pme)

theorem Head.wakeHost_wakeN (h : Head) : h.wakeHost.pcie.wakeN = h.wakeDue := by
  unfold Head.wakeHost Head.wakeDue
  split
  next due => rw [due, Bool.or_true]; rfl
  next due => rw [Bool.eq_false_iff.mpr due, Bool.or_false]

@[simp] theorem Head.signal_wakeDue (h : Head) (v : Nat) : (h.signal v).wakeDue = h.wakeDue := by
  unfold Head.signal
  split <;> rfl

@[simp] theorem Head.writeEvent_wakeDue (h : Head) (code source time cycle object : Nat) (data : List Byte) :
    (h.writeEvent code source time cycle object data).wakeDue = h.wakeDue := by
  unfold Head.writeEvent
  simp only
  split
  · exact Head.signal_wakeDue _ _
  · rfl

@[simp] theorem Head.wakeHost_wakeDue (h : Head) : h.wakeHost.wakeDue = h.wakeDue := by
  unfold Head.wakeHost
  split
  next due => simp [Head.wakeDue, Head.emit, due]
  next => rfl

@[simp] theorem Head.flushLost_wakeDue (h : Head) : h.flushLost.wakeDue = h.wakeDue := by
  unfold Head.flushLost
  split
  · exact (Head.wakeHost_wakeDue _).trans (Head.writeEvent_wakeDue _ _ _ _ _ _ _)
  · rfl

/-- A post, written or dropped, ends with the wake of the host. -/
theorem Head.postAt_wakeN (h : Head) (code source object time cycle : Nat) (data : List Byte) :
    (h.postAt code source object time cycle data).pcie.wakeN = h.wakeDue := by
  unfold Head.postAt
  simp only
  split
  · rw [Head.wakeHost_wakeN, Head.writeEvent_wakeDue, Head.flushLost_wakeDue]
  · exact (Head.wakeHost_wakeN _).trans (Head.flushLost_wakeDue h)

/-- Settles O20: without room a post is `postAt_of_noRoom`; with room after drops, EVENTS_LOST takes the entry and leaves a
head that has lost nothing; with room and nothing lost, the event takes it. -/
theorem eventPosting : Obligations.EventPosting := by
  unfold Obligations.EventPosting
  intro h code source object time cycle data route
  have roomIff := EventQueue.room_iff route
  refine ⟨?dropped, ?lost, ?posted, (Head.postAt_posts _ _ _ _ _ _ _).faults, Head.postAt_wakeN _ _ _ _ _ _ _⟩
  case dropped =>
    intro noRoom
    have room : h.evq.room = false := by
      rw [Bool.eq_false_iff, Ne, roomIff]
      rintro ⟨enabled, notFull⟩
      exact noRoom.elim (by simp [enabled]) notFull
    exact Head.postAt_of_noRoom room _ _ _ _ _ _
  case lost =>
    intro enabled notFull lost
    have flushed := Head.flushLost_of_lost lost (roomIff.mpr ⟨enabled, notFull⟩)
    refine ⟨by rw [flushed], ?_, ?_, (Head.postAt_flushLost _ _ _ _ _ _ _).symm⟩
    · simp only [flushed, Head.wakeHost_evq, Head.writeEvent_evq route]
    · rw [flushed]
      exact Head.writeEvent_wakeHost_sent route _ _ _ _ _ _
  case posted =>
    intro enabled notFull lost
    rw [Head.postAt_of_noneLost lost (roomIff.mpr ⟨enabled, notFull⟩), Head.wakeHost_evq, Head.writeEvent_evq route]
    exact ⟨rfl, rfl, Head.writeEvent_wakeHost_sent route _ _ _ _ _ _, eventBytes_length _ _ _ _ _ _ _ _⟩

end Sys2Proof.Machine
end

section
/-! PROOF. The 16-bit results of a conversion (R362, R365): two's complement words read back, and the word a code leaves in
either format. -/
namespace Sys2Proof.Machine

/-! ### Two's complement words -/

theorem ofSigned_lt (n : Nat) (v : Int) : ofSigned n v < 2 ^ n := by
  have pos := Nat.two_pow_pos n
  exact (Int.toNat_lt' pos).mpr (Int.emod_lt_of_pos v (mod_cast pos))

/-- A number that fits without a sign bit is its own word. -/
theorem ofSigned_of_nonneg {n : Nat} {v : Int} (lo : 0 ≤ v) (hi : v < (2 ^ n : Nat)) : (ofSigned n v : Int) = v := by
  rw [ofSigned, Int.emod_eq_of_lt lo hi, Int.toNat_of_nonneg lo]

/-- A negative number's word is the number moved up by the span. -/
theorem ofSigned_of_neg {n : Nat} {v : Int} (lo : -(2 ^ n : Nat) ≤ v) (neg : v < 0) :
    (ofSigned n v : Int) = v + (2 ^ n : Nat) := by
  rw [ofSigned, ← Int.add_emod_right, Int.emod_eq_of_lt (by omega) (by omega), Int.toNat_of_nonneg (by omega)]

/-- A number of `n + 1` bits with its sign comes back from its word. -/
theorem toSigned_ofSigned {n : Nat} {v : Int} (lo : -(2 ^ n : Nat) ≤ v) (hi : v < (2 ^ n : Nat)) :
    toSigned (n + 1) (ofSigned (n + 1) v) = v := by
  have span : 2 ^ (n + 1) = 2 ^ n + 2 ^ n := by rw [Nat.pow_succ]; omega
  simp only [toSigned, Nat.mod_eq_of_lt (ofSigned_lt _ _), Nat.add_sub_cancel]
  by_cases neg : v < 0
  · have word := ofSigned_of_neg (n := n + 1) (v := v) (by omega) neg
    rw [if_neg (by omega)]
    omega
  · have word := ofSigned_of_nonneg (n := n + 1) (v := v) (by omega) (by omega)
    rw [if_pos (by omega)]
    omega

/-! ### A code cut to its resolution and placed -/

theorem not_isTemperature_of_isDiff {c : Nat} (diff : isDiff c = true) : isTemperature c = false := by
  simp only [isDiff, isTemperature, Bool.and_eq_true, Bool.or_eq_false_iff, decide_eq_true_eq, decide_eq_false_iff_not] at *
  omega

/-- The number a 16-bit code is cut to by the resolution and placed as by the format (R365). -/
def AdcCfg.place (cfg : AdcCfg) (code : Int) : Int :=
  if cfg.left then code / 2 ^ (16 - cfg.res) * 2 ^ (16 - cfg.res) else code / 2 ^ (16 - cfg.res)

/-- The result of a channel that is no temperature is the word of the placed code. -/
theorem resultOf_of_not_temperature (cfg : AdcCfg) {c : Nat} (noTemp : isTemperature c = false) (code : Int) :
    resultOf cfg c code = ofSigned 16 (cfg.place code) := by
  have unitPos : (0 : Int) < 2 ^ (16 - cfg.res) := by positivity
  cases left : cfg.left with
  | true => simp [resultOf, truncated, AdcCfg.place, noTemp, left]
  | false => simp [resultOf, truncated, AdcCfg.place, noTemp, left, Int.mul_ediv_cancel _ unitPos.ne']

/-- The result of a temperature channel is the word of its code at every resolution and in both formats (R362). -/
theorem resultOf_temperature (cfg : AdcCfg) {c : Nat} (temp : isTemperature c = true) (code : Int) :
    resultOf cfg c code = ofSigned 16 code := by
  simp [resultOf, truncated, temp]

/-- A placed code stays in a span about 0 whose lower end the cut does not move. -/
theorem AdcCfg.place_mem {cfg : AdcCfg} {lo hi code : Int} (unitDvd : 2 ^ (16 - cfg.res) ∣ lo) (loNonpos : lo ≤ 0)
    (hiNonneg : 0 ≤ hi) (ge : lo ≤ code) (lt : code < hi) : lo ≤ cfg.place code ∧ cfg.place code < hi := by
  have unitPos : (0 : Int) < 2 ^ (16 - cfg.res) := by positivity
  unfold AdcCfg.place
  split
  · constructor
    · calc
        lo = lo / 2 ^ (16 - cfg.res) * 2 ^ (16 - cfg.res) := (Int.ediv_mul_cancel unitDvd).symm
        _ ≤ code / 2 ^ (16 - cfg.res) * 2 ^ (16 - cfg.res) :=
          Int.mul_le_mul_of_nonneg_right (Int.ediv_le_ediv unitPos ge) unitPos.le
    · exact (Int.ediv_mul_le code unitPos.ne').trans_lt lt
  · constructor
    · exact Int.le_ediv_of_mul_le unitPos ((mul_le_of_one_le_right loNonpos unitPos).trans ge)
    · exact Int.ediv_lt_of_lt_mul unitPos (lt.trans_le (le_mul_of_one_le_right hiNonneg unitPos))

/-- Settles O22: the placed code keeps to the span of its channel, so its 16-bit word reads back as the placed code, by its
sign on a differential channel and as it stands on any other. -/
theorem converterResult : Obligations.ConverterResult := by
  unfold Obligations.ConverterResult
  intro cfg channel code resGe _
  refine ⟨?differential, ?unsigned, ?temperature⟩
  case differential =>
    intro diff ge lt
    have unitDvd : (2 : Int) ^ (16 - cfg.res) ∣ -32768 := Int.dvd_neg.mpr (pow_dvd_pow 2 (n := 15) (by omega))
    obtain ⟨placeGe, placeLt⟩ := AdcCfg.place_mem unitDvd (by decide) (by decide) ge lt
    rw [resultOf_of_not_temperature cfg (not_isTemperature_of_isDiff diff), resultValue, if_pos diff]
    exact ⟨ofSigned_lt 16 _, toSigned_ofSigned placeGe placeLt⟩
  case unsigned =>
    intro noDiff noTemp ge lt
    obtain ⟨placeGe, placeLt⟩ := AdcCfg.place_mem (cfg := cfg) (dvd_zero _) le_rfl (by decide) ge lt
    rw [resultOf_of_not_temperature cfg noTemp, resultValue, noDiff]
    exact ⟨ofSigned_of_nonneg placeGe placeLt, rfl⟩
  case temperature =>
    intro temp ge lt
    rw [resultOf_temperature cfg temp]
    exact ofSigned_of_nonneg ge lt

end Sys2Proof.Machine
end

section
/-! PROOF. Claims (R375): how two compare, and the claim that a head carries. -/
namespace Sys2Proof.Machine

/-! ### Comparing two claims -/

/-- The epoch of a 16-bit claim needs no reduction modulo 4,096. -/
theorem claim_epoch_mod {c : Nat} (word : c < 65536) : c / 16 % 4096 = c / 16 :=
  Nat.mod_eq_of_lt (Nat.div_lt_of_lt_mul word)

/-- Two claims are at distance 0 just when their epochs are equal. -/
theorem epoch_distance_eq_zero_iff {c d : Nat} (wordC : c < 65536) (wordD : d < 65536) :
    (c / 16 + 4096 - d / 16) % 4096 = 0 ↔ c / 16 = d / 16 := by
  omega

/-- The distance of 2,048 is the same both ways. -/
theorem epoch_distance_half_symm {c d : Nat} (wordC : c < 65536) (wordD : d < 65536)
    (half : (c / 16 + 4096 - d / 16) % 4096 = 2048) : (d / 16 + 4096 - c / 16) % 4096 = 2048 := by
  omega

/-- One claim is greater by its epoch, or at equal epochs by its priority. -/
theorem claimGreater_iff {c d : Nat} (wordC : c < 65536) (wordD : d < 65536) : claimGreater c d = true ↔
    (1 ≤ (c / 16 + 4096 - d / 16) % 4096 ∧ (c / 16 + 4096 - d / 16) % 4096 ≤ 2047) ∨ (c / 16 = d / 16 ∧ d % 16 < c % 16) := by
  simp only [claimGreater, claim_epoch_mod wordC, claim_epoch_mod wordD, Bool.or_eq_true, Bool.and_eq_true,
    decide_eq_true_eq, epoch_distance_eq_zero_iff wordC wordD, gt_iff_lt]

/-- A claim 2,048 epochs ahead is not greater: neither ahead by less nor of the same epoch. -/
theorem claimGreater_of_half {c d : Nat} (wordC : c < 65536) (wordD : d < 65536)
    (half : (c / 16 + 4096 - d / 16) % 4096 = 2048) : claimGreater c d = false := by
  have apart : c / 16 ≠ d / 16 := by
    rw [Ne, ← epoch_distance_eq_zero_iff wordC wordD, half]
    decide
  rw [Bool.eq_false_iff, Ne, claimGreater_iff wordC wordD, half]
  rintro (⟨-, within⟩ | ⟨same, -⟩)
  · exact absurd within (by decide)
  · exact apart same

/-! ### The claim of a head -/

/-- A claim made of an epoch and a priority of four bits gives both back. -/
theorem claim_parts {epoch priority : Nat} (nibble : priority < 16) :
    (epoch * 16 + priority) / 16 = epoch ∧ (epoch * 16 + priority) % 16 = priority := by
  omega

/-- Settles O16: claims compare by `claimGreater_iff`, the distance of 2,048 is the same from either claim, and a head's claim
gives back its epoch and the priority of its row of Table 15-1. -/
theorem claimOrder : Obligations.ClaimOrder := by
  unfold Obligations.ClaimOrder
  refine ⟨?greater, ?half, ?own⟩
  case greater =>
    intro c d wordC wordD
    exact claimGreater_iff wordC wordD
  case half =>
    intro c d wordC wordD half
    exact ⟨claimGreater_of_half wordC wordD half,
      claimGreater_of_half wordD wordC (epoch_distance_half_symm wordC wordD half)⟩
  case own =>
    intro h
    unfold Head.claim
    cases h.commands <;> cases h.sys.home <;> exact claim_parts (by decide)

end Sys2Proof.Machine
end

section
/-! PROOF. Which commands stop the machine (log 82): a row of the table is a host command or an event, and either one stops
just where the object that it names is missing. -/
namespace Sys2Proof.Machine

/-! ### Every row is a host command or an event -/

/-- The cores that the debug rows name exist by tile and number (R435). -/
theorem coreOf_isSome (kind tile core : Nat) : (coreOf kind tile core).isSome =
    ((kind = 0 && tile < 16 && core < 4) || (kind = 1 && core < 4) || kind = 2) := by
  unfold coreOf
  split
  · split <;> simp_all
  · split <;> simp_all
  · rfl
  · simp_all

/-- A row that is no host command is an event on the objects that it names. -/
theorem exec_event {i : Instr} (e : hostCommand i = none) :
    ∃ f : Head → Head, ∀ s, exec i s = eventExec i.objects f s := by
  cases i with
  | debugHalt kind tile core => exact ⟨_, fun _ => congrArg (eventExec · _ _) (coreOf_isSome kind tile core)⟩
  | debugStep kind tile core => exact ⟨_, fun _ => congrArg (eventExec · _ _) (coreOf_isSome kind tile core)⟩
  | debugResume kind tile core => exact ⟨_, fun _ => congrArg (eventExec · _ _) (coreOf_isSome kind tile core)⟩
  | _ => cases e <;> exact ⟨_, fun _ => rfl⟩

/-- The object that a host command names is its queue. -/
theorem hostCommand_objects {i : Instr} {c : Command} {p : Packet} (e : hostCommand i = some (c, p)) :
    i.objects = decide (p.queue < 8) := by
  cases i <;> cases e <;> rfl

/-! ### What a row answers -/

/-- A row that names a missing object stops with the one fault. -/
theorem exec_of_missing {i : Instr} (missing : i.objects = false) (s : State) : exec i s = .fault .noSuchObject := by
  cases e : hostCommand i with
  | none =>
    obtain ⟨f, event⟩ := exec_event e
    rw [event, missing, event_stops]
  | some row =>
    rw [hostCommand_objects e, decide_eq_false_iff_not] at missing
    rw [exec_hostCommand e, host_stops _ _ _ missing]

/-- A row whose objects exist ends with the fault reactions to what it did, and leaves the queue of waiting commands. -/
theorem exec_reacted {i : Instr} (there : i.objects = true) (s : State) : ∃ k : Head, exec i s = .next (s.reacted k) := by
  cases e : hostCommand i with
  | none =>
    obtain ⟨f, event⟩ := exec_event e
    exact ⟨f s.fresh, by rw [event, there, event_next]⟩
  | some row =>
    obtain ⟨c, p⟩ := row
    rw [hostCommand_objects e, decide_eq_true_eq] at there
    exact ⟨hostRow c p s, by rw [exec_hostCommand e, hostExec, if_pos there, State.reacted]⟩

/-- Settles O4: a row whose objects exist ends as `exec_reacted` says, any other as `exec_of_missing` says. -/
theorem onlyMissingObjectsStop : Obligations.OnlyMissingObjectsStop := by
  unfold Obligations.OnlyMissingObjectsStop
  intro i s
  refine ⟨fun missing => exec_of_missing missing s, fun there => ?_⟩
  obtain ⟨k, next⟩ := exec_reacted there s
  exact ⟨k.settle, next⟩

/-- Settles O1. -/
theorem stepRunsFront : Obligations.StepRunsFront := by
  unfold Obligations.StepRunsFront
  intro i rest h
  rfl

/-- Settles O3: an idle step ticks, and a command whose objects exist runs and leaves the rest of the queue. -/
theorem wellQueuedStateRuns : Obligations.WellQueuedStateRuns := by
  unfold Obligations.WellQueuedStateRuns
  rintro ⟨h, pending⟩ queued
  cases pending with
  | nil => exact ⟨{ head := h.tick, pending := [] }, rfl, queued, rfl⟩
  | cons i rest =>
    obtain ⟨k, next⟩ := exec_reacted (queued i List.mem_cons_self) { head := h, pending := rest }
    exact ⟨_, (stepRunsFront i rest h).trans next, fun j waits => queued j (List.mem_cons_of_mem i waits), rfl⟩

end Sys2Proof.Machine
end

section
/-! PROOF. What the fault reactions leave in force (R97, R404, R409, R489), and that a tick of the time base keeps it. -/
namespace Sys2Proof.Machine

/-! ### Reaching SAFE -/

/-- `k` has the mode and the latches of `h`. -/
def Head.SameAlarm (h k : Head) : Prop := k.sys.mode = h.sys.mode ∧ k.faults.latches = h.faults.latches

theorem Head.SameAlarm.refl (h : Head) : h.SameAlarm h := ⟨rfl, rfl⟩

theorem Head.SameAlarm.trans {a b c : Head} (x : a.SameAlarm b) (y : b.SameAlarm c) : a.SameAlarm c :=
  ⟨y.1.trans x.1, y.2.trans x.2⟩

theorem Head.SameAlarm.of_eq {h k : Head} (sys : k.sys = h.sys) (faults : k.faults = h.faults) : h.SameAlarm k :=
  ⟨congrArg Sys.mode sys, congrArg Faults.latches faults⟩

theorem Head.SameAlarm.ite {h a b : Head} {P : Prop} [Decidable P] (x : h.SameAlarm a) (y : h.SameAlarm b) :
    h.SameAlarm (if P then a else b) := by
  split
  · exact x
  · exact y

theorem Head.PostsTo.sameAlarm {h k : Head} (x : h.PostsTo k) : h.SameAlarm k := .of_eq x.sys x.faults

theorem Head.setDebugLevel_sameAlarm (h : Head) (n : Nat) : h.SameAlarm (h.setDebugLevel n) := by
  unfold Head.setDebugLevel
  split
  · exact .refl h
  · exact .trans (.of_eq rfl rfl) (Head.post_posts _ _ _ _ _).sameAlarm

theorem Head.lowerDebug_sameAlarm (h : Head) : h.SameAlarm h.lowerDebug := by
  unfold Head.lowerDebug
  extract_lets token k
  have lowered : h.SameAlarm k := Head.setDebugLevel_sameAlarm h _
  split
  · exact lowered.trans (.of_eq rfl rfl)
  · exact lowered

theorem Head.renew_sameAlarm (h : Head) (was m : Mode) : h.SameAlarm (h.renew was m) := by
  unfold Head.renew Head.powerTiles
  split <;> split <;> exact ⟨rfl, rfl⟩

theorem Head.commitBoot_sameAlarm (h : Head) : h.SameAlarm h.commitBoot := by
  unfold Head.commitBoot
  split
  · exact .refl h
  · exact .of_eq rfl rfl

/-- The head that enters SAFE is in SAFE, with the latches that it had. -/
theorem Head.reachMode_safe (h : Head) (depth cause : Nat) (origin : Option (Nat × Nat)) :
    (h.reachMode .safe depth cause origin).sys.mode = .safe ∧
      (h.reachMode .safe depth cause origin).faults.latches = h.faults.latches := by
  unfold Head.reachMode
  extract_lets was src entered lowered captured acq paused committed commissioned stopped compute parked served
  have safe : entered.sys.mode = .safe ∧ entered.faults.latches = h.faults.latches := ⟨rfl, rfl⟩
  have low : entered.SameAlarm lowered := (Head.renew_sameAlarm entered was .safe).trans (Head.lowerDebug_sameAlarm _)
  have uncaptured : lowered.SameAlarm paused := by
    rw [show paused = { lowered with acq := paused.acq } by simp [paused, captured]]
    exact .of_eq rfl rfl
  have boot : paused.SameAlarm committed := .ite (Head.commitBoot_sameAlarm paused) (.refl paused)
  have elsewhere : served = committed := by simp [served, parked, stopped, commissioned]
  have posted : committed.SameAlarm (served.postMode cause origin) :=
    elsewhere ▸ (Head.post_posts _ _ _ _ _).sameAlarm
  obtain ⟨mode, latches⟩ := ((low.trans uncaptured).trans boot).trans posted
  exact ⟨mode.trans safe.1, latches.trans safe.2⟩

/-- The reaction of the mode leaves an S4 latch with SAFE, and every latch as it was. -/
theorem Head.settleMode_modeHeld (h : Head) : h.settleMode.modeHeld ∧ h.settleMode.faults.latches = h.faults.latches := by
  unfold Head.settleMode
  split
  next due =>
    obtain ⟨safe, latches⟩ := Head.reachMode_safe
      { h.finish .transition Status.badState with
        sys := { h.sys with transition := none, waitingWake := false }
        net := { h.net with switch := h.net.switch.filter fun s => !s.park } } 0 8 none
    exact ⟨fun _ _ => safe, latches⟩
  next still =>
    refine ⟨fun s4 boot => ?_, rfl⟩
    by_contra notSafe
    exact still (by simp [s4, boot, notSafe])

theorem Head.settleMode_of_still {h : Head} (still : h.hasS4 = false ∨ h.fromBoot = false ∨ h.sys.mode = .safe) :
    h.settleMode = h := by
  unfold Head.settleMode
  rw [if_neg]
  rcases still with s | s | s <;> simp [s]

/-! ### Ranges -/

theorem Head.range_setRange_of_ne (h : Head) {r s : Nat} (apart : r ≠ s) (f : Range → Range) :
    (h.setRange r f).range s = h.range s := by
  simp [Head.setRange, Head.range, setAt, List.getD_eq_getElem?_getD, apart]

/-- A range that is in use is one of the list, so that a change to it shows. -/
theorem Head.range_setRange_same (h : Head) {r : Nat} (used : (h.range r).state ≠ .unused) (f : Range → Range) :
    (h.setRange r f).range r = f (h.range r) := by
  have there : r < h.ranges.length := by
    by_contra out
    rw [Head.range, List.getD_eq_default _ _ (not_lt.mp out)] at used
    exact used rfl
  simp [Head.setRange, Head.range, setAt, List.getD_eq_getElem?_getD, there]

theorem Head.MovesTo.range {h k : Head} (x : h.MovesTo k) (r : Nat) : k.range r = h.range r := by
  rw [Head.range, x.ranges, Head.range]

theorem Head.belayRange_eq (h : Head) (r : Nat) : ∃ k : Head, k.ranges = h.ranges ∧
    (k.setRange r fun x => { x with state := .belay, starting := false, stopping := false }).MovesTo (h.belayRange r) := by
  unfold Head.belayRange
  exact ⟨_, rfl, .foldl _ (fun h a => Head.dropAxis_moves h a) _ _⟩

/-- A range in use under an S3 or S4 latch stands in BELAY (R97, R409). -/
def Head.rangeHeld (h : Head) (r : Nat) : Prop :=
  (h.hasS3 r || h.hasS4) = true → (h.range r).state = .unused ∨ (h.range r).state = .belay

theorem Head.rangeHeld_congr {h k : Head} {r : Nat} (latches : k.faults.latches = h.faults.latches)
    (range : k.range r = h.range r) : k.rangeHeld r ↔ h.rangeHeld r := by
  unfold Head.rangeHeld
  rw [Head.hasS3_congr latches, Head.hasS4_congr latches, range]

/-- The reaction of a range leaves that range held. -/
theorem Head.settleRange_rangeHeld (h : Head) (r : Nat) : (h.settleRange r).rangeHeld r := by
  intro latched
  rw [Head.hasS3_congr (h := h) (congrArg _ (Head.settleRange_ranges h r).faults),
    Head.hasS4_congr (h := h) (congrArg _ (Head.settleRange_ranges h r).faults)] at latched
  unfold Head.settleRange
  simp only [latched, if_true]
  split
  next unused => exact .inl unused
  next used =>
    split
    next belay => exact .inr belay
    next =>
      obtain ⟨k, ranges, moves⟩ := Head.belayRange_eq h r
      have same : k.range r = h.range r := by rw [Head.range, ranges, Head.range]
      rw [moves.range, Head.range_setRange_same k (same ▸ used)]
      exact .inr rfl

/-- It touches no other range. -/
theorem Head.settleRange_range_of_ne (h : Head) {r s : Nat} (apart : r ≠ s) : (h.settleRange r).range s = h.range s := by
  unfold Head.settleRange
  simp only
  split
  · rfl
  · split
    · split
      · rfl
      · obtain ⟨k, ranges, moves⟩ := Head.belayRange_eq h r
        rw [moves.range, Head.range_setRange_of_ne k apart, Head.range, ranges, Head.range]
    · split
      · exact Head.range_setRange_of_ne h apart _
      · split
        · exact Head.range_setRange_of_ne h apart _
        · rfl

/-- Once every range of a list has reacted, those of the list are held. -/
theorem Head.foldl_settleRange_rangeHeld (rs : List Nat) (h : Head) (s : Nat) (due : s ∈ rs ∨ h.rangeHeld s) :
    (rs.foldl (fun (h : Head) r => h.settleRange r) h).rangeHeld s := by
  induction rs generalizing h with
  | nil => simpa using due
  | cons r rs ih =>
    refine ih _ ?_
    by_cases same : s = r
    · exact .inr (same ▸ Head.settleRange_rangeHeld h r)
    · refine due.imp (fun m => (List.mem_cons.mp m).resolve_left same) fun held => ?_
      exact (Head.rangeHeld_congr (congrArg _ (Head.settleRange_ranges h r).faults)
        (Head.settleRange_range_of_ne h (Ne.symm same))).mpr held

/-! ### What follows every command -/

/-- The reactions of ranges and axes, between those of the mode and of the outputs. -/
def Head.settleMotion (h : Head) : Head :=
  let k := (List.range 8).foldl (init := h) fun (h : Head) r => h.settleRange r
  (k.axes.map fun a => a.id).foldl (init := k) fun (h : Head) id => h.settleAxis id

theorem Head.settle_eq (h : Head) :
    h.settle = h.settleMode.settleMotion.belayOutputs.belaySteps.settleAlive.settleFence := rfl

theorem Head.settleMotion_ranges (h : Head) : h.RangesTo h.settleMotion :=
  (Head.RangesTo.foldl _ Head.settleRange_ranges _ h).trans
    (Head.MovesTo.foldl _ Head.settleAxis_moves _ _).rangesTo

theorem Head.settleMotion_rangesHeld (h : Head) : h.settleMotion.rangesHeld := by
  intro r lt
  have moves := Head.MovesTo.foldl _ Head.settleAxis_moves
    ((((List.range 8).foldl (init := h) fun (h : Head) r => h.settleRange r).axes).map fun a => a.id)
    ((List.range 8).foldl (init := h) fun (h : Head) r => h.settleRange r)
  exact (Head.rangeHeld_congr (congrArg _ moves.faults) (moves.range r)).mpr
    (Head.foldl_settleRange_rangeHeld _ h r (.inl (List.mem_range.mpr lt)))

/-- The reaction of ALIVE changes its own flags, and posts an event when ALIVE was running. -/
theorem Head.settleAlive_eq (h : Head) : ∃ run level armed e p o, h.settleAlive = { h with
    evq := e, pcie := p, sent := o
    faults := { h.faults with aliveRun := run, aliveLevel := level, kickArmed := armed } } := by
  unfold Head.settleAlive
  split
  · extract_lets run flags k
    split
    · obtain ⟨e, p, o, post⟩ := Head.post_posts k 0x0E04 4 0xFFFF []
      exact ⟨_, _, _, e, p, o, post⟩
    · exact ⟨_, _, _, _, _, _, rfl⟩
  · exact ⟨_, _, _, _, _, _, rfl⟩

/-- The last reactions change outputs, steppers, ALIVE, queues and fences, and post events. -/
theorem Head.settleOutputs_eq (h : Head) : ∃ pins steps run level armed e p o q f,
    h.belayOutputs.belaySteps.settleAlive.settleFence = { h with
      pins, steps, evq := e, pcie := p, sent := o, queues := q, fences := f
      faults := { h.faults with aliveRun := run, aliveLevel := level, kickArmed := armed } } := by
  obtain ⟨e, p, o, q, f, fence⟩ := Head.settleFence_eq h.belayOutputs.belaySteps.settleAlive
  obtain ⟨run, level, armed, e', p', o', alive⟩ := Head.settleAlive_eq h.belayOutputs.belaySteps
  rw [alive] at fence
  rw [alive, fence]
  exact ⟨_, _, run, level, armed, e, p, o, q, f, rfl⟩

/-- Settles O8: no mode change is due, and the reactions of motion and of outputs change other parts of the head. -/
theorem settleFrame : Obligations.SettleFrame := by
  unfold Obligations.SettleFrame
  intro h still
  obtain ⟨_, _, _, _, _, motion⟩ := Head.settleMotion_ranges h
  obtain ⟨_, _, _, _, _, _, _, _, _, _, outputs⟩ := Head.settleOutputs_eq h.settleMotion
  rw [Head.settle_eq, Head.settleMode_of_still still, outputs, motion]
  exact ⟨rfl, rfl, rfl, rfl, rfl, rfl, rfl, rfl, rfl, rfl, rfl, rfl, rfl, rfl, rfl, rfl, rfl, rfl, rfl, rfl, rfl, rfl⟩

theorem Head.modeHeld_congr {h k : Head} (latches : k.faults.latches = h.faults.latches) (sys : k.sys = h.sys) :
    k.modeHeld ↔ h.modeHeld := by
  unfold Head.modeHeld Head.fromBoot
  rw [Head.hasS4_congr latches, sys]

theorem Head.rangesHeld_congr {h k : Head} (latches : k.faults.latches = h.faults.latches) (ranges : k.ranges = h.ranges) :
    k.rangesHeld ↔ h.rangesHeld :=
  forall₂_congr fun r _ => Head.rangeHeld_congr latches (by rw [Head.range, ranges, Head.range])

/-- The reactions to a command leave an S4 latch with SAFE, and ranges under S3 and S4 latches in BELAY. -/
theorem Head.settle_modeAndRangesHeld (h : Head) : h.settle.modeHeld ∧ h.settle.rangesHeld := by
  have motion := Head.settleMotion_ranges h.settleMode
  obtain ⟨_, _, _, _, _, _, _, _, _, _, outputs⟩ := Head.settleOutputs_eq h.settleMode.settleMotion
  have latches : h.settle.faults.latches = h.settleMode.settleMotion.faults.latches := by rw [Head.settle_eq, outputs]
  have sys : h.settle.sys = h.settleMode.settleMotion.sys := by rw [Head.settle_eq, outputs]
  have ranges : h.settle.ranges = h.settleMode.settleMotion.ranges := by rw [Head.settle_eq, outputs]
  exact ⟨(Head.modeHeld_congr (latches.trans (congrArg _ motion.faults)) (sys.trans motion.sys)).mpr
      (Head.settleMode_modeHeld h).1,
    (Head.rangesHeld_congr latches ranges).mpr (Head.settleMotion_rangesHeld h.settleMode)⟩

/-! ### A tick of the time base: pulses that end (R465) -/

/-- One ball's pulse ends when its width has passed. -/
def Head.endPulse (h : Head) (k : Nat) : Head :=
  if (h.pin k).pulseEnd.any fun t => t ≤ h.now then
    (h.emit (.pinEdge k false)).setPin k fun p => { p with drives := some false, pulseEnd := none }
  else h

theorem Head.endPulses_eq (h : Head) : h.endPulses = (List.range 40).foldl (fun h k => h.endPulse k) h := rfl

/-- `k` is `h` but for its general-purpose balls and the outputs. -/
def Head.PulsesTo (h k : Head) : Prop := ∃ gp o, k = { h with pins := { h.pins with gp := gp }, sent := o }

theorem Head.endPulse_pulses (h : Head) (k : Nat) : h.PulsesTo (h.endPulse k) := by
  unfold Head.endPulse
  split
  · exact ⟨_, _, rfl⟩
  · exact ⟨_, _, rfl⟩

theorem Head.PulsesTo.trans {a b c : Head} (x : a.PulsesTo b) (y : b.PulsesTo c) : a.PulsesTo c := by
  obtain ⟨_, _, rfl⟩ := x
  obtain ⟨_, _, rfl⟩ := y
  exact ⟨_, _, rfl⟩

theorem Head.endPulses_pulses (h : Head) : h.PulsesTo h.endPulses := by
  rw [Head.endPulses_eq]
  generalize List.range 40 = ks
  induction ks generalizing h with
  | nil => exact ⟨_, _, rfl⟩
  | cons k ks ih => exact (Head.endPulse_pulses h k).trans (ih _)

/-- A ball whose group stands in belay has no pulse to end. -/
theorem Head.endPulse_ballsHeld {h : Head} (held : h.ballsHeld) (k : Nat) : (h.endPulse k).ballsHeld := by
  unfold Head.endPulse
  split
  next due =>
    intro j p there belayed
    simp only [Head.setPin, Head.emit, setAt, List.getElem?_modify] at there
    obtain ⟨q, old, rfl⟩ := Option.map_eq_some_iff.mp there
    have quiet := held j q old belayed
    by_cases same : k = j
    · subst same
      simp [Head.pin, old, quiet] at due
    · simp only [same, if_false]
      exact quiet
  next => exact held

theorem Head.endPulses_ballsHeld {h : Head} (held : h.ballsHeld) : h.endPulses.ballsHeld := by
  rw [Head.endPulses_eq]
  generalize List.range 40 = ks
  induction ks generalizing h with
  | nil => exact held
  | cons k ks ih => exact ih (Head.endPulse_ballsHeld held k)

/-! ### A tick of the time base: PWM periods that begin (R322) -/

/-- The bridge of one local channel computes its duties when a PWM period begins. -/
def Head.pwmPeriod (h : Head) (before n : Nat) : Head :=
  match h.axes.find? fun a => a.localStep && a.stepChannel = n with
  | none => h
  | some a =>
    let period := max (a.step.cfg.pwmPeriod * 10) 1
    if a.step.cfg.mode ≠ 1 || h.stepHeldLow a || h.now / period = before / period then h
    else
      let c := h.steps.getD n {}
      let (duty, limited) := h.coilDuties a (c.accAt (h.now / period * period)) c.vel
      let h : Head := { h with steps := setAt n (fun c => { c with duty }) h.steps }
      if limited then h.setStep a.id fun s => { s with flags := s.flags ||| 0x200 } else h

theorem Head.pwmPeriods_eq (h : Head) (before : Nat) :
    h.pwmPeriods before = (List.range 8).foldl (fun h n => h.pwmPeriod before n) h := rfl

/-- An axis without its stepper flags. -/
def Axis.unflagged (a : Axis) : Axis := { a with step := { a.step with flags := 0 } }

/-- `k` is `h` but for stepper channels and the stepper flags of axes. -/
def Head.PwmTo (h k : Head) : Prop :=
  ∃ steps axes, k = { h with steps := steps, axes := axes } ∧ axes.map Axis.unflagged = h.axes.map Axis.unflagged

theorem Head.PwmTo.refl (h : Head) : h.PwmTo h := ⟨h.steps, h.axes, rfl, rfl⟩

theorem Head.PwmTo.trans {a b c : Head} (x : a.PwmTo b) (y : b.PwmTo c) : a.PwmTo c := by
  obtain ⟨_, _, rfl, flags⟩ := x
  obtain ⟨_, _, rfl, flags'⟩ := y
  exact ⟨_, _, rfl, flags'.trans flags⟩

theorem Head.setStep_flags_pwm (h : Head) (id : Nat) (f : BitVec 16 → BitVec 16) :
    h.PwmTo (h.setStep id fun s => { s with flags := f s.flags }) := by
  refine ⟨h.steps, _, rfl, ?_⟩
  rw [List.map_map]
  refine List.map_congr_left fun a _ => ?_
  rw [Function.comp_apply]
  split <;> rfl

/-- A period that begins gives its channel a new duty, unless the channel is held low. -/
theorem Head.pwmPeriod_cases (h : Head) (before n : Nat) : h.pwmPeriod before n = h ∨
    ∃ a, (h.axes.find? fun a => a.localStep && a.stepChannel = n) = some a ∧ h.stepHeldLow a = false ∧
      (∀ m ≠ n, (h.pwmPeriod before n).steps[m]? = h.steps[m]?) ∧ h.PwmTo (h.pwmPeriod before n) := by
  unfold Head.pwmPeriod
  split
  next => exact .inl rfl
  next a channel =>
    extract_lets period c
    split
    next => exact .inl rfl
    next due =>
      have free : h.stepHeldLow a = false := by
        by_contra held
        exact due (by simp [held])
      split
      next duty limited computed =>
        extract_lets k
        have duties : h.PwmTo k := ⟨_, _, rfl, rfl⟩
        have others : ∀ m ≠ n, k.steps[m]? = h.steps[m]? := fun m apart => by
          simp [k, setAt, apart.symm]
        refine .inr ⟨a, channel, free, ?_⟩
        split
        · exact ⟨others, duties.trans (Head.setStep_flags_pwm k a.id (· ||| 0x200))⟩
        · exact ⟨others, duties⟩

theorem Head.pwmPeriod_pwm (h : Head) (before n : Nat) : h.PwmTo (h.pwmPeriod before n) := by
  obtain same | ⟨_, _, _, _, pwm⟩ := Head.pwmPeriod_cases h before n
  · exact same.symm ▸ .refl h
  · exact pwm

theorem Head.pwmPeriods_pwm (h : Head) (before : Nat) : h.PwmTo (h.pwmPeriods before) := by
  rw [Head.pwmPeriods_eq]
  generalize List.range 8 = ns
  induction ns generalizing h with
  | nil => exact .refl h
  | cons n ns ih => exact (Head.pwmPeriod_pwm h before n).trans (ih _)

/-- A local channel must be held low: its axis is, or it has none. -/
def Head.channelLow (h : Head) (n : Nat) : Bool :=
  (h.axes.find? fun a => a.localStep && a.stepChannel = n).all fun a => h.stepHeldLow a

/-- Flags aside, the axes alone say which channels must be low. -/
theorem Head.channelLow_unflagged (h : Head) (n : Nat) : h.channelLow n =
    ((h.axes.map Axis.unflagged).find? fun a => a.localStep && a.stepChannel = n).all fun a => h.stepHeldLow a := by
  rw [List.find?_map, Option.all_map]
  rfl

theorem Head.PwmTo.channelLow {h k : Head} (x : h.PwmTo k) (n : Nat) : k.channelLow n = h.channelLow n := by
  obtain ⟨_, axes, rfl, flags⟩ := x
  rw [Head.channelLow_unflagged, Head.channelLow_unflagged h, ← flags]
  rfl

theorem Head.pwmPeriod_stepsHeld {h : Head} (held : h.stepsHeld) (before n : Nat) : (h.pwmPeriod before n).stepsHeld := by
  obtain same | ⟨a, channel, free, others, pwm⟩ := Head.pwmPeriod_cases h before n
  · exact same.symm ▸ held
  · intro m c there low
    have low : h.channelLow m = true := (pwm.channelLow m).symm.trans low
    by_cases same : n = m
    · subst same
      simp [Head.channelLow, channel, free] at low
    · exact held m c (others m (Ne.symm same) ▸ there) low

theorem Head.pwmPeriods_stepsHeld {h : Head} (held : h.stepsHeld) (before : Nat) : (h.pwmPeriods before).stepsHeld := by
  rw [Head.pwmPeriods_eq]
  generalize List.range 8 = ns
  induction ns generalizing h with
  | nil => exact held
  | cons n ns ih => exact ih (Head.pwmPeriod_stepsHeld held before n)

/-! ### A tick keeps what the reactions left -/

/-- The head at the next tick of its time base, before pulses and PWM periods. -/
def Head.nextTick (h : Head) : Head :=
  { h with sent := [], time := { h.time with head := (h.time.head + h.time.incr) % 2 ^ 96 } }

/-- A tick moves head time, ends pulses and begins PWM periods, or finds a part that does not run. -/
theorem Head.tick_cases (h : Head) : h.tick = { h with sent := [] } ∨ h.tick = h.nextTick.endPulses.pwmPeriods h.now := by
  unfold Head.tick
  extract_lets k now
  split
  · exact .inr rfl
  · exact .inl rfl

theorem Head.endPulses_outputsHeld {h : Head} (held : h.outputsHeld) : h.endPulses.outputsHeld := by
  obtain ⟨fields, balls, steps, alive⟩ := held
  have ended : h.endPulses.ballsHeld := Head.endPulses_ballsHeld balls
  obtain ⟨_, _, pulses⟩ := Head.endPulses_pulses h
  rw [pulses] at ended ⊢
  exact ⟨fields, ended, steps, alive⟩

theorem Head.pwmPeriods_outputsHeld {h : Head} (held : h.outputsHeld) (before : Nat) :
    (h.pwmPeriods before).outputsHeld := by
  obtain ⟨fields, balls, steps, alive⟩ := held
  have begun : (h.pwmPeriods before).stepsHeld := Head.pwmPeriods_stepsHeld steps before
  obtain ⟨_, _, pwm, -⟩ := Head.pwmPeriods_pwm h before
  rw [pwm] at begun ⊢
  exact ⟨fields, balls, begun, alive⟩

theorem Head.tick_outputsHeld {h : Head} (held : h.outputsHeld) : h.tick.outputsHeld := by
  obtain ⟨fields, balls, steps, alive⟩ := held
  obtain still | ticks := Head.tick_cases h
  · rw [still]
    exact ⟨fields, balls, steps, alive⟩
  · have next : h.nextTick.outputsHeld := ⟨fields, balls, steps, alive⟩
    exact ticks ▸ Head.pwmPeriods_outputsHeld (Head.endPulses_outputsHeld next) h.now

theorem Head.tick_alarm (h : Head) : h.tick.faults = h.faults ∧ h.tick.sys = h.sys ∧ h.tick.ranges = h.ranges := by
  obtain still | ticks := Head.tick_cases h
  · rw [still]
    exact ⟨rfl, rfl, rfl⟩
  · obtain ⟨_, _, pulses⟩ := Head.endPulses_pulses h.nextTick
    obtain ⟨_, _, pwm, -⟩ := Head.pwmPeriods_pwm h.nextTick.endPulses h.now
    rw [ticks, pwm, pulses]
    exact ⟨rfl, rfl, rfl⟩

/-! ### Every step -/

/-- A step that answers is a tick, or a command with the reactions to it. -/
theorem step_next_cases {s t : State} (next : step s = .next t) :
    t.head = s.head.tick ∨ ∃ k : Head, t.head = k.settle := by
  obtain ⟨h, pending⟩ := s
  cases pending with
  | nil => cases next; exact .inl rfl
  | cons i rest =>
    change exec i { head := h, pending := rest } = .next t at next
    cases there : i.objects with
    | false => rw [exec_of_missing there] at next; cases next
    | true =>
      obtain ⟨k, runs⟩ := exec_reacted there { head := h, pending := rest }
      cases runs.symm.trans next
      exact .inr ⟨k, rfl⟩

/-- Settles O6: the reactions hold the outputs whatever a command did, and a tick keeps them held. -/
theorem stepKeepsOutputsHeld : Obligations.StepKeepsOutputsHeld := by
  unfold Obligations.StepKeepsOutputsHeld
  intro s t held next
  obtain tick | ⟨k, settled⟩ := step_next_cases next
  · exact tick ▸ Head.tick_outputsHeld held
  · exact settled ▸ Head.settle_outputsHeld k

/-- Settles O7: the reactions leave modes and ranges held whatever a command did, and a tick changes neither them nor a
latch. -/
theorem stepKeepsModeAndRanges : Obligations.StepKeepsModeAndRanges := by
  unfold Obligations.StepKeepsModeAndRanges
  intro s t mode ranges next
  obtain tick | ⟨k, settled⟩ := step_next_cases next
  · obtain ⟨sameFaults, sameSys, sameRanges⟩ := Head.tick_alarm s.head
    have latches := congrArg Faults.latches sameFaults
    rw [tick]
    exact ⟨(Head.modeHeld_congr latches sameSys).mpr mode, (Head.rangesHeld_congr latches sameRanges).mpr ranges⟩
  · exact settled ▸ Head.settle_modeAndRangesHeld k

end Sys2Proof.Machine
end

section
/-! PROOF. Little-endian fields read back (R4), and with them a SETTING of the mirror (R382) and a frame (R148-R150). -/
namespace Sys2Proof.Machine

/-! ### A field of a packed string -/

theorem leNat_leBytes (n v : Nat) : leNat (leBytes n v) = v % 256 ^ n := by
  induction n generalizing v with
  | zero => simp [leBytes, leNat, Nat.mod_one]
  | succ n ih =>
    rw [leBytes, leNat, ih, BitVec.toNat_ofNat, pow_succ' 256 n]
    exact Nat.mod_mul.symm

/-- The field at the front. -/
theorem field_leBytes_append (n v : Nat) (bs : List Byte) : field (leBytes n v ++ bs) 0 n = v % 256 ^ n := by
  rw [field, List.drop_zero, List.take_left' (leBytes_length n v), leNat_leBytes]

/-- A field further back is a field of what follows. -/
theorem field_append_of_le {as : List Byte} {o : Nat} (le : as.length ≤ o) (bs : List Byte) (n : Nat) :
    field (as ++ bs) o n = field bs (o - as.length) n := by
  rw [field, List.drop_append, List.drop_of_length_le le, List.nil_append, field]

theorem drop_append_of_le {as : List Byte} {o : Nat} (le : as.length ≤ o) (bs : List Byte) :
    (as ++ bs).drop o = bs.drop (o - as.length) := by
  rw [List.drop_append, List.drop_of_length_le le, List.nil_append]

theorem zeros_append_of_le {as : List Byte} {o : Nat} (le : as.length ≤ o) (bs : List Byte) (n : Nat) :
    zeros (as ++ bs) o n = zeros bs (o - as.length) n := by
  rw [zeros, field_append_of_le le, zeros]

/-! ### A SETTING of the mirror -/

/-- The header of a packet reads back, with what follows it (Table 03-7). -/
theorem readPacket_pack (q opcode length tag target flags session sequence : Nat) (body : List Byte)
    (opcodeLt : opcode < 256 ^ 2) (lengthLt : length < 256 ^ 2) (tagLt : tag < 256 ^ 4) (targetLt : target < 256 ^ 2)
    (flagsLt : flags < 256 ^ 1) (sessionLt : session < 256 ^ 1) (sequenceLt : sequence < 256 ^ 4)
    (fits : body.length = length) :
    readPacket q (pack [(2, opcode), (2, length), (4, tag), (2, target), (1, flags), (1, session), (4, sequence)] ++ body) =
      (opcode, { queue := q, tag, target, flags, session, sequence, length, body }) := by
  have whole : body.take (length + (if hasMac flags then 16 else 0)) = body := List.take_of_length_le (by omega)
  simp only [readPacket, pack, List.append_assoc, List.nil_append, field_leBytes_append, field_append_of_le,
    drop_append_of_le, leBytes_length, Nat.reduceLeDiff, Nat.reduceSub, Nat.sub_self, List.drop_zero, le_refl,
    Nat.mod_eq_of_lt, opcodeLt, lengthLt, tagLt, targetLt, flagsLt, sessionLt, sequenceLt, whole]

/-- Settles O19: the fields before the packet read back one after the other, and the packet by `readPacket_pack`. -/
theorem settingRoundTrip : Obligations.SettingRoundTrip := by
  unfold Obligations.SettingRoundTrip
  rintro ⟨seq, effect, opcode, q, tag, target, flags, session, sequence, length, body, rest⟩
    seqLt effectLt opcodeLt rfl tagLt targetLt flagsLt sessionLt sequenceLt lengthLt fits rfl
  have whole : body.take length = body := List.take_of_length_le fits.le
  have packet := readPacket_pack 0 opcode length tag target flags session sequence body opcodeLt lengthLt tagLt targetLt
    flagsLt sessionLt sequenceLt fits
  have bytes : Setting.bytes ⟨seq, effect, opcode, 0, tag, target, flags, session, sequence, length, body, []⟩ =
      leBytes 4 seq ++ (leBytes 6 effect ++ (leBytes 2 0 ++
        (pack [(2, opcode), (2, length), (4, tag), (2, target), (1, flags), (1, session), (4, sequence)] ++ body))) := by
    simp [Setting.bytes, prm, pack, whole]
  have seqLt' : seq < 256 ^ 4 := seqLt
  have effectLt' : effect < 256 ^ 6 := effectLt
  simp only [readSetting, bytes, drop_append_of_le, field_append_of_le, field_leBytes_append, zeros, leBytes_length,
    Nat.reduceLeDiff, Nat.reduceSub, List.drop_zero, le_refl, packet, Nat.mod_eq_of_lt, seqLt', effectLt']
  rw [if_pos (by simp [pack, fits]; omega)]

/-! ### Code groups (R146, R147) -/

/-- The symbols that code groups stand for. -/
def codedSymbols : List Symbol :=
  ((List.range 256).map fun n => Symbol.data (BitVec.ofNat 8 n))
    ++ [0xFB, 0xFD, 0xF7, 0xBC].map fun b => Symbol.special (BitVec.ofNat 8 b)

/-- The place of a block in its table, where it stands as it is or inverted. -/
def blockIndex (blocks : List Nat) (top v : Nat) : Nat :=
  if v ∈ blocks then blocks.idxOf v else blocks.idxOf (top - v)

/-- The symbol of a code group, read from the places of its two blocks: K28.5 has a six-bit block of its own, and of the data
bytes Dx.7 none with x = 23, 27 or 29 has the four-bit block of K23.7, K27.7 and K29.7. -/
def groupSymbol (g : CodeGroup) : Symbol :=
  let six := g.toNat / 16
  let four := g.toNat % 16
  let x := blockIndex sixBlocks 63 six
  let y := min 7 (blockIndex fourBlocks 15 four)
  if six = 0b001111 ∨ six = 0b110000 then .special 0xBC
  else if (four = 0b0111 ∨ four = 0b1000) ∧ (x = 23 ∨ x = 27 ∨ x = 29) then .special (BitVec.ofNat 8 (32 * y + x))
  else .data (BitVec.ofNat 8 (32 * y + x))

theorem groupSymbol_encodeSymbol : ∀ s ∈ codedSymbols, ∀ positive, groupSymbol (encodeSymbol positive s).1 = s := by
  decide +kernel

theorem decodeGroup_eq (g : CodeGroup) : decodeGroup g =
    codedSymbols.find? fun s => (encodeSymbol false s).1 = g || (encodeSymbol true s).1 = g := rfl

/-- A group is read as a symbol that is sent as it. -/
theorem encodeSymbol_of_decodeGroup {g : CodeGroup} {s : Symbol} (read : decodeGroup g = some s) :
    s ∈ codedSymbols ∧ ∃ positive, (encodeSymbol positive s).1 = g := by
  rw [decodeGroup_eq] at read
  have sent := List.find?_some read
  rw [Bool.or_eq_true, decide_eq_true_eq, decide_eq_true_eq] at sent
  exact ⟨List.mem_of_find?_eq_some read, sent.elim (⟨false, ·⟩) (⟨true, ·⟩)⟩

/-- Under either disparity a code group stands for its symbol alone. -/
theorem decodeGroup_encodeSymbol {s : Symbol} (coded : s ∈ codedSymbols) (positive : Bool) :
    decodeGroup (encodeSymbol positive s).1 = some s := by
  have valid : (decodeGroup (encodeSymbol positive s).1).isSome := by
    rw [decodeGroup_eq]
    exact List.find?_isSome.mpr ⟨s, coded, by cases positive <;> simp⟩
  obtain ⟨t, read⟩ := Option.isSome_iff_exists.mp valid
  obtain ⟨codedT, disparity, sent⟩ := encodeSymbol_of_decodeGroup read
  rw [read, ← groupSymbol_encodeSymbol t codedT disparity, sent, groupSymbol_encodeSymbol s coded]

theorem encodeAll_decodes {symbols : List Symbol} (coded : ∀ s ∈ symbols, s ∈ codedSymbols) (positive : Bool) :
    (encodeAll positive symbols).1.map decodeGroup = symbols.map some := by
  induction symbols generalizing positive with
  | nil => rfl
  | cons s rest ih =>
    obtain ⟨first, later⟩ := List.forall_mem_cons.mp coded
    simp only [encodeAll, List.map_cons, decodeGroup_encodeSymbol first, ih later]

theorem data_mem_codedSymbols (b : Byte) : .data b ∈ codedSymbols :=
  List.mem_append_left _ (List.mem_map.mpr ⟨b.toNat, List.mem_range.mpr b.isLt, by simp⟩)

theorem framed_coded (bytes : List Byte) : ∀ s ∈ framed bytes, s ∈ codedSymbols := by
  have specials : ∀ b ∈ [0xFB, 0xFD, 0xF7], Symbol.special b ∈ codedSymbols := by
    intro b m
    exact List.mem_append_right _ (by fin_cases m <;> decide)
  intro s m
  simp only [framed, List.mem_append, List.mem_cons, List.mem_map, List.not_mem_nil, or_false] at m
  obtain ((rfl | rfl) | ⟨b, -, rfl⟩) | rfl | rfl := m
  · exact specials _ (by decide)
  · exact data_mem_codedSymbols _
  · exact data_mem_codedSymbols b
  · exact specials _ (by decide)
  · exact specials _ (by decide)

/-! ### A frame -/

theorem crcShift_lt (k : Nat) {c : Nat} (lt : c < 2 ^ 32) : crcShift k c < 2 ^ 32 := by
  induction k generalizing c with
  | zero => exact lt
  | succ k ih =>
    have half : c / 2 < 2 ^ 32 := by omega
    refine ih ?_
    split
    · exact Nat.xor_lt_two_pow half (by decide)
    · exact half

theorem crc32_lt (bs : List Byte) : crc32 bs < 256 ^ 4 := by
  have register : ∀ c < 2 ^ 32, bs.foldl (fun c b => crcShift 8 (c ^^^ b.toNat)) c < 2 ^ 32 := by
    induction bs with
    | nil => exact fun c lt => lt
    | cons b bs ih =>
      intro c lt
      exact ih _ (crcShift_lt 8 (Nat.xor_lt_two_pow lt (b.isLt.trans (by decide))))
  exact Nat.xor_lt_two_pow (register _ (by decide)) (by decide)

theorem crc_reads_back (bs : List Byte) : field (withCrc bs) bs.length 4 = crc32 bs := by
  rw [withCrc, field_append_of_le le_rfl, Nat.sub_self, ← List.append_nil (leBytes _ _), field_leBytes_append,
    Nat.mod_eq_of_lt (crc32_lt bs)]

/-- A string whose LENGTH counts what stands behind its 12 bytes of header has no line error behind a check. -/
theorem lineError_withCrc {bs : List Byte} (header : 12 ≤ bs.length) (length : bs.length = 12 + field bs 8 2) :
    lineError (withCrc bs) false = .none := by
  have total : (withCrc bs).length = bs.length + 4 := by simp [withCrc]
  have same : field (withCrc bs) 8 2 = field bs 8 2 := by
    rw [withCrc, field, List.drop_append_of_le_length (by omega),
      List.take_append_of_le_length (by rw [List.length_drop]; omega), field]
  have front : (withCrc bs).take bs.length = bs := List.take_left
  unfold lineError
  rw [if_neg (by simp), if_neg (by simp [total, same]; omega), total, Nat.add_sub_cancel, if_neg (by simp [front, crc_reads_back])]

/-- The header of a frame (Table 06-1). -/
def Head.frameHeaderBytes (h : Head) (type flags addr channel length : Nat) : List Byte :=
  pack [(1, type * 16 + flags), (2, addr + 1024 * channel), (2, h.claim), (3, h.time.cycle), (2, length), (2, 0)]

theorem Head.frame_eq (h : Head) (type flags addr channel : Nat) (payload : List Byte) :
    h.frame type flags addr channel payload =
      withCrc (h.frameHeaderBytes type flags addr channel payload.length ++ payload) := rfl

@[simp] theorem Head.frameHeaderBytes_length (h : Head) (type flags addr channel length : Nat) :
    (h.frameHeaderBytes type flags addr channel length).length = 12 := by
  simp [Head.frameHeaderBytes, pack]

/-- LENGTH of a header, whatever follows. -/
theorem Head.field_frameHeaderBytes_length (h : Head) (type flags addr channel : Nat) {length : Nat} (lt : length < 65536)
    (rest : List Byte) : field (h.frameHeaderBytes type flags addr channel length ++ rest) 8 2 = length := by
  simp only [Head.frameHeaderBytes, pack, List.append_assoc, field_append_of_le, field_leBytes_append, leBytes_length,
    Nat.reduceLeDiff, Nat.reduceSub, Nat.reducePow, Nat.mod_eq_of_lt lt]

/-- The fields of a header read back, whatever follows. -/
theorem Head.frameHeader_frameHeaderBytes (h : Head) {type flags addr channel length : Nat} (typeLt : type < 16)
    (flagsLt : flags < 16) (addrLt : addr < 1024) (channelLt : channel < 2) (lengthLt : length < 65536)
    (claimLt : h.claim < 65536) (rest : List Byte) :
    frameHeader (h.frameHeaderBytes type flags addr channel length ++ rest) =
      { type, flags, addr, channel, claim := h.claim, cycle := h.time.cycle % 2 ^ 24, length
        reserved := flags &&& (15 - typeFlags type) = 0 } := by
  simp only [frameHeader, Head.frameHeaderBytes, pack, List.append_assoc, field_append_of_le, field_leBytes_append, leBytes_length,
    Nat.reduceLeDiff, Nat.reduceSub, Nat.reducePow]
  have t : (type * 16 + flags) % 256 / 16 = type := by omega
  have f : (type * 16 + flags) % 256 % 16 = flags := by omega
  have a : (addr + 1024 * channel) % 65536 = addr + 1024 * channel := by omega
  have n : (addr + 1024 * channel) % 1024 = addr := by omega
  have c : (addr + 1024 * channel) / 1024 % 2 = channel := by omega
  have r : addr + 1024 * channel < 2048 := by omega
  simp [t, f, a, n, r, bits, c, Nat.mod_eq_of_lt lengthLt, Nat.mod_eq_of_lt claimLt]

/-- Settles O18: the check is the frame's own, the header's fields read back one after the other, and every code group stands
for its symbol alone. -/
theorem frameRoundTrip : Obligations.FrameRoundTrip := by
  unfold Obligations.FrameRoundTrip
  intro h type flags addr channel payload typeLt flagsLt addrLt channelLt payloadLt claimLt
  have length := h.field_frameHeaderBytes_length type flags addr channel payloadLt
  rw [Head.frame_eq]
  refine ⟨lineError_withCrc (by simp) (by simp [length]), ?_, ?_, ?_⟩
  · rw [framePayload, withCrc, List.append_assoc, length]
    simp
  · rw [withCrc, List.append_assoc, h.frameHeader_frameHeaderBytes typeLt flagsLt addrLt channelLt payloadLt claimLt]
  · exact ⟨_, rfl, encodeAll_decodes (framed_coded payload) _⟩

end Sys2Proof.Machine
end

section
/-! PROOF. How the head takes an item: the order of refusals (R83), what a refusal and a forgery leave alone (R82, R83),
items held back (R91-R94), and items that only read. -/
namespace Sys2Proof.Machine

/-! ### The order of R83 -/

theorem firstRefusal_cons (holds : Bool) (status : Nat) (rest : List (Bool × Nat)) :
    firstRefusal ((holds, status) :: rest) = if holds = true then some status else firstRefusal rest := by
  cases holds <;> rfl

theorem ite_some_orElse (b : Bool) (status : Nat) (x : Option Nat) (y : Unit → Option Nat) :
    (if b = true then some status else x).orElse y = if b = true then some status else x.orElse y := by
  cases b <;> rfl

/-- Settles O9: an item of a queue meets the eight stages one after the other, then the refusals of its own command. -/
theorem refusalOrder : Obligations.RefusalOrder := by
  unfold Obligations.RefusalOrder
  intro c p h
  simp only [judge, stages, firstRefusal_cons, ite_some_orElse]
  simp [firstRefusal, and_assoc]

/-- Every command of the table is defined (R86). -/
theorem hostCommand_defined {i : Instr} {c : Command} {p : Packet} (e : hostCommand i = some (c, p)) : c.defined = true := by
  cases i <;> cases e <;> rfl

/-- An item that a running head takes from a queue without a group is refused as it is judged. -/
theorem exec_refused {i : Instr} {c : Command} {p : Packet} {s : State} {status : Nat} (e : hostCommand i = some (c, p))
    (q : p.queue < 8) (boot : s.fresh.fromBoot = true) (late : (s.fresh.queue p.queue).lateItems = 0)
    (group : (s.fresh.queue p.queue).group = none) (j : judge c .queue p s.fresh = some status) :
    exec i s = .next (s.reacted (refuseItem c status p s.fresh)) := by
  rw [exec_hostCommand e, ungrouped_next q boot late group, applyItem_refused j]

/-- Settles O12: without a MAC no session allows the class, so that stage 5 refuses what stages 1 to 4 let pass. -/
theorem unauthenticatedItem : Obligations.UnauthenticatedItem := by
  unfold Obligations.UnauthenticatedItem
  intro i c p s e cls noMac closed q boot late group
  have noClass : classOk c p s.fresh = false := by
    rcases cls with cls | cls <;> simp [classOk, closed, cls, sessionHas, noMac]
  have order := refusalOrder c p s.fresh
  rw [if_neg (by simp [hostCommand_defined e] : ¬ c.defined = false), 
    if_pos (Or.inl noClass : classOk c p s.fresh = false ∨ c.permitted p s.fresh = false)] at order
  have refused : ∃ status, (status = Status.badLength ∨ status = Status.notPermitted) ∧
      judge c .queue p s.fresh = some status := by
    rw [order]
    split_ifs
    · exact ⟨_, .inl rfl, rfl⟩
    · exact ⟨_, .inr rfl, rfl⟩
    · exact ⟨_, .inl rfl, rfl⟩
    · exact ⟨_, .inr rfl, rfl⟩
  obtain ⟨status, which, j⟩ := refused
  exact ⟨status, which, exec_refused e q boot late group j⟩

/-- Settles O13: a whole item whose MACs are wrong stands at stage 2, and its refusal counts AUTH_FAIL alone. -/
theorem forgedItem : Obligations.ForgedItem := by
  unfold Obligations.ForgedItem
  intro i c p s e q boot late group headers macs
  have j : judge c .queue p s.fresh = some Status.notPermitted := by
    rw [refusalOrder, if_neg (by simp [headers]), if_pos macs]
  rw [exec_refused e q boot late group j]
  simp [refuseItem, countRefusal, forged, Head.validMac, headers, macs]

/-! ### What a refusal leaves alone -/

/-- `k` is `h` but for queues and the outputs. -/
def Head.RepliesTo (h k : Head) : Prop := ∃ q e o, k = { h with queues := q, ethq := e, sent := o }

theorem Head.RepliesTo.refl (h : Head) : h.RepliesTo h := ⟨h.queues, h.ethq, h.sent, rfl⟩

theorem Head.RepliesTo.trans {a b c : Head} (x : a.RepliesTo b) (y : b.RepliesTo c) : a.RepliesTo c := by
  obtain ⟨_, _, _, rfl⟩ := x
  obtain ⟨_, _, _, rfl⟩ := y
  exact ⟨_, _, _, rfl⟩

theorem Head.RepliesTo.ite {h a b : Head} {P : Prop} [Decidable P] (x : h.RepliesTo a) (y : h.RepliesTo b) :
    h.RepliesTo (if P then a else b) := by
  split
  · exact x
  · exact y

theorem Head.sendDatagram_replies (h : Head) (q : Nat) (r : Reply) : h.RepliesTo (h.sendDatagram q r) := by
  unfold Head.sendDatagram
  extract_lets eq bytes
  split
  · exact .refl h
  · exact ⟨_, _, _, rfl⟩

theorem Head.reply_replies (h : Head) (q : Nat) (r : Reply) : h.RepliesTo (h.reply q r) := by
  unfold Head.reply
  refine .ite (.refl h) (.ite ?_ (.ite (.refl h) ⟨_, _, _, rfl⟩))
  extract_lets k
  have sent : h.RepliesTo k := .ite (.refl h) (Head.sendDatagram_replies h q r)
  exact .ite sent (sent.trans ⟨_, _, _, rfl⟩)

theorem Head.answer_replies (h : Head) (p : Packet) (opcode status : Nat) (params : List Byte) (authed : Bool) :
    h.RepliesTo (h.answer p opcode status params authed) := Head.reply_replies _ _ _

/-- `k` is `h` but for queues, the outputs, security, the free values drawn and STALE_HOST of axes. -/
def Head.RefusesTo (h k : Head) : Prop := ∃ q e o y d axes,
  k = { h with queues := q, ethq := e, sent := o, sec := y, drawn := d, axes := axes } ∧
    axes.map (fun a => { a with staleHost := 0 }) = h.axes.map fun a => { a with staleHost := 0 }

theorem Head.RefusesTo.refl (h : Head) : h.RefusesTo h := ⟨h.queues, h.ethq, h.sent, h.sec, h.drawn, h.axes, rfl, rfl⟩

theorem Head.RefusesTo.trans {a b c : Head} (x : a.RefusesTo b) (y : b.RefusesTo c) : a.RefusesTo c := by
  obtain ⟨_, _, _, _, _, _, rfl, stale⟩ := x
  obtain ⟨_, _, _, _, _, _, rfl, stale'⟩ := y
  exact ⟨_, _, _, _, _, _, rfl, stale'.trans stale⟩

theorem Head.RefusesTo.ite {h a b : Head} {P : Prop} [Decidable P] (x : h.RefusesTo a) (y : h.RefusesTo b) :
    h.RefusesTo (if P then a else b) := by
  split
  · exact x
  · exact y

theorem Head.RepliesTo.refuses {h k : Head} (x : h.RepliesTo k) : h.RefusesTo k := by
  obtain ⟨_, _, _, rfl⟩ := x
  exact ⟨_, _, _, _, _, _, rfl, rfl⟩

theorem acceptPacket_refuses (p : Packet) (h : Head) : h.RefusesTo (acceptPacket p h) := by
  unfold acceptPacket
  exact .ite ⟨_, _, _, _, _, _, rfl, rfl⟩ (.refl h)

/-- What the refusals of a command count is in security and queues; PROVISION draws a free value (R420). -/
theorem hostCommand_onRefuse {i : Instr} {c : Command} {p : Packet} (e : hostCommand i = some (c, p)) (status : Nat)
    (x : Packet) (h : Head) : h.RefusesTo (c.onRefuse status x h) := by
  cases i with
  | fenceCycle p => cases e; exact .ite ⟨_, _, _, _, _, _, rfl, rfl⟩ (.refl h)
  | fenceTime p => cases e; exact .ite ⟨_, _, _, _, _, _, rfl, rfl⟩ (.refl h)
  | sessionOpen p => cases e; exact .ite ⟨_, _, _, _, _, _, rfl, rfl⟩ (.refl h)
  | provision p => cases e; exact .ite ⟨_, _, _, _, _, _, rfl, rfl⟩ (.refl h)
  | debugOpen p => cases e; exact .ite ⟨_, _, _, _, _, _, rfl, rfl⟩ (.refl h)
  | _ => cases e <;> exact .refl h

theorem Head.setAxis_staleHost_refuses (h : Head) (id : Nat) (f : Nat → Nat) :
    h.RefusesTo (h.setAxis id fun a => { a with staleHost := f a.staleHost }) := by
  refine ⟨_, _, _, _, _, _, rfl, ?_⟩
  rw [List.map_map]
  refine List.map_congr_left fun a _ => ?_
  rw [Function.comp_apply]
  split <;> rfl

theorem countRefusal_refuses {c : Command} {status : Nat} {p : Packet}
    (own : ∀ h : Head, h.RefusesTo (c.onRefuse status p h)) (forged : Bool) (h : Head) :
    h.RefusesTo (countRefusal c status forged p h) := by
  unfold countRefusal
  refine .ite ⟨_, _, _, _, _, _, rfl, rfl⟩ ?_
  extract_lets k
  exact .ite ((own h).trans (Head.setAxis_staleHost_refuses k (c.epochAxis p) (satInc 0xFFFF))) (own h)

theorem refuseItem_refuses {c : Command} {status : Nat} {p : Packet}
    (own : ∀ h : Head, h.RefusesTo (c.onRefuse status p h)) (h : Head) : h.RefusesTo (refuseItem c status p h) := by
  unfold refuseItem
  extract_lets bad valid k
  have moved : h.RefusesTo k := .ite (.refl h) (acceptPacket_refuses p h)
  exact (moved.trans (countRefusal_refuses own bad k)).trans (Head.answer_replies _ _ _ _ _ _).refuses

/-- Settles O10: a refusal moves the session, counts what it counts, and is answered. -/
theorem refusedItem : Obligations.RefusedItem := by
  unfold Obligations.RefusedItem
  intro i c p s status e q boot late group j
  refine ⟨_, exec_refused e q boot late group j, rfl, ?_⟩
  obtain ⟨_, _, _, _, _, _, refused, stale⟩ := refuseItem_refuses (hostCommand_onRefuse e status p) s.fresh
  rw [refused]
  exact ⟨rfl, rfl, rfl, rfl, rfl, rfl, rfl, rfl, rfl, rfl, rfl, rfl, rfl, rfl, rfl, rfl, rfl, rfl, rfl, stale⟩

/-! ### Items held back -/

/-- What the head makes of an item, its queue one of the eight. -/
theorem exec_runItem {i : Instr} {c : Command} {p : Packet} (e : hostCommand i = some (c, p)) (q : p.queue < 8) (s : State) :
    exec i s = .next (s.reacted (runItem c p s.fresh)) := by
  rw [exec_hostCommand e, hostExec, if_pos q]
  rfl

theorem runItem_of_still {h : Head} (still : h.fromBoot = false) (c : Command) (p : Packet) : runItem c p h = h := by
  simp [runItem, still]

theorem runItem_of_late {h : Head} {p : Packet} (boot : h.fromBoot = true) (late : 0 < (h.queue p.queue).lateItems) (c : Command) :
    runItem c p h =
      let j := h.setQueue p.queue fun q => { q with lateItems := q.lateItems - 1 }
      refuseItem { c with onRefuse := fun _ _ h => h } (lateJudge c (h.queue p.queue).lateStatus p j) p j := by
  simp [runItem, boot, late]

theorem runItem_of_group {h : Head} {p : Packet} {g : Group} (boot : h.fromBoot = true)
    (late : (h.queue p.queue).lateItems = 0) (group : (h.queue p.queue).group = some g) (c : Command) :
    runItem c p h = if g.remaining > 0 then deferItem c p h else h := by
  simp [runItem, boot, late, group]

theorem firstRefusal_take {l : List (Bool × Nat)} (none : firstRefusal l = none) (n : Nat) : firstRefusal (l.take n) = .none := by
  induction l generalizing n with
  | nil => simp [firstRefusal]
  | cons x rest ih =>
    obtain ⟨holds, status⟩ := x
    cases n with
    | zero => rfl
    | succ n =>
      cases holds with
      | true => cases none
      | false => exact ih none n

/-- Nothing stands before the status of an ended group when nothing refuses the item. -/
theorem lateJudge_of_unrefused {c : Command} {p : Packet} {h : Head} (j : judge c .queue p h = none) (late : Nat) :
    lateJudge c late p h = late := by
  have stages : firstRefusal (stages c .queue p h) = none := by
    cases first : firstRefusal (stages c .queue p h) with
    | none => rfl
    | some status => rw [judge, first] at j; cases j
  rw [lateJudge, firstRefusal_take stages, Option.getD_none]

/-- Settles O11, by the part that does not run, the ended group, the complete group and the open group. -/
theorem itemsHeldBack : Obligations.ItemsHeldBack := by
  unfold Obligations.ItemsHeldBack
  intro i c p s e q
  rw [exec_runItem e q s]
  refine ⟨fun still => by rw [runItem_of_still still], ?late, ?complete, ?opened⟩
  case late =>
    rintro j boot late rfl
    exact ⟨by rw [runItem_of_late boot late], fun unrefused => lateJudge_of_unrefused unrefused _⟩
  case complete =>
    intro g boot late group complete
    rw [runItem_of_group boot late group, if_neg (by omega)]
  case opened =>
    rintro g j k boot late group opened rfl unrefused rfl room
    rw [runItem_of_group boot late group, if_pos opened, deferItem]
    simp only [unrefused]
    rw [if_neg (Nat.not_le.mpr room)]

/-! ### Items that only read -/

/-- What an OBSERVE command may change: free values are drawn, PTP counts cleared, the peaks of tiles cleared and their factor
found, BKUP_LOW found. -/
structure Observed where
  drawn : Nat
  ports : List PtpPort
  tiles : List Tile
  sagFactor : Nat
  bkupLow : Bool

/-- Those parts of a head as they stand. -/
def Head.observed (h : Head) : Observed := ⟨h.drawn, h.time.ports, h.compute.tiles, h.compute.sagFactor, h.power.bkupLow⟩

/-- A head with those parts replaced. -/
def Head.withObserved (h : Head) (o : Observed) : Head :=
  { h with drawn := o.drawn, time := { h.time with ports := o.ports }
           compute := { h.compute with tiles := o.tiles, sagFactor := o.sagFactor }
           power := { h.power with bkupLow := o.bkupLow } }

/-- The parts that opcodes of their own clear or find are as they stand in `h`. -/
def Observed.keeps (o : Observed) (h : Head) (opcode : Nat) : Prop :=
  (opcode ≠ 0x0503 → o.ports = h.time.ports) ∧
  (opcode ≠ 0x0801 → o.tiles = h.compute.tiles ∧ o.sagFactor = h.compute.sagFactor) ∧
  (opcode ≠ 0x1000 → o.bkupLow = h.power.bkupLow)

/-- The command finishes at once and only reads. -/
def Command.reads (c : Command) (p : Packet) (h : Head) : Prop :=
  ∃ (o : Observed) (reply : List Byte), c.effect p h = { head := h.withObserved o, reply } ∧ o.keeps h c.opcode

/-- The head as it stands, but for free values drawn. -/
theorem Observed.keeps_drawn (h : Head) (n opcode : Nat) : ({ h.observed with drawn := n } : Observed).keeps h opcode :=
  ⟨fun _ => rfl, fun _ => ⟨rfl, rfl⟩, fun _ => rfl⟩

/-- A command that leaves the head as it is. -/
theorem Command.reads_of_still {c : Command} {p : Packet} {h : Head} (still : c.effect p h = { head := h, reply := (c.effect p h).reply }) :
    c.reads p h := ⟨h.observed, _, still, Observed.keeps_drawn h h.drawn _⟩

/-- A command that only draws free values. -/
theorem Command.reads_of_drawn {c : Command} {p : Packet} {h : Head} {n : Nat}
    (drawn : c.effect p h = { head := { h with drawn := n }, reply := (c.effect p h).reply }) : c.reads p h :=
  ⟨{ h.observed with drawn := n }, _, drawn, Observed.keeps_drawn h n _⟩

/-- GET_PTP_PORT clears what it counts (R185). -/
theorem getPtpPortCmd_reads (p : Packet) (h : Head) : getPtpPortCmd.reads p h :=
  ⟨{ h.observed with ports := setAt p.target (fun x => { x with dropped := 0, overflow := x.overflow && pu p 0 1 = 0 }) h.time.ports },
    _, rfl, fun other => absurd rfl other, fun _ => ⟨rfl, rfl⟩, fun _ => rfl⟩

/-- GET_TILE_LOAD finds the factor and clears the peaks. -/
theorem getTileLoadCmd_reads (p : Packet) (h : Head) : getTileLoadCmd.reads p h :=
  ⟨{ h.observed with
      tiles := h.compute.tiles.map fun x => { x with uPeak := 0, preempts := 0 }, sagFactor := h.sagFactor },
    _, rfl, fun _ => rfl, fun other => absurd rfl other, fun _ => rfl⟩

/-- GET_POWER measures, and BKUP_LOW follows its measurement (log 71). -/
theorem getPowerCmd_reads (p : Packet) (h : Head) : getPowerCmd.reads p h :=
  ⟨{ h.observed with drawn := h.drawn + 2, bkupLow := Config.freeNat h.drawn % 65536 < 2200 },
    _, rfl, fun _ => rfl, fun _ => ⟨rfl, rfl⟩, fun other => absurd rfl other⟩

/-- GET_CONTOUR of a free entry gives free values (log 59). -/
theorem getContourCmd_reads (p : Packet) (h : Head) : getContourCmd.reads p h := by
  cases entry : h.cal.entries.find? fun e => e.entry = p.target with
  | none => exact Command.reads_of_drawn (n := h.drawn + 2) (by simp only [getContourCmd, entry]; rfl)
  | some x => exact Command.reads_of_still (by simp only [getContourCmd, entry])

/-- READ_CHANNEL before a first result gives free values (log 59). -/
theorem readChannelCmd_reads (p : Packet) (h : Head) : readChannelCmd.reads p h := by
  cases result : h.acq.latest.find? fun l => l.code = p.target with
  | none => exact Command.reads_of_drawn (n := h.drawn + 1) (by simp only [readChannelCmd, acqCommand, result]; rfl)
  | some x => exact Command.reads_of_still (by simp only [readChannelCmd, acqCommand, result])

/-- GET_PIN draws the level outside (log 3). -/
theorem getPinCmd_reads (p : Packet) (h : Head) : getPinCmd.reads p h := by
  refine Command.reads_of_drawn (n := h.drawn + 1) ?_
  by_cases ball : p.target < 40
  · simp only [getPinCmd, pinCommand, ball, if_true]; rfl
  · simp only [getPinCmd, pinCommand, ball, if_false]; rfl

/-- Every OBSERVE command of the table only reads. -/
theorem hostCommand_reads {i : Instr} {c : Command} {p : Packet} (e : hostCommand i = some (c, p)) (cls : c.cls = .observe)
    (h : Head) : c.reads p h := by
  cases i with
  | getPtpPort p => cases e; exact getPtpPortCmd_reads p h
  | getTileLoad p => cases e; exact getTileLoadCmd_reads p h
  | getPower p => cases e; exact getPowerCmd_reads p h
  | getContour p => cases e; exact getContourCmd_reads p h
  | readChannel p => cases e; exact readChannelCmd_reads p h
  | getPin p => cases e; exact getPinCmd_reads p h
  | _ => cases e <;> cases cls <;> exact Command.reads_of_still rfl

/-- Settles O14: every OBSERVE command only reads, and a served item of one is answered at once. -/
theorem observeChangesNothing : Obligations.ObserveChangesNothing := by
  unfold Obligations.ObserveChangesNothing
  intro i c p s e cls served
  obtain ⟨o, reply, effect, keeps⟩ := hostCommand_reads e cls (s.taken p)
  exact ⟨reply, o.drawn, o.ports, o.tiles, o.sagFactor, o.bkupLow, (exec_hostCommand e s).trans (answered_of served effect), keeps⟩

end Sys2Proof.Machine
end

section
/-! PROOF. The calendar of the RTC (R455-R457): years, months and days spell the days of the 400 years. -/
namespace Sys2Proof.Machine

theorem sumNat_eq_sum (l : List Nat) : sumNat l = l.sum := List.sum_eq_foldl_nat.symm

/-! ### Months -/

theorem monthLengths_length (y : Nat) : (monthLengths y).length = 12 := rfl

theorem monthLengths_getElem {y m : Nat} (lo : 1 ≤ m) (hi : m ≤ 12) : (monthLengths y).getD (m - 1) 0 =
    if m = 2 then (if leapYear y then 29 else 28) else if m ∈ [4, 6, 9, 11] then 30 else 31 := by
  interval_cases m <;> rfl

/-- Days of a year. -/
theorem monthLengths_sum (y : Nat) : (monthLengths y).sum = if leapYear y then 366 else 365 := by
  cases leap : leapYear y <;> simp [monthLengths, leap]

/-- Within a list of month lengths a day of the year has its month and its day of the month. -/
theorem monthDay_spec {m d : Nat} {l : List Nat} (within : d < l.sum) :
    ∃ j < l.length, ∃ day, monthDay m d l = (m + j, day) ∧ 1 ≤ day ∧ day ≤ l.getD j 0 ∧ (l.take j).sum + (day - 1) = d := by
  induction l generalizing m d with
  | nil => simp at within
  | cons n rest ih =>
    rw [monthDay]
    by_cases first : d < n
    · exact ⟨0, by simp, d + 1, by simp [first], by omega, by simpa using first, by simp⟩
    · rw [List.sum_cons] at within
      obtain ⟨j, inside, day, found, lo, hi, total⟩ := ih (m := m + 1) (d := d - n) (by omega)
      refine ⟨j + 1, by simpa using inside, day, ?_, lo, by simpa using hi, ?_⟩
      · rw [if_neg first, found, Nat.add_assoc, Nat.add_comm 1]
      · rw [List.take_succ_cons, List.sum_cons]
        omega

/-- A month and its day come back from the day of the year. -/
theorem monthDay_take {m j day : Nat} {l : List Nat} (lo : 1 ≤ day) (hi : day ≤ l.getD j 0) :
    monthDay m ((l.take j).sum + (day - 1)) l = (m + j, day) := by
  induction l generalizing m j with
  | nil => simp at hi; omega
  | cons n rest ih =>
    cases j with
    | zero =>
      have first : day - 1 < n := by simp at hi; omega
      simp [monthDay, first]
      omega
    | succ j =>
      have later : ¬ n + (rest.take j).sum + (day - 1) < n := by omega
      rw [List.take_succ_cons, List.sum_cons, monthDay, if_neg later,
        show n + (rest.take j).sum + (day - 1) - n = (rest.take j).sum + (day - 1) by omega, ih (by simpa using hi)]
      simp
      omega

/-! ### Years -/

/-- A year is a leap year by the rests of its number from 2000 on: every fourth, but for the hundredths, and for these every
fourth. -/
theorem leapYear_count (k : Nat) : (if leapYear (2000 + k) then 366 else 365) + (if k % 100 = 0 then 1 else 0) =
    365 + (if k % 4 = 0 then 1 else 0) + (if k % 400 = 0 then 1 else 0) := by
  have r4 : (2000 + k) % 4 = k % 4 := by omega
  have r100 : (2000 + k) % 100 = k % 100 := by omega
  have r400 : (2000 + k) % 400 = k % 400 := by omega
  simp only [leapYear, r4, r100, r400, Bool.or_eq_true, Bool.and_eq_true, decide_eq_true_eq]
  split_ifs <;> omega

/-- The next year begins after the days of this one. -/
theorem yearDays_succ (k : Nat) : yearDays (k + 1) = yearDays k + (monthLengths (2000 + k)).sum := by
  have count := leapYear_count k
  have q4 : (k + 1 + 3) / 4 = (k + 3) / 4 + if k % 4 = 0 then 1 else 0 := by split <;> omega
  have q100 : (k + 1 + 99) / 100 = (k + 99) / 100 + if k % 100 = 0 then 1 else 0 := by split <;> omega
  have q400 : (k + 1 + 399) / 400 = (k + 399) / 400 + if k % 400 = 0 then 1 else 0 := by split <;> omega
  have fewer : (k + 99) / 100 ≤ 365 * k + (k + 3) / 4 := by omega
  have fewer' : (k + 1 + 99) / 100 ≤ 365 * (k + 1) + (k + 1 + 3) / 4 := by omega
  rw [monthLengths_sum]
  unfold yearDays
  rw [q4, q100] at fewer'
  rw [q4, q100, q400]
  generalize (if leapYear (2000 + k) then 366 else 365) = days at *
  generalize (if k % 4 = 0 then 1 else 0) = a at *
  generalize (if k % 100 = 0 then 1 else 0) = b at *
  generalize (if k % 400 = 0 then 1 else 0) = c at *
  generalize (k + 3) / 4 = q at *
  generalize (k + 99) / 100 = r at *
  generalize (k + 399) / 400 = s at *
  omega

theorem yearDays_strictMono : StrictMono yearDays := by
  refine strictMono_nat_of_lt_succ fun k => ?_
  rw [yearDays_succ, monthLengths_sum]
  split <;> omega

/-- The year of a day, counted from 2000, as `dateOf` finds it. -/
def yearOf (days : Nat) : Nat := if yearDays (days / 366 + 1) ≤ days then days / 366 + 1 else days / 366

theorem yearOf_spec {days : Nat} (within : days < eraDays) : yearDays (yearOf days) ≤ days ∧ days < yearDays (yearOf days + 1) := by
  have days400 : days < 146097 := within
  have lo : yearDays (days / 366) ≤ days := by unfold yearDays; omega
  have hi : days < yearDays (days / 366 + 1 + 1) := by unfold yearDays; omega
  unfold yearOf
  split
  next next => exact ⟨next, hi⟩
  next this => exact ⟨lo, not_le.mp this⟩

theorem yearOf_eq {days k : Nat} (within : days < eraDays) (lo : yearDays k ≤ days) (hi : days < yearDays (k + 1)) :
    yearOf days = k := by
  obtain ⟨lo', hi'⟩ := yearOf_spec within
  have a := yearDays_strictMono.lt_iff_lt.mp (lo.trans_lt hi')
  have b := yearDays_strictMono.lt_iff_lt.mp (lo'.trans_lt hi)
  omega

theorem dateOf_eq {n : Nat} (within : n < eraDays * 86400) : dateOf n =
    { year := 2000 + yearOf (n / 86400)
      month := (monthDay 1 (n / 86400 - yearDays (yearOf (n / 86400))) (monthLengths (2000 + yearOf (n / 86400)))).1
      day := (monthDay 1 (n / 86400 - yearDays (yearOf (n / 86400))) (monthLengths (2000 + yearOf (n / 86400)))).2
      hour := n % 86400 / 3600, minute := n % 86400 / 60 % 60, second := n % 86400 % 60 } := by
  have whole : n / 86400 % eraDays = n / 86400 := Nat.mod_eq_of_lt (Nat.div_lt_of_lt_mul (by rwa [Nat.mul_comm]))
  unfold dateOf
  simp only [whole]
  rfl

/-- A date is possible just when its parts lie in their ranges. -/
theorem Date.possible_iff (d : Date) : d.possible = true ↔ 2000 ≤ d.year ∧ d.year ≤ 2399 ∧ 1 ≤ d.month ∧ d.month ≤ 12 ∧
    1 ≤ d.day ∧ d.day ≤ (monthLengths d.year).getD (d.month - 1) 0 ∧ d.hour ≤ 23 ∧ d.minute ≤ 59 ∧ d.second ≤ 59 := by
  simp only [Date.possible, Bool.and_eq_true, decide_eq_true_eq, and_assoc, Nat.lt_succ_iff]

/-- Every second of the 400 years spells a possible date, which spells it. -/
theorem dateOf_seconds {n : Nat} (within : n < eraDays * 86400) : (dateOf n).possible = true ∧ (dateOf n).seconds = n := by
  have days : n / 86400 < eraDays := Nat.div_lt_of_lt_mul (by rwa [Nat.mul_comm])
  obtain ⟨lo, hi⟩ := yearOf_spec days
  have century : yearOf (n / 86400) < 400 := yearDays_strictMono.lt_iff_lt.mp (lo.trans_lt days)
  rw [yearDays_succ] at hi
  obtain ⟨j, inside, day, found, dayLo, dayHi, total⟩ := monthDay_spec (m := 1)
    (d := n / 86400 - yearDays (yearOf (n / 86400))) (l := monthLengths (2000 + yearOf (n / 86400))) (by omega)
  rw [monthLengths_length] at inside
  rw [dateOf_eq within, found]
  constructor
  · rw [Date.possible_iff]
    simp only [Nat.add_sub_cancel_left]
    exact ⟨by omega, by omega, by omega, by omega, dayLo, dayHi, by omega, by omega, by omega⟩
  · simp only [Date.seconds, Date.days, Date.daySeconds, Nat.add_sub_cancel_left, sumNat_eq_sum]
    omega

/-- A day of a month lies within its year. -/
theorem take_sum_add_lt {l : List Nat} {j day : Nat} (lo : 1 ≤ day) (hi : day ≤ l.getD j 0) :
    (l.take j).sum + (day - 1) < l.sum := by
  induction l generalizing j with
  | nil => simp at hi; omega
  | cons n rest ih =>
    cases j with
    | zero => simp at hi ⊢; omega
    | succ j =>
      have later := ih (j := j) (by simpa using hi)
      rw [List.take_succ_cons, List.sum_cons, List.sum_cons]
      omega

/-- A possible date spells a second of the 400 years, which spells it. -/
theorem seconds_dateOf {d : Date} (possible : d.possible = true) : d.seconds < eraDays * 86400 ∧ dateOf d.seconds = d := by
  rw [Date.possible_iff] at possible
  obtain ⟨year, month, day, hour, minute, second⟩ := d
  simp only at possible
  obtain ⟨yearLo, yearHi, monthLo, monthHi, dayLo, dayHi, hourHi, minuteHi, secondHi⟩ := possible
  obtain ⟨k, rfl⟩ := Nat.exists_eq_add_of_le yearLo
  obtain ⟨j, rfl⟩ := Nat.exists_eq_add_of_le monthLo
  rw [Nat.add_sub_cancel_left] at dayHi
  have inYear := take_sum_add_lt dayLo dayHi
  have next := yearDays_succ k
  have century : yearDays (k + 1) ≤ eraDays := yearDays_strictMono.monotone (show k + 1 ≤ 400 by omega)
  have seconds : Date.seconds ⟨2000 + k, 1 + j, day, hour, minute, second⟩ =
      (yearDays k + (((monthLengths (2000 + k)).take j).sum + (day - 1))) * 86400 + (hour * 3600 + minute * 60 + second) := by
    simp only [Date.seconds, Date.days, Date.daySeconds, Nat.add_sub_cancel_left, sumNat_eq_sum, Nat.add_assoc]
  rw [seconds]
  have dayOfYear := monthDay_take (m := 1) dayLo dayHi
  generalize ((monthLengths (2000 + k)).take j).sum + (day - 1) = d at *
  have within : (yearDays k + d) * 86400 + (hour * 3600 + minute * 60 + second) < eraDays * 86400 := by omega
  have days : ((yearDays k + d) * 86400 + (hour * 3600 + minute * 60 + second)) / 86400 = yearDays k + d := by omega
  have year : yearOf (yearDays k + d) = k := yearOf_eq (by omega) (by omega) (by omega)
  refine ⟨within, ?_⟩
  rw [dateOf_eq within, days, year, Nat.add_sub_cancel_left, dayOfYear, Date.mk.injEq]
  exact ⟨rfl, rfl, rfl, by omega, by omega, by omega⟩

/-- Settles O17: by the ranges of a date's parts, `dateOf_seconds`, `seconds_dateOf` and the calendar's own wrap. -/
theorem calendar : Obligations.Calendar := by
  unfold Obligations.Calendar
  refine ⟨fun d => ?ranges, fun n => dateOf_seconds, fun d => seconds_dateOf, by decide⟩
  case ranges =>
    rw [Date.possible_iff]
    constructor
    · rintro ⟨yearLo, yearHi, monthLo, monthHi, dayLo, dayHi, time⟩
      exact ⟨yearLo, yearHi, monthLo, monthHi, dayLo, monthLengths_getElem monthLo monthHi ▸ dayHi, time⟩
    · rintro ⟨yearLo, yearHi, monthLo, monthHi, dayLo, dayHi, time⟩
      exact ⟨yearLo, yearHi, monthLo, monthHi, dayLo, monthLengths_getElem monthLo monthHi ▸ dayHi, time⟩

end Sys2Proof.Machine
end

section
/-! PROOF. What a detection does to the latches (R400), and the state after reset (Table 02-7, R38). -/
namespace Sys2Proof.Machine

/-! ### A list kept by keys -/

theorem find?_putKey_same {α : Type} (key : α → Nat) (x : α) (l : List α) :
    (putKey key x l).find? (fun y => key y == key x) = some x := by
  induction l with
  | nil => simp [putKey]
  | cons y ys ih =>
    unfold putKey
    split
    · simp
    · split
      · simp
      · next apart => simpa [Ne.symm apart] using ih

theorem find?_putKey_of_ne {α : Type} (key : α → Nat) (x : α) {k : Nat} (apart : k ≠ key x) (l : List α) :
    (putKey key x l).find? (fun y => key y == k) = l.find? fun y => key y == k := by
  induction l with
  | nil => simp [putKey, Ne.symm apart]
  | cons y ys ih =>
    unfold putKey
    split
    · simp [Ne.symm apart]
    · split
      · next same => simp [← same, Ne.symm apart]
      · simp [List.find?_cons, ih]

/-! ### Trigger units that a fault fires change acquisition alone -/

/-- `k` is `h` but for acquisition and the free values drawn. -/
def Head.AcquiresTo (h k : Head) : Prop := ∃ a d, k = { h with acq := a, drawn := d }

theorem Head.AcquiresTo.refl (h : Head) : h.AcquiresTo h := ⟨h.acq, h.drawn, rfl⟩

theorem Head.AcquiresTo.trans {a b c : Head} (x : a.AcquiresTo b) (y : b.AcquiresTo c) : a.AcquiresTo c := by
  obtain ⟨_, _, rfl⟩ := x
  obtain ⟨_, _, rfl⟩ := y
  exact ⟨_, _, rfl⟩

theorem Head.AcquiresTo.ite {h a b : Head} {P : Prop} [Decidable P] (x : h.AcquiresTo a) (y : h.AcquiresTo b) :
    h.AcquiresTo (if P then a else b) := by
  split
  · exact x
  · exact y

theorem Head.AcquiresTo.setUnit (h : Head) (u : Nat) (f : TrigUnit → TrigUnit) : h.AcquiresTo (h.setUnit u f) := ⟨_, _, rfl⟩

theorem Head.AcquiresTo.setStreamOf (h : Head) (s : Nat) (f : Stream → Stream) : h.AcquiresTo (h.setStreamOf s f) := ⟨_, _, rfl⟩

theorem Head.suppressTrigger_acquires (h : Head) (u : Nat) : h.AcquiresTo (h.suppressTrigger u) := by
  unfold Head.suppressTrigger
  exact .ite ((Head.AcquiresTo.setUnit h u _).trans (.setUnit _ _ _)) (.setUnit h u _)

theorem Head.markTrigger_acquires (h : Head) (u : Nat) (c : UnitCfg) (sc : StreamCfg) (n f t : Nat) (forced : Bool) :
    h.AcquiresTo (h.markTrigger u c sc n f t forced) := by
  unfold Head.markTrigger
  extract_lets s x inGap payload info k
  have marked : h.AcquiresTo k := .ite (.ite (.setStreamOf _ _ _) (.setStreamOf _ _ _)) (.setStreamOf _ _ _)
  exact .ite (.refl h) (marked.trans (.setUnit _ _ _))

theorem Head.openRecord_acquires (h : Head) (u : Nat) (c : UnitCfg) (n f t : Nat) (forced : Bool) :
    h.AcquiresTo (h.openRecord u c n f t forced) := by
  unfold Head.openRecord
  exact .ite (.refl h) (.setUnit _ _ _)

theorem Head.fireUnit_acquires (h : Head) (u n f t : Nat) (forced : Bool) : h.AcquiresTo (h.fireUnit u n f t forced).1 := by
  unfold Head.fireUnit
  extract_lets x
  split
  · exact .refl h
  · split
    · exact .refl h
    · split
      · exact Head.suppressTrigger_acquires h u
      · extract_lets fired recorded
        have record : h.AcquiresTo recorded :=
          ((Head.AcquiresTo.setUnit h u _).trans (Head.markTrigger_acquires _ _ _ _ _ _ _ _)).trans
            (Head.openRecord_acquires _ _ _ _ _ _ _)
        exact .ite (record.trans (.setUnit _ _ _)) record

theorem Head.byteFraction_acquires (h : Head) (n d : Nat) : h.AcquiresTo (h.byteFraction n d).2 := by
  unfold Head.byteFraction
  split
  · exact ⟨_, _, rfl⟩
  · exact .refl h

theorem Head.fireAt_acquires (h : Head) (u t : Nat) (forced : Bool) : h.AcquiresTo (h.fireAt u t forced).1 := by
  unfold Head.fireAt
  split
  · exact .refl h
  · extract_lets s
    split
    · exact .refl h
    · exact (Head.byteFraction_acquires h _ _).trans (Head.fireUnit_acquires _ _ _ _ _ _)

theorem Head.fireUnits_acquires (h : Head) (p : UnitCfg → Bool) (t : Nat) : h.AcquiresTo (h.fireUnits p t) := by
  unfold Head.fireUnits
  generalize List.range 8 = us
  induction us generalizing h with
  | nil => exact .refl h
  | cons u us ih =>
    have fires : h.AcquiresTo (if ((h.unit u).cfg.any p) then (h.fireAt u t false).1 else h) :=
      .ite (Head.fireAt_acquires h u t false) (.refl h)
    exact fires.trans (ih _)

/-! ### A detection -/

/-- The latch of a source, clear when it has none. -/
def Head.latchOf (h : Head) (source : Nat) : Latch :=
  (h.latch? source).getD { source, word := 0, counts := [], firstCycle := none }

theorem Head.latchOf_word (h : Head) (source : Nat) : (h.latchOf source).word = h.latchWord source := by
  unfold Head.latchOf Head.latchWord
  cases h.latch? source <;> rfl

theorem severity?_lt {source code severity : Nat} (known : severity? source code = some severity) : code < 32 := by
  have short : (severities (source / 4096)).length ≤ 32 := by
    unfold severities
    split <;> decide
  exact ((List.getElem?_eq_some_iff.mp known).1).trans_le short

/-- A detection puts the latch of its source with the bit of its code set in place of the old one. -/
theorem Head.raise_latches (h : Head) {source code severity : Nat} (known : severity? source code = some severity) :
    ∃ l : Latch, l.source = source ∧ l.word = h.latchWord source ||| (1#32 <<< code) ∧
      (h.raise source code).faults.latches = putKey (fun l => l.source) l h.faults.latches := by
  unfold Head.raise Head.raiseAt
  split
  next unknown => cases known.symm.trans unknown
  next sev _ =>
    extract_lets old fresh counts l reports faults latched noted posted
    refine ⟨l, rfl, congrArg (· ||| 1#32 <<< code) (h.latchOf_word source), ?_⟩
    have note : noted.faults = latched.faults := by
      simp only [noted, Head.noteLatch]
      split_ifs <;> rfl
    have post : posted.faults = noted.faults := by
      simp only [posted]
      split_ifs
      · exact (Head.postAt_posts _ _ _ _ _ _ _).faults
      · rfl
    obtain ⟨_, _, fired⟩ := Head.fireUnits_acquires posted (fun c => c.source = 4 && sev ≥ c.arg) (h.now * 256)
    rw [fired]
    change posted.faults.latches = _
    rw [post, note]

/-- A latch bit after a detection: set by it, or as it was. -/
theorem Head.raise_latched (h : Head) {source code severity : Nat} (known : severity? source code = some severity)
    (x c : Nat) : (h.raise source code).latched x c = (h.latched x c || (x = source && c = code)) := by
  obtain ⟨l, rfl, word, latches⟩ := h.raise_latches known
  unfold Head.latched Head.latchWord Head.latch?
  rw [latches]
  by_cases same : x = l.source
  · subst same
    have bound := severity?_lt known
    have shifted : (1#32 <<< code).getLsbD c = decide (c = code) := by
      rw [← BitVec.twoPow_eq, BitVec.getLsbD_twoPow]
      by_cases at_code : c = code
      · simp [at_code, bound]
      · simp [at_code, Ne.symm at_code]
    rw [find?_putKey_same, Option.map_some, Option.getD_some, word, BitVec.getLsbD_or, shifted]
    simp [Head.latchWord, Head.latch?]
  · rw [find?_putKey_of_ne _ _ same]
    simp [same]

/-- Settles O21: a detection sets the bit of its code, and no other bit changes. -/
theorem detectionLatches : Obligations.DetectionLatches := by
  unfold Obligations.DetectionLatches
  intro h source code severity known
  have bits := h.raise_latched known
  refine ⟨by simp [bits], fun x c set => by simp [bits, set], fun x c set => ?_⟩
  rw [bits]
  by_cases same : x = source ∧ c = code
  · obtain ⟨rfl, rfl⟩ := same
    simp [set]
  · have other : (decide (x = source) && decide (c = code)) = false := by simpa using same
    rw [other, Bool.or_false]

/-! ### Reset -/

theorem reset_range (r : Nat) : State.reset.head.range r = {} := by
  change (List.replicate 8 ({} : Range)).getD r {} = {}
  rw [List.getD_eq_getElem?_getD, List.getElem?_getD_replicate_default_eq]

/-- At reset no latch is set and no range is in use, so that no output stands in belay. -/
theorem reset_outputBelayed (n : Nat) : State.reset.head.outputBelayed n = false := by
  have device : State.reset.head.deviceBelay = false := rfl
  have ranges (r : Nat) : State.reset.head.rangeDrives r = false := by
    rw [Head.rangeDrives, reset_range]
    rfl
  rw [Head.outputBelayed, device, ranges, Bool.and_false, Bool.or_false]

/-- The outputs are held at reset: none stands in belay, every stepper channel is at its reset values, and ALIVE is
stopped. -/
theorem reset_outputsHeld : State.reset.head.outputsHeld := by
  refine ⟨?fields, ?balls, ?steps, fun _ => ⟨rfl, rfl, rfl⟩⟩
  case fields =>
    intro n o _ belayed
    rw [reset_outputBelayed] at belayed
    cases belayed
  case balls =>
    intro k p _ belayed
    rw [reset_outputBelayed] at belayed
    cases belayed
  case steps =>
    intro n c there _
    obtain ⟨-, rfl⟩ := List.mem_replicate.mp (List.mem_of_getElem? there)
    exact ⟨rfl, rfl, rfl, rfl⟩

/-- In OFF a ball that no scan drives is undriven, or held low, or at high impedance (R38). -/
theorem Head.ballState_off {h : Head} {b : Ball} (off : h.sys.mode = .off) (free : h.sec.scanDrives = false ∨ b.onLd = false) :
    h.ballState b ≠ .level true ∧ h.ballState b ≠ .running := by
  have unscanned : ¬ (h.sec.scanDrives && b.onLd && b ≠ .tdo) = true := by
    rcases free with free | free <;> simp [free]
  unfold Head.ballState
  rw [if_neg unscanned, if_pos off]
  cases b <;> exact ⟨by simp, by simp⟩

/-- Settles O5: the fields by their reset values, the outputs by `reset_outputsHeld`, and the balls in OFF by
`Head.ballState_off`. -/
theorem resetState : Obligations.ResetState := by
  unfold Obligations.ResetState
  refine ⟨rfl, rfl, rfl, rfl, rfl, rfl, rfl, rfl, rfl, rfl, rfl, rfl, rfl, rfl, rfl, rfl, reset_outputsHeld, ?mode, ?ranges,
    ?queued, fun k => rfl, fun n => rfl, rfl, fun h b => Head.ballState_off⟩
  case mode =>
    intro s4
    cases s4
  case ranges =>
    intro r _ _
    rw [reset_range]
    exact .inl rfl
  case queued =>
    intro i waits
    cases waits

end Sys2Proof.Machine
end

section
/-! PROOF. The blocks of the command set (O25, O27-O37): a served command's effect, computed from its definition. A command
whose effect asks nothing of the state is its description by computation; where it looks an object up, or branches, the
clause's own hypothesis decides. -/
namespace Sys2Proof.Machine

/-- Settles O25. -/
theorem queueCommands : Obligations.QueueCommands := by
  unfold Obligations.QueueCommands
  rintro p s h rfl
  refine ⟨?getQueueStatus, ?fenceQueues, ?fenceCycle, ?fenceTime, ?flushQueue, ?routePcie, ?routeEthernet⟩
  case getQueueStatus => exact fun served => answered_of served rfl
  case fenceQueues => exact fun served => owing_of served rfl
  case fenceCycle => exact fun served room => accepted_of served room rfl
  case fenceTime => exact fun served room => accepted_of served room rfl
  case flushQueue =>
    exact fun served k items discarded fgen flushed =>
      answered_of served (by simp only [flushQueueCmd, queueCommand, flushed])
  case routePcie =>
    rintro served k rfl route
    exact answered_of served (by simp only [setEventRouteCmd, queueCommand, route, reduceIte])
  case routeEthernet =>
    rintro served k rfl route
    exact answered_of served (by simp only [setEventRouteCmd, queueCommand, route.ne', reduceIte])

/-- Settles O27. -/
theorem rangeCommands : Obligations.RangeCommands := by
  unfold Obligations.RangeCommands
  rintro p s h rfl
  refine ⟨?getRange, ?setRange, ?startRunning, ?startOther, ?stopStopped, ?stopOther, ?getAxis, ?defineAxis, ?deleteAxis,
    ?axisEnable, ?disableMoving, ?disableNow⟩
  case getRange => exact fun served => answered_of served rfl
  case setRange => exact fun served => answered_of served rfl
  case startRunning => exact fun served running => answered_of served (if_pos running)
  case startOther => exact fun served idle => owing_of served (if_neg idle)
  case stopStopped => exact fun served stopped => answered_of served (if_pos stopped)
  case stopOther => exact fun served room going => accepted_of served room (if_neg going)
  case getAxis => exact fun served a found => answered_of served (by simp only [getAxisCmd, observeCommand, found])
  case defineAxis => exact fun served => answered_of served rfl
  case deleteAxis => exact fun served a found => answered_of served (by simp only [deleteAxisCmd, blockCommand, found])
  case axisEnable =>
    exact fun served a found => answered_of served (by simp only [axisEnableCmd, enableCommand, blockCommand, found])
  case disableMoving =>
    exact fun served room a found moving => accepted_of served room (by
      simp only [axisDisableCmd, enableCommand, blockCommand, found, moving, reduceIte])
  case disableNow =>
    exact fun served a found resting => answered_of served (by
      simp only [axisDisableCmd, enableCommand, blockCommand, found, resting, Bool.false_eq_true, reduceIte])

/-- Settles O28. -/
theorem moverCommands : Obligations.MoverCommands := by
  unfold Obligations.MoverCommands
  rintro p s h rfl
  refine ⟨?getMover, ?defineMover, ?bindSegment, ?unbindSegment, ?setMoverTrack, ?setGap⟩
  case getMover => exact fun served m found => answered_of served (by simp only [getMoverCmd, observeCommand, found])
  case defineMover => exact fun served => answered_of served rfl
  case bindSegment => exact fun served => answered_of served rfl
  case unbindSegment => exact fun served => answered_of served rfl
  case setMoverTrack =>
    exact fun served m found => answered_of served (by simp only [setMoverTrackCmd, blockCommand, found])
  case setGap => exact fun served => answered_of served rfl

/-- Settles O29. -/
theorem networkCommands : Obligations.NetworkCommands := by
  unfold Obligations.NetworkCommands
  rintro p s h rfl
  refine ⟨?getSchedule, ?getBranch, ?getNode, ?restoreBranch, ?setJoin, ?releaseSlot, ?saddleLane, ?branchLane,
    ?calibrateLane⟩
  case getSchedule => exact fun served => answered_of served rfl
  case getBranch => exact fun served => answered_of served rfl
  case getNode => exact fun served x found => answered_of served (by simp only [getNodeCmd, observeCommand, found])
  case restoreBranch => exact fun served => answered_of served rfl
  case setJoin => exact fun served => answered_of served rfl
  case releaseSlot => exact fun served => answered_of served rfl
  case saddleLane =>
    exact fun served saddle => answered_of served (by
      simp only [getLaneCmd, observeCommand, Nat.not_lt.mpr saddle, reduceIte])
  case branchLane =>
    exact fun served branch => answered_of served (by simp only [getLaneCmd, observeCommand, branch, reduceIte])
  case calibrateLane => exact fun served room => accepted_of served room rfl

/-- Settles O30. -/
theorem timeCommands : Obligations.TimeCommands := by
  unfold Obligations.TimeCommands
  rintro p s h rfl
  refine ⟨?getTime, ?setTimeSource, ?closeStep, ?getPtpPort, ?setPortLatency, ?setTrigger, ?armContour, ?disarmContour,
    ?usedEntry, ?freeEntry⟩
  case getTime => exact fun served => answered_of served rfl
  case setTimeSource => exact fun served => answered_of served rfl
  case closeStep => exact fun served => answered_of served rfl
  case getPtpPort => exact fun served => answered_of served rfl
  case setPortLatency => exact fun served => answered_of served rfl
  case setTrigger => rintro served g rfl; exact answered_of served rfl
  case armContour =>
    exact fun served n m free mover => answered_of served (by simp only [armContourCmd, free, mover])
  case disarmContour => exact fun served e found => answered_of served (by simp only [disarmContourCmd, found])
  case usedEntry => exact fun served e found => answered_of served (by simp only [getContourCmd, observeCommand, found])
  case freeEntry =>
    exact fun served none => answered_of served (by simp only [getContourCmd, observeCommand, none, Head.drawBytes])

/-- A command that reads an axis answers what it reads of it, and changes nothing. -/
theorem axisRead_effect {opcode : Nat} {reply : Axis → Head → List Byte} {p : Packet} {h : Head} {a : Axis}
    (found : targetAxis? p h = some a) : (axisRead opcode reply).effect p h = { head := h, reply := reply a h } := by
  simp only [axisRead, observeCommand, found]

/-- Settles O31. -/
theorem loopCommands : Obligations.LoopCommands := by
  unfold Obligations.LoopCommands
  rintro p s h rfl
  refine ⟨?getLoop, ?setCoeff, ?getCoeff, ?clearLoopFlags, ?moveTo, ?moveLanding, ?stopAtRest, ?stopMoving, ?setLimits,
    ?setBlend, ?getOverrun⟩
  case getLoop => exact fun served a found => answered_of served (axisRead_effect found)
  case setCoeff => exact fun served room a found => accepted_of served room (by simp only [setCoeffCmd, found])
  case getCoeff => exact fun served a found => answered_of served (axisRead_effect found)
  case clearLoopFlags =>
    exact fun served a found => answered_of served (by simp only [clearLoopFlagsCmd, blockCommand, found])
  case moveTo =>
    exact fun served room a found => accepted_of served room (by simp only [moveToCmd, moveCommand, blockCommand, found])
  case moveLanding =>
    exact fun served room a m x found mover landing => accepted_of served room (by
      simp only [moveLandingCmd, moveCommand, blockCommand, found, mover, landing, Option.bind_some])
  case stopAtRest =>
    exact fun served a found rest => answered_of served (by simp only [stopMoverCmd, blockCommand, found, rest, reduceIte])
  case stopMoving =>
    exact fun served room a found moving => accepted_of served room (by
      simp only [stopMoverCmd, blockCommand, found, moving, Bool.false_eq_true, reduceIte])
  case setLimits => exact fun served a found => answered_of served (by simp only [setLimitsCmd, blockCommand, found])
  case setBlend => exact fun served => answered_of served rfl
  case getOverrun => exact fun served => answered_of served rfl

/-- Settles O32. -/
theorem feedbackCommands : Obligations.FeedbackCommands := by
  unfold Obligations.FeedbackCommands
  rintro p s h rfl
  refine ⟨?getChannel, ?setChannel, ?clearChannelFlags, ?setSensor, ?setObserver, ?observeChannel, ?observeRotary,
    ?observeMover⟩
  case getChannel => exact fun served => answered_of served rfl
  case setChannel => exact fun served => answered_of served rfl
  case clearChannelFlags => exact fun served => answered_of served rfl
  case setSensor => exact fun served => answered_of served rfl
  case setObserver => exact fun served => answered_of served rfl
  case observeChannel =>
    exact fun served o c found subject => answered_of served (by simp only [getObserverCmd, observeCommand, found, subject])
  case observeRotary =>
    exact fun served o a found subject => answered_of served (by simp only [getObserverCmd, observeCommand, found, subject])
  case observeMover =>
    exact fun served o m x found subject mover => answered_of served (by
      simp only [getObserverCmd, observeCommand, found, subject, mover, Option.map_some, Option.getD_some])

/-- The last chunk of a module runs on until the module is checked, its final status known. -/
theorem finishModule_eq (h : Head) (p : Packet) (file : List Byte) :
    h.finishModule p file = { head := (h.finishModule p file).head, wait := some .moduleChecked,
                              final := (h.finishModule p file).final } := rfl

/-- Settles O33. -/
theorem placerCommands : Obligations.PlacerCommands := by
  unfold Obligations.PlacerCommands
  rintro p s h rfl
  refine ⟨?getPlacement, ?getTileLoad, ?setAffinity, ?setDispatch, ?setPlacer, ?getModule, ?loadPart, ?loadLast,
    ?deleteModule, ?attachOperation, ?detachOperation⟩
  case getPlacement => exact fun served a found => answered_of served (axisRead_effect found)
  case getTileLoad => exact fun served => answered_of served rfl
  case setAffinity => exact fun served => answered_of served rfl
  case setDispatch => exact fun served => answered_of served rfl
  case setPlacer => exact fun served => answered_of served rfl
  case getModule => exact fun served m found => answered_of served (by simp only [getModuleCmd, observeCommand, found])
  case loadPart =>
    exact fun served total file chunks part => answered_of served (by simp only [loadModuleCmd, chunks, part, reduceIte])
  case loadLast =>
    rintro served room total file e chunks whole rfl
    refine accepted_final served room ?_
    simp only [loadModuleCmd, chunks, whole, reduceIte]
    exact finishModule_eq _ p file
  case deleteModule => exact fun served => answered_of served rfl
  case attachOperation =>
    exact fun served m e found => answered_of served (by
      simp only [attachOperationCmd, blockCommand, found]
      rfl)
  case detachOperation => exact fun served => answered_of served rfl

/-- Settles O34. -/
theorem stepperCommands : Obligations.StepperCommands := by
  unfold Obligations.StepperCommands
  rintro p s h rfl
  refine ⟨?getStepper, ?setStepper, ?setStepperLimits, ?moveStepper, ?moveGroup, ?stopAtRest, ?stopMoving, ?homeStepper,
    ?setMoveDesc, ?clearStepperFlags⟩
  case getStepper => exact fun served a found => answered_of served (by simp only [getStepperCmd, observeCommand, found])
  case setStepper => exact fun served a found => answered_of served (by simp only [setStepperCmd, stepCommand, found])
  case setStepperLimits =>
    exact fun served a found => answered_of served (by simp only [setStepperLimitsCmd, stepCommand, found])
  case moveStepper =>
    exact fun served room a found => accepted_of served room (by simp only [moveStepperCmd, stepCommand, found])
  case moveGroup =>
    exact fun served room k leader started => accepted_of served room (by simp only [moveGroupCmd, started])
  case stopAtRest =>
    exact fun served a found rest => answered_of served (by simp only [stopStepperCmd, stepCommand, found, rest, reduceIte])
  case stopMoving =>
    exact fun served room a found moving => accepted_of served room (by
      simp only [stopStepperCmd, stepCommand, found, moving, Bool.false_eq_true, reduceIte, decide_eq_true_eq])
  case homeStepper =>
    exact fun served room a found => accepted_of served room (by simp only [homeStepperCmd, stepCommand, found])
  case setMoveDesc => exact fun served a found => answered_of served (by simp only [setMoveDescCmd, stepCommand, found])
  case clearStepperFlags =>
    exact fun served a found => answered_of served (by simp only [clearStepperFlagsCmd, stepCommand, found])

/-- Settles O35. -/
theorem acquisitionCommands : Obligations.AcquisitionCommands := by
  unfold Obligations.AcquisitionCommands
  rintro p s h rfl
  refine ⟨?unsetStream, ?setUpStream, ?setProbe, ?setStream, ?streamStart, ?stopRunning, ?stopOther, ?setTrigUnit, ?arm,
    ?disarm, ?forceTrigger, ?getTrigUnit, ?startCapture, ?abortCapture, ?readSegment, ?getAdc, ?setAdc, ?setAdcTrigger,
    ?setInput, ?readResult, ?readFree, ?calibrate, ?skew⟩
  case unsetStream =>
    exact fun served none => answered_of served (by simp only [getStreamCmd, acqCommand, none])
  case setUpStream => exact fun served c found => answered_of served (by simp only [getStreamCmd, acqCommand, found])
  case setProbe => exact fun served => answered_of served rfl
  case setStream => exact fun served => answered_of served rfl
  case streamStart => exact fun served => answered_of served rfl
  case stopRunning =>
    exact fun served running => answered_of served
      (congrArg (fun k : Head => ({ head := k } : Effect)) (if_neg (not_not.mpr running)))
  case stopOther =>
    exact fun served other => answered_of served (congrArg (fun k : Head => ({ head := k } : Effect)) (if_pos other))
  case setTrigUnit => exact fun served => answered_of served rfl
  case arm => exact fun served on => answered_of served (by simp only [armUnitCmd, acqCommand, on, reduceIte])
  case disarm =>
    exact fun served off => answered_of served (by simp only [armUnitCmd, acqCommand, off, Nat.zero_ne_one, reduceIte])
  case forceTrigger =>
    exact fun served k fired forced => answered_of served (by simp only [forceTriggerCmd, acqCommand, forced])
  case getTrigUnit => exact fun served => answered_of served rfl
  case startCapture => exact fun served room => accepted_of served room rfl
  case abortCapture => exact fun served => answered_of served rfl
  case readSegment => exact fun served => answered_of served rfl
  case getAdc => exact fun served => answered_of served rfl
  case setAdc => exact fun served => answered_of served rfl
  case setAdcTrigger => exact fun served => answered_of served rfl
  case setInput => exact fun served => answered_of served rfl
  case readResult => exact fun served l found => answered_of served (by simp only [readChannelCmd, acqCommand, found])
  case readFree =>
    exact fun served none => answered_of served (by simp only [readChannelCmd, acqCommand, none, Head.drawBytes])
  case calibrate =>
    exact fun served room zero => accepted_of served room (by simp only [calibrateAdcCmd, acqCommand, zero, reduceIte])
  case skew =>
    exact fun served room one => accepted_of served room (by
      simp only [calibrateAdcCmd, acqCommand, one, Nat.one_ne_zero, reduceIte])

/-- Settles O36. -/
theorem redundancyCommands : Obligations.RedundancyCommands := by
  unfold Obligations.RedundancyCommands
  rintro p s h rfl
  refine ⟨?getRedundancy, ?setReturn, ?switchover, ?resyncPeer⟩
  case getRedundancy => rintro served training granted rfl rfl; exact answered_of served rfl
  case setReturn => rintro served k rfl; exact answered_of served rfl
  case switchover =>
    exact fun served room commands => accepted_of served room (by
      simp only [switchoverCmd, blockCommand, commands, Bool.not_true, Bool.false_eq_true, reduceIte])
  case resyncPeer =>
    exact fun served room commands => accepted_of served room (by
      simp only [resyncPeerCmd, blockCommand, commands, Bool.not_true, Bool.false_eq_true, reduceIte])

/-- Settles O37. -/
theorem faultCommands : Obligations.FaultCommands := by
  unfold Obligations.FaultCommands
  rintro p s h rfl
  refine ⟨?getFaultSummary, ?getFaults, ?listFaults, ?clearFault, ?clearFirstFault, ?setAlive, ?setBelayConfig,
    ?setOutputGroup⟩
  case getFaultSummary => exact fun served => answered_of served rfl
  case getFaults => rintro served l rfl; exact answered_of served rfl
  case listFaults => rintro served ls rfl; exact answered_of served rfl
  case clearFault => rintro served k rfl; exact answered_of served rfl
  case clearFirstFault => exact fun served => answered_of served rfl
  case setAlive => exact fun served => answered_of served rfl
  case setBelayConfig => exact fun served => answered_of served rfl
  case setOutputGroup => exact fun served => answered_of served rfl

/-- Settles O39. -/
theorem powerCommands : Obligations.PowerCommands := by
  unfold Obligations.PowerCommands
  rintro p s h rfl
  refine ⟨?getPower, ?setPowerConfig, ?getRtc, ?setRtcClearing, ?setRtcKeeping, ?setRtcAlarm, ?setRtcConfig, ?readBackup,
    ?writeBackup⟩
  case getPower => exact fun served => answered_of served rfl
  case setPowerConfig => exact fun served => answered_of served rfl
  case getRtc => exact fun served => answered_of served rfl
  case setRtcClearing =>
    exact fun served clear => answered_of served (by simp only [setRtcCmd, localCommand, clear, reduceIte])
  case setRtcKeeping =>
    exact fun served keep => answered_of served (by
      simp only [setRtcCmd, localCommand, keep, Bool.false_eq_true, reduceIte])
  case setRtcAlarm => exact fun served => answered_of served rfl
  case setRtcConfig => exact fun served => answered_of served rfl
  case readBackup => exact fun served => answered_of served rfl
  case writeBackup => exact fun served => answered_of served rfl

/-- Ball code 0x100 is no general-purpose ball. -/
theorem ppsIn_not_general {n : Nat} (code : n = 0x100) : ¬ n < 40 := by omega

/-- Settles O40. -/
theorem pinCommands : Obligations.PinCommands := by
  unfold Obligations.PinCommands
  rintro p s h rfl
  refine ⟨?generalBall, ?ppsIn, ?setPin, ?commitPins, ?setGpio, ?getFieldIo, ?setFieldInput, ?setFieldOutput,
    ?setFoutConfig⟩
  case generalBall => exact fun served ball => answered_of served (if_pos ball)
  case ppsIn => exact fun served code => answered_of served (if_neg (ppsIn_not_general code))
  case setPin => exact fun served => answered_of served rfl
  case commitPins => exact fun served => answered_of served rfl
  case setGpio => exact fun served => answered_of served rfl
  case getFieldIo => exact fun served => answered_of served rfl
  case setFieldInput => exact fun served => answered_of served rfl
  case setFieldOutput =>
    exact fun served k written => answered_of served (by simp only [setFieldOutputCmd, pinCommand, written])
  case setFoutConfig => exact fun served => answered_of served rfl

end Sys2Proof.Machine
end

section
/-! PROOF. The events of the host interface, the start and the modes (O41-O45): an event on an object that exists ends
in its effect, whose guards the hypotheses of the clause decide. -/
namespace Sys2Proof.Machine

/-- An access to BAR0 of a part that runs has its effect. -/
theorem bar0_running {h : Head} {f : Head → Head} (running : h.fromBoot = true) : h.bar0 f = f h := if_pos running

/-- An update of an entry counts only by what it gives for that entry. -/
theorem modify_congr {α : Type} {f g : α → α} {l : List α} {i : Nat} {d : α} (same : f (l.getD i d) = g (l.getD i d)) :
    l.modify i f = l.modify i g := by
  refine List.ext_getElem? fun j => ?_
  rw [List.getElem?_modify, List.getElem?_modify]
  by_cases here : i = j
  · subst here
    cases entry : l[i]? with
    | none => rfl
    | some x =>
      rw [List.getD_eq_getElem?_getD, entry, Option.getD_some] at same
      simp only [Option.map_eq_map, Option.map_some, if_pos, same]
  · simp only [if_neg here]

/-- An update of a queue counts only by what it gives for that queue. -/
theorem setQueue_congr {h : Head} {q : Nat} {f g : Queue → Queue} (same : f (h.queue q) = g (h.queue q)) :
    h.setQueue q f = h.setQueue q g := congrArg (fun qs => { h with queues := qs }) (modify_congr same)

/-- Settles O41. -/
theorem doorbellRows : Obligations.DoorbellRows := by
  unfold Obligations.DoorbellRows
  rintro s h rfl
  refine ⟨?tailBeyond, ?tailInside, ?cqHeadWrite, ?sqFlushWrite, ?queueEnable, ?queueDisable, ?eqEnable, ?eqDisable,
    ?eqHeadWrite, ?sqSkippedRead, ?eqDroppedRead⟩
  case tailBeyond =>
    intro q index slots inRange index12 running beyond
    refine event_reacts (by simp [inRange, index12]) ((bar0_running running).trans (setQueue_congr ?_))
    exact (if_pos beyond).trans (if_pos beyond).symm
  case tailInside =>
    intro q index slots inRange index12 running inside
    exact event_reacts (by simp [inRange, index12]) (bar0_running running)
  case cqHeadWrite =>
    intro q index inRange index12 running
    exact event_reacts (by simp [inRange, index12]) (bar0_running running)
  case sqFlushWrite =>
    intro q value inRange running flush enabled
    exact event_reacts (decide_eq_true inRange) ((bar0_running running).trans (if_pos (by simp [flush, enabled])))
  case queueEnable =>
    intro q inRange running disabled
    exact event_reacts (decide_eq_true inRange) ((bar0_running running).trans (if_neg (by simp [disabled])))
  case queueDisable =>
    intro q inRange running enabled
    exact event_reacts (decide_eq_true inRange) ((bar0_running running).trans (if_neg (by simp [enabled])))
  case eqEnable =>
    exact fun running disabled => event_reacts rfl ((bar0_running running).trans (if_neg (by simp [disabled])))
  case eqDisable => exact fun running => event_reacts rfl (bar0_running running)
  case eqHeadWrite =>
    intro index inRange running
    refine event_reacts (decide_eq_true inRange) ((bar0_running running).trans ?_)
    simp only [Head.writeEqHead, Nat.mod_eq_of_lt inRange]
  case sqSkippedRead => exact fun q inRange running => event_reacts (decide_eq_true inRange) (bar0_running running)
  case eqDroppedRead => exact fun running => event_reacts rfl (bar0_running running)

/-- A head in BOOT that boots over PCIe takes accesses, and its recovery window is open. -/
theorem recovery_open {h : Head} (boot : h.sys.mode = .boot) (pcie : h.sys.bootsel = 2) :
    h.fromBoot = true ∧ h.recoveryOpen = true := by simp [Head.fromBoot, Head.recoveryOpen, boot, pcie]

/-- Settles O42. -/
theorem portRows : Obligations.PortRows := by
  unfold Obligations.PortRows
  rintro s h rfl
  refine ⟨?timeWide, ?timeNarrow, ?cycleWide, ?cycleNarrow, ?recCommit, ?recEnd, ?word, ?doubleWord,
    ?pciePowerState, ?perstAssert, ?pcieLinkDown, ?pcieLinkUp, ?ethDatagramRx, ?ethFrameRx, ?reassemblyTimeout,
    ?eventDatagramSend⟩
  case timeWide => exact fun running => event_reacts rfl (bar0_running running)
  case timeNarrow => exact fun running => event_reacts rfl (bar0_running running)
  case cycleWide => exact fun running => event_reacts rfl (bar0_running running)
  case cycleNarrow => exact fun running => event_reacts rfl (bar0_running running)
  case recCommit =>
    intro length window boot pcie ready least most
    obtain ⟨running, opened⟩ := recovery_open boot pcie
    refine event_reacts rfl ((bar0_running running).trans ?_)
    rw [Head.fillWindow, if_pos opened]
    exact if_pos (by simp [Head.recoveryOpen, boot, pcie, ready, least, most])
  case recEnd =>
    intro boot pcie ready
    obtain ⟨running, opened⟩ := recovery_open boot pcie
    exact event_reacts rfl ((bar0_running running).trans (if_pos (by simp [opened, ready])))
  case word =>
    intro offset value inRange aligned running
    exact event_reacts (decide_eq_true inRange) ((bar0_running running).trans (if_pos aligned))
  case doubleWord =>
    intro offset value inRange aligned running
    exact event_reacts (decide_eq_true inRange) ((bar0_running running).trans (if_pos aligned))
  case pciePowerState => exact fun d3hot pme => event_reacts rfl rfl
  case perstAssert => exact event_reacts rfl rfl
  case pcieLinkDown => exact event_reacts rfl rfl
  case pcieLinkUp => exact event_reacts rfl rfl
  case ethDatagramRx =>
    exact fun port srcAddr srcPort dstPort payload inRange up => event_reacts (decide_eq_true inRange) (if_pos up)
  case ethFrameRx => exact fun port frame inRange up => event_reacts (decide_eq_true inRange) (if_pos up)
  case reassemblyTimeout =>
    intro port index r inRange index4 found due
    refine event_reacts (by simp [inRange, index4]) ?_
    simp only [found]
    exact if_pos due
  case eventDatagramSend =>
    intro count least most routed staged
    exact event_reacts (by simp [least, most]) (if_pos (by simp [routed, staged]))

/-- Settles O43. -/
theorem itemRows : Obligations.ItemRows := by
  unfold Obligations.ItemRows
  rintro s h rfl
  refine ⟨?itemStart, ?discarded, ?tooLong, ?fits, ?answered, ?fenceTimeout, ?groupEffect, ?byCycle, ?byTime⟩
  case itemStart => exact event_reacts rfl rfl
  case discarded =>
    intro q i rest status params inRange taken final discard
    refine event_reacts (decide_eq_true inRange) ?_
    simp only [Head.asyncDone, taken, final]
    exact if_pos discard
  case tooLong =>
    intro q r rest inRange waiting enabled pcie tooLong room
    refine event_reacts (decide_eq_true inRange) ?_
    simp only [Head.writeCompletion, waiting, Nat.not_le.mpr tooLong, if_false]
    exact if_neg (by simp [enabled, pcie, room])
  case fits =>
    intro q r rest inRange waiting enabled pcie fits room
    refine event_reacts (decide_eq_true inRange) ?_
    simp only [Head.writeCompletion, waiting, fits, if_true]
    exact if_neg (by simp [enabled, pcie, room])
  case answered =>
    intro q i rest status params inRange taken final keep
    refine event_reacts (decide_eq_true inRange) ?_
    simp only [Head.asyncDone, taken, final]
    exact if_neg (ne_true_of_eq_false keep)
  case fenceTimeout =>
    intro f rest fences late
    refine event_reacts rfl ?_
    simp only [Head.fenceTimeout, fences]
    exact if_neg (by simp [late])
  case groupEffect => exact fun q inRange => event_reacts (decide_eq_true inRange) rfl
  case byCycle =>
    intro q g inRange found open_ byCycle late
    refine event_reacts (decide_eq_true inRange) ?_
    simp only [Head.abandonGroup, found]
    exact if_pos (by simp [open_, byCycle, late])
  case byTime =>
    intro q g inRange found open_ byTime late
    refine event_reacts (decide_eq_true inRange) ?_
    simp only [Head.abandonGroup, found]
    exact if_pos (by simp [open_, byTime, late])

/-- Settles O44. -/
theorem startRows : Obligations.StartRows := by
  unfold Obligations.StartRows
  rintro s h rfl
  refine ⟨?vinStart, ?railSequenceFail, ?railRetry, ?porNRise, ?headTimeLoad, ?stepSucceeded, ?stepFailed,
    ?bootStepTimeout, ?saddleWindowEnd, ?soloToActive, ?networkBuildEnd, ?autoService⟩
  case vinStart => exact fun vin mode level => event_reacts rfl (if_pos (by simp [mode, level]))
  case railSequenceFail => exact fun mode sequencing => event_reacts rfl (if_pos (by simp [mode, sequencing]))
  case railRetry => exact fun mode retryDue retries => event_reacts rfl (if_pos (by simp [mode, retryDue, retries]))
  case porNRise =>
    intro bootsel headSel testN inRange mode porN sequencing
    exact event_reacts (decide_eq_true inRange) (if_pos (by simp [mode, porN, sequencing]))
  case headTimeLoad => exact fun loadDue porN mode => event_reacts rfl (if_pos (by simp [loadDue, porN, mode]))
  case stepSucceeded => exact fun booting => event_reacts rfl (if_neg (by simp [booting]))
  case stepFailed => exact fun booting => event_reacts rfl (if_neg (by simp [booting]))
  case bootStepTimeout =>
    intro booting recoveryWaits notSaddle notBuilt
    exact event_reacts rfl (if_neg (by simp [booting, recoveryWaits, notSaddle, notBuilt]))
  case saddleWindowEnd =>
    intro peerHome boot step going
    refine event_reacts rfl (if_pos ?_)
    rcases going with running | ⟨late, up⟩
    · simp [boot, step, running]
    · cases failed : s.fresh.sys.bootFailed <;> simp [boot, step, late, up]
  case soloToActive => exact fun role peerStandby => event_reacts rfl (if_pos (by simp [role, peerStandby]))
  case networkBuildEnd => exact fun mode built => event_reacts rfl (if_neg (by simp [mode, built]))
  case autoService =>
    intro mode autoService commands transition rescueReady networkReady
    exact event_reacts rfl (if_pos (by simp [mode, autoService, commands, transition, rescueReady, networkReady]))

/-- Settles O45. -/
theorem modeRows : Obligations.ModeRows := by
  unfold Obligations.ModeRows
  rintro s h rfl
  refine ⟨?modeTransitionDone, ?resetNFall, ?resetNRise, ?porNFall, ?inputWakes, ?nodeWakes, ?rtcWakes,
    ?rescueTriggerFieldInput, ?rescueTriggerVin, ?rescueTilesGated, ?rescueDone, ?pllRelockTimeout⟩
  case modeTransitionDone =>
    rintro t k transition ready rfl
    refine event_reacts rfl ?_
    simp only [transition]
    exact if_neg (by simp [ready])
  case resetNFall => exact fun running => event_reacts rfl (if_pos running)
  case resetNRise => exact event_reacts rfl rfl
  case porNFall => exact event_reacts rfl rfl
  case inputWakes => exact fun edge => event_reacts rfl ((if_neg (by simp [edge])).trans (if_neg (by decide)))
  case nodeWakes => exact fun wake => event_reacts rfl ((if_neg (by simp)).trans (if_pos wake))
  case rtcWakes => exact event_reacts rfl ((if_neg (by simp)).trans (if_neg (by decide)))
  case rescueTriggerFieldInput =>
    exact fun triggers mainsFailed mayRescue => event_reacts rfl (if_pos (by simp [triggers, mainsFailed, mayRescue]))
  case rescueTriggerVin =>
    rintro vin k running rfl trigger low may
    refine event_reacts rfl ?_
    rw [if_pos running]
    exact if_pos (by rw [trigger, may, decide_eq_true low]; rfl)
  case rescueTilesGated =>
    intro rescue reached settled moved
    exact event_reacts rfl (if_pos (by rw [rescue, settled, moved, decide_eq_true reached]; rfl))
  case rescueDone =>
    rintro k mode transition rescueDone commands allLanded rfl
    exact event_reacts rfl (if_neg (by simp [mode, transition, rescueDone, commands, allLanded]))
  case pllRelockTimeout =>
    exact fun c inRange lost failed => event_reacts (decide_eq_true inRange) (if_pos (by simp [lost, failed]))

end Sys2Proof.Machine
end

section
/-! PROOF. The events of the cycle, the network and the control graph (O46-O51): an event on an object that exists
ends in its effect, whose guards the hypotheses of the clause decide. -/
namespace Sys2Proof.Machine

/-- A fold whose steps keep a part of the head keeps it. -/
theorem foldl_keeps {α β : Type} {step : Head → α → Head} {part : Head → β}
    (keeps : ∀ (h : Head) (x : α), part (step h x) = part h) (xs : List α) (h : Head) :
    part (xs.foldl step h) = part h := by
  induction xs generalizing h with
  | nil => rfl
  | cons x xs ih => exact (ih (step h x)).trans (keeps h x)

theorem trainLanes_peer (h : Head) (p : Nat → Bool) : (h.trainLanes p).peer = h.peer := by
  refine foldl_keeps (part := Head.peer) (fun k i => ?_) _ h
  by_cases branch : i < 32
  · simp only [if_pos branch]; rfl
  · simp only [if_neg branch]; rfl

theorem idleLanes_peer (h : Head) (idle : Bool) : (h.idleLanes idle).peer = h.peer := by
  cases idle
  · exact trainLanes_peer h _
  · rfl

theorem enterKind_peer (h : Head) (k : SchedKind) : (h.enterKind k).peer = h.peer := by
  have reloaded (j : Head) (c : Prop) [Decidable c] : (if c then j.reloadFilters else j).peer = j.peer := by
    split <;> rfl
  unfold Head.enterKind
  extract_lets old net j l
  split
  · rfl
  · rw [apply_ite Head.peer, idleLanes_peer, ite_self]
    exact reloaded j _

/-- What a beacon tells the STANDBY head leaves the measured delay of the saddle. -/
theorem learnBeacon_peer (h : Head) (b : Nat) (p : List Byte) : (h.learnBeacon b p).peer = h.peer := by
  have entry (j : Head) (e : List Byte) : (j.learnEntry b e).peer = j.peer := by
    unfold Head.learnEntry
    simp only [apply_ite Head.peer, Head.setBranch, Head.setPosition, ite_self]
  unfold Head.learnBeacon
  extract_lets bflags j l m
  rw [apply_ite Head.peer, entry, ite_self]
  exact enterKind_peer h _

/-- Settles O46. -/
theorem cycleRows : Obligations.CycleRows := by
  unfold Obligations.CycleRows
  rintro s h rfl
  refine ⟨?recordReadyDeadline, ?cycleStart, ?backupBeaconSlot, ?uplinkFrameRx, ?forwardedUplinkRx, ?lateBeacon,
    ?firstBeacon, ?laterBeacon, ?recordReady, ?recordLate, ?forwardedDownlinkRx⟩
  case recordReadyDeadline =>
    rintro node p j k payload inRange commands running supervised found held empty made rfl
    refine event_reacts (decide_eq_true inRange) ((if_neg (by simp [commands, running, supervised])).trans ?_)
    simp only [found]
    refine (if_neg (by simp [held, empty])).trans ?_
    rw [made]
  case cycleStart => exact fun fromCommission => event_reacts rfl (if_pos (by simp [fromCommission]))
  case backupBeaconSlot => exact fun role running kind => event_reacts rfl (if_pos (by simp [role, running, kind]))
  case uplinkFrameRx => exact fun branch start bytes truncated inRange => event_reacts (decide_eq_true inRange) rfl
  case forwardedUplinkRx =>
    intro bytes k lane inner role up opened static branch length held
    refine event_reacts rfl ((if_neg (by simp [role, up])).trans ?_)
    simp only [opened]
    exact if_pos (by rw [held, decide_eq_true static, decide_eq_true branch, decide_eq_true length]; rfl)
  case lateBeacon =>
    intro arrival bytes lane inner role up parts inRange late
    refine event_reacts rfl ((if_neg (by simp [role, up])).trans ?_)
    simp only [parts]
    exact (if_neg (by omega)).trans (if_pos late)
  case firstBeacon =>
    rintro arrival bytes lane inner k role up parts inRange intime clean beacon reserved rfl first
    refine event_reacts rfl ((if_neg (by simp [role, up])).trans ?_)
    simp only [parts, learnBeacon_peer]
    exact (if_neg (by omega)).trans
      ((if_neg (by omega)).trans ((if_neg (by simp [clean, beacon, reserved])).trans (if_pos first)))
  case laterBeacon =>
    rintro arrival bytes lane inner k role up parts inRange intime clean beacon reserved rfl later
    refine event_reacts rfl ((if_neg (by simp [role, up])).trans ?_)
    simp only [parts]
    exact (if_neg (by omega)).trans
      ((if_neg (by omega)).trans ((if_neg (by simp [clean, beacon, reserved])).trans
        (if_neg (ne_true_of_eq_false later))))
  case recordReady =>
    intro node p f inRange found running supervised held cut calibrated ready
    refine event_reacts (decide_eq_true inRange) ?_
    simp only [found, ready]
    exact if_neg (by simp [running, supervised, held, cut, calibrated])
  case recordLate =>
    intro node p inRange found running supervised held cut calibrated empty standby
    refine event_reacts (decide_eq_true inRange) ?_
    simp only [found, empty]
    exact (if_neg (by simp [running, supervised, held, cut, calibrated])).trans (if_pos standby)
  case forwardedDownlinkRx =>
    intro bytes lane inner role up parts inRange clean header static branch length
    refine event_reacts rfl ((if_neg (by simp [role, up])).trans ?_)
    simp only [parts]
    exact if_neg (by simp [inRange, clean, header, static, branch, length])

/-- Settles O47. -/
theorem nodeRows : Obligations.NodeRows := by
  unfold Obligations.NodeRows
  rintro s h rfl
  refine ⟨?poll, ?request, ?dynReplyRx, ?contourLate, ?joinClaimRx, ?grantHeard, ?grantCommanded, ?nodeSilent,
    ?nodeLost, ?revokeComplete⟩
  case poll =>
    intro branch mini p inRange may polled
    refine event_reacts (decide_eq_true inRange) ((if_neg (by simp [may])).trans ?_)
    simp only [polled]
  case request =>
    intro branch mini r rest inRange may unpolled queued
    refine event_reacts (decide_eq_true inRange) ((if_neg (by simp [may])).trans ?_)
    simp only [unpolled, queued]
  case dynReplyRx =>
    exact fun branch channel start bytes truncated inRange twoChannels => event_reacts (by simp [inRange, twoChannels]) rfl
  case contourLate =>
    intro entry a inRange found
    refine event_reacts (decide_eq_true inRange) ?_
    simp only [found]
  case joinClaimRx =>
    exact fun branch channel start bytes truncated inRange twoChannels => event_reacts (by simp [inRange, twoChannels]) rfl
  case grantHeard =>
    intro node e inRange found commands
    refine event_reacts (decide_eq_true inRange) ?_
    simp only [found]
    exact if_pos (by rw [Bool.not_eq_true']; exact commands)
  case grantCommanded =>
    rintro node e k inRange found rfl commands
    refine event_reacts (decide_eq_true inRange) ?_
    simp only [found]
    exact if_neg (by rw [commands]; decide)
  case nodeSilent =>
    intro node p inRange position state silent parked commands
    refine event_reacts (decide_eq_true inRange) ?_
    simp only [position, parked]
    exact if_pos (by simp [state, silent, commands])
  case nodeLost =>
    intro node p inRange position state silent parked commands
    refine event_reacts (decide_eq_true inRange) ?_
    simp only [position, parked]
    exact if_pos (by simp [state, silent, commands])
  case revokeComplete =>
    intro node e inRange kind
    refine event_reacts (decide_eq_true inRange) ?_
    simp only [kind]
    rfl

/-- A calibration that was asked for is due. -/
theorem calibrationDue_asked {h : Head} {b c : Nat} (asked : ((h.branch b).chan c).calState = 1) :
    h.calibrationDue b c = true := by simp [Head.calibrationDue, asked]

/-- Settles O48. -/
theorem laneRows : Obligations.LaneRows := by
  unfold Obligations.LaneRows
  rintro s h rfl
  refine ⟨?scheduleSwitch, ?saddleUp, ?branchUpInverted, ?calibrateCommanded, ?calibrateReported, ?calibrateMoved,
    ?laneCalibrationDone, ?branchDown, ?saddleDown, ?branchUpPlain, ?branchUpNewlyInverted, ?saddleLaneUp⟩
  case scheduleSwitch =>
    rintro w k switch due rfl
    refine event_reacts rfl ?_
    simp only [switch]
    exact if_pos due
  case saddleUp =>
    rintro k saddleUp link rfl
    exact event_reacts rfl (if_neg (by simp [saddleUp, link]))
  case branchUpInverted =>
    intro lane inRange down inverted
    refine event_reacts (by simp; omega) ((if_neg (by simp; omega)).trans ?_)
    simp only [inverted, if_pos inRange, Bool.not_true, Bool.and_false, Bool.false_eq_true, if_false]
  case calibrateCommanded =>
    intro branch channel inRange twoChannels due running listed commands
    refine event_reacts (by simp [inRange, twoChannels]) ((if_neg (by rw [due, running, listed]; decide)).trans ?_)
    simp only [calibrationDue_asked due, due, Nat.one_ne_zero, decide_false, Bool.false_and, Bool.not_true,
      Bool.false_eq_true, if_false, if_pos commands]
  case calibrateReported =>
    intro branch channel inRange twoChannels due running listed commands own
    refine event_reacts (by simp [inRange, twoChannels]) ((if_neg (by rw [due, running, listed]; decide)).trans ?_)
    simp only [calibrationDue_asked due, due, commands, Nat.one_ne_zero, decide_false, Bool.false_and, Bool.not_true,
      Bool.false_eq_true, if_false, if_pos own]
  case calibrateMoved =>
    intro branch channel inRange twoChannels idle running listed own
    refine event_reacts (by simp [inRange, twoChannels]) ((if_neg (by rw [idle, running, listed]; decide)).trans ?_)
    have due : s.fresh.calibrationDue branch channel = s.fresh.dieMoved branch := by
      simp [Head.calibrationDue, idle, own]
    have kept : s.fresh.drawInt.2.isOwn channel = true := own
    simp only [due, idle, own, decide_true, Bool.and_true, if_true, kept]
    cases s.fresh.dieMoved branch <;> rfl
  case laneCalibrationDone =>
    intro branch channel inRange twoChannels calState calLeft
    exact event_reacts (by simp [inRange, twoChannels]) (if_pos (by simp [calState, calLeft]))
  case branchDown =>
    intro lane inRange up
    exact event_reacts (by simp; omega) ((if_neg (by simp; omega)).trans (if_neg (by omega)))
  case saddleDown =>
    intro lane saddle inRange up
    exact event_reacts (by simp; omega) ((if_neg (by simp; omega)).trans (if_pos saddle))
  case branchUpPlain =>
    intro lane inRange down
    refine event_reacts (by simp; omega) ((if_neg (by simp; omega)).trans ?_)
    simp only [if_pos inRange, Bool.false_and, Bool.false_eq_true, if_false]
  case branchUpNewlyInverted =>
    intro lane inRange down plain
    refine event_reacts (by simp; omega) ((if_neg (by simp; omega)).trans ?_)
    simp only [plain, if_pos inRange, Bool.not_false, Bool.and_true, if_true]
  case saddleLaneUp =>
    intro lane inverted saddle inRange down apart known
    have noNews : (inverted && !(s.fresh.lane lane).inverted) = false := by
      cases inverted
      · rfl
      · rw [known rfl]; rfl
    refine event_reacts (by simp; omega) ((if_neg (by simp; omega)).trans ?_)
    simp only [noNews, Bool.false_eq_true, if_false, Nat.not_lt.mpr saddle, Head.setLane_peer, Head.setLane_time, apart]

/-- Settles O49. -/
theorem placementRows : Obligations.PlacementRows := by
  unfold Obligations.PlacementRows
  rintro s h rfl
  refine ⟨?fullPlacement, ?placeNew, ?migrationPrepare, ?migrationCommit, ?migrationAborted, ?windowLoad,
    ?bufferSwitch, ?tableLoadDone, ?tileRemoved, ?axisRestore, ?torDispatch, ?engineDispatch, ?shedLevelFall,
    ?shedLevelRise, ?shedLevelTop, ?torPreemption, ?massifPreemption⟩
  case fullPlacement =>
    intro running due
    exact event_reacts rfl ((if_neg (by simp [running])).trans (if_pos due))
  case placeNew =>
    intro running settled new
    exact event_reacts rfl ((if_neg (by simp [running])).trans ((if_neg (ne_true_of_eq_false settled)).trans (if_pos new)))
  case migrationPrepare =>
    intro axis tile core a inRange tile16 found placed elsewhere room may
    refine event_reacts (by simp [inRange, tile16]) ?_
    simp only [found]
    exact if_pos (by simp [placed, elsewhere, room, may])
  case migrationCommit =>
    rintro axis a tile core since k inRange found moving rfl gap due taken
    refine event_reacts (decide_eq_true inRange) ?_
    simp only [found, moving]
    exact if_pos (by simp [gap, due, taken])
  case migrationAborted =>
    intro axis a inRange found state
    exact event_reacts (decide_eq_true inRange) (if_pos (by simp [found, state]))
  case windowLoad =>
    intro tile table coordinate inRange state windowWanted
    exact event_reacts (decide_eq_true inRange) (if_pos (by simp [state, windowWanted]))
  case bufferSwitch =>
    intro tile slot tile16 slot16
    refine event_reacts (by simp [tile16, slot16]) ?_
    simp only [Bool.and_eq_true, decide_eq_true_eq]
  case tableLoadDone =>
    intro tile slot b tile16 slot16 loading steady
    refine event_reacts (by simp [tile16, slot16]) ?_
    simp only [loading]
    exact if_neg (by simp [steady])
  case tileRemoved =>
    intro tile inRange state fromBoot
    exact event_reacts (decide_eq_true inRange) (if_neg (by simp [state, fromBoot]))
  case axisRestore =>
    rintro rs k inGap rfl rfl
    exact event_reacts rfl (if_neg (by simp [inGap]))
  case torDispatch =>
    intro list tor runs
    refine event_reacts (by simp; omega) ((if_neg (by simp [runs])).trans (if_neg ?_))
    rcases tor with small | last <;> simp <;> omega
  case engineDispatch =>
    intro list least most runs
    exact event_reacts (by simp; omega) ((if_neg (by simp [runs])).trans (if_pos (by simp [least, most])))
  case shedLevelFall => exact fun shed calm => event_reacts rfl (if_pos (by simp [shed, calm]))
  case shedLevelRise => exact fun long level => event_reacts rfl ((if_pos (by simp; omega)).trans (if_neg (by omega)))
  case shedLevelTop =>
    rintro k long level rfl
    refine event_reacts rfl ((if_pos (by simp; omega)).trans ?_)
    simp only [level]
    rfl
  case torPreemption =>
    rintro list o c displaced k inRange runs best victim busy rfl
    refine event_reacts (by simp; omega) ((if_neg (by simp [runs]; omega)).trans ?_)
    simp only [best, victim, busy, if_pos inRange, Bool.false_eq_true, if_false]
  case massifPreemption =>
    rintro o c displaced k runs best victim busy rfl
    refine event_reacts rfl ((if_neg (by simp [runs])).trans ?_)
    simp only [best, victim, busy, Bool.false_eq_true, if_false]
    exact if_neg (by decide)

/-- Settles O50. -/
theorem graphRows : Obligations.GraphRows := by
  unfold Obligations.GraphRows
  rintro s h rfl
  refine ⟨?cutoff, ?lastCutoff, ?axisGraphComplete, ?moverForceTimeout, ?holdFault, ?rangeOverrun, ?graphAbandoned,
    ?followingError, ?noCoverage⟩
  case cutoff =>
    rintro mover m a k inRange found axis cut inTurn rfl other
    refine event_reacts (decide_eq_true inRange) ?_
    simp only [found, axis]
    refine (if_neg (by simp [cut, inTurn])).trans (if_neg fun last => ?_)
    rw [Bool.and_eq_true, Bool.not_eq_true'] at last
    rw [last.1, last.2] at other
    exact absurd other (by decide)
  case lastCutoff =>
    rintro mover m a k inRange found axis cut inTurn rfl last
    refine event_reacts (decide_eq_true inRange) ?_
    simp only [found, axis]
    exact (if_neg (by simp [cut, inTurn])).trans (if_pos last)
  case axisGraphComplete =>
    rintro axis a k b w inRange found commands opened rfl still work done
    refine event_reacts (decide_eq_true inRange) ?_
    simp only [found]
    refine (if_neg (by simp [commands, opened])).trans ?_
    simp only [still, work]
    exact if_pos done
  case moverForceTimeout =>
    intro mover m a inRange found axis commands cut force runs
    refine event_reacts (decide_eq_true inRange) ?_
    simp only [found, axis, force]
    exact if_pos (by simp [commands, cut, runs])
  case holdFault =>
    intro axis a inRange found run
    refine event_reacts (decide_eq_true inRange) ?_
    simp only [found]
    exact if_pos (by simp [run])
  case rangeOverrun =>
    intro range inRange cls state holdLimit
    exact event_reacts (decide_eq_true inRange) (if_pos (by simp [cls, state, holdLimit]))
  case graphAbandoned => exact fun axis inRange => event_reacts (decide_eq_true inRange) rfl
  case followingError =>
    intro axis a inRange found profiled run
    refine event_reacts (decide_eq_true inRange) ?_
    simp only [found]
    exact if_pos (by simp [profiled, run])
  case noCoverage =>
    intro mover m a inRange found axis uncovered
    refine event_reacts (decide_eq_true inRange) ?_
    simp only [found, Option.bind_some, axis]
    exact if_pos uncovered

/-- Settles O51. -/
theorem bindingRows : Obligations.BindingRows := by
  unfold Obligations.BindingRows
  rintro s h rfl
  refine ⟨?moveDone, ?stopDropping, ?stopResting, ?deferredBind, ?deferredUnbind, ?deferredRelease, ?bindingInForce,
    ?bindTimeout, ?brakeStuck, ?holdDwellExpired, ?stopOvertime, ?dropToBelay, ?dropToDisabled⟩
  case moveDone =>
    rintro axis a k inRange found profiled moving planned ended inPos rfl
    refine event_reacts (decide_eq_true inRange) ?_
    simp only [found]
    exact if_pos (by simp [profiled, moving, planned, ended, inPos])
  case stopDropping =>
    rintro axis a k inRange found profiled stops ended resting kept rfl
    refine event_reacts (decide_eq_true inRange) ?_
    simp only [found]
    rcases stops with fault | ⟨stopping, after⟩
    · exact (if_pos (by simp [profiled, fault, ended, resting, kept])).trans (if_pos (by simp [fault]))
    · exact (if_pos (by simp [profiled, stopping, ended, resting, kept])).trans
        (if_pos (by rcases after with off | belayed <;> simp [*]))
  case stopResting =>
    rintro axis a k j inRange found profiled stopping after ended resting kept rfl rfl
    refine event_reacts (decide_eq_true inRange) ?_
    simp only [found]
    exact (if_pos (by simp [profiled, stopping, ended, resting, kept])).trans
      (if_neg (by rcases after with rest | rescued <;> simp [*]))
  case deferredBind =>
    intro axis d rest inRange taken bind
    refine event_reacts (decide_eq_true inRange) ?_
    simp only [taken]
    exact if_pos bind
  case deferredUnbind =>
    intro axis d rest inRange taken release
    refine event_reacts (decide_eq_true inRange) ?_
    simp only [taken]
    exact if_neg (ne_true_of_eq_false release)
  case deferredRelease =>
    intro axis d a inRange deferred found uncovered settled bound runEnd
    refine event_reacts (decide_eq_true inRange) ?_
    simp only [deferred, found]
    exact if_pos (by simp [uncovered, settled, bound, runEnd])
  case bindingInForce =>
    intro axis b inRange found
    refine event_reacts (decide_eq_true inRange) ?_
    simp only [Head.bindInForce, found]
  case bindTimeout =>
    intro axis a inRange found epochNew epochCycle upEpoch bindTimedOut
    refine event_reacts (decide_eq_true inRange) ?_
    simp only [found]
    exact if_pos (by simp [epochNew, epochCycle, upEpoch, bindTimedOut])
  case brakeStuck =>
    intro axis a inRange found brakeWait brakesOff
    refine event_reacts (decide_eq_true inRange) ?_
    simp only [found]
    exact if_pos (by simp [brakeWait, brakesOff])
  case holdDwellExpired =>
    intro axis a inRange found dwellEnd move
    refine event_reacts (decide_eq_true inRange) ?_
    simp only [found]
    exact if_pos (by simp [dwellEnd, move])
  case stopOvertime =>
    intro axis a inRange found move dropAt ends
    refine event_reacts (decide_eq_true inRange) ?_
    simp only [found, dropAt]
    exact if_pos (by simp [move, ends])
  case dropToBelay =>
    intro axis a inRange found due belayed
    refine event_reacts (decide_eq_true inRange) ?_
    simp only [found]
    exact (if_pos due).trans (if_pos (by simpa using belayed))
  case dropToDisabled =>
    intro axis a inRange found due noFault noBelay
    refine event_reacts (decide_eq_true inRange) ?_
    simp only [found]
    exact (if_pos due).trans (if_neg (by simp [noFault, noBelay]))

end Sys2Proof.Machine
end

section
/-! PROOF. The events of faults, field inputs and outputs, supply, time, encoders, steppers, the pair and security
(O52-O60): an event on an object that exists ends in its effect, whose guards the hypotheses of the clause decide. -/
namespace Sys2Proof.Machine

/-- Settles O52. -/
theorem faultRows : Obligations.FaultRows := by
  unfold Obligations.FaultRows
  rintro s h rfl
  refine ⟨?firstFaultDecision, ?plainFault, ?copyFault, ?correctedFault, ?dieLinkLost, ?bothHigh, ?lowHeld, ?lowNew,
    ?lowRanges, ?safeDiscrepancy, ?ballsWrong, ?ballsRight, ?kickSend, ?kickLapsed, ?aliveToggle⟩
  case firstFaultDecision =>
    rintro k r rs others mask rfl none rfl first rfl rfl
    refine event_reacts rfl ?_
    simp only [none, first]
  case plainFault =>
    intro source code sources codes running there present uncorrected notCopy
    refine event_reacts (by simp [sources, codes]) ((if_pos (by rw [running, there, present]; rfl)).trans ?_)
    simp only [uncorrected, notCopy, Bool.false_eq_true, if_false]
  case copyFault =>
    intro r inRange running there present
    refine event_reacts (by simp; omega) ((if_pos (by rw [running, there, present]; rfl)).trans ?_)
    have range : (0x2000 + r) / 4096 = 2 := by omega
    have number : (0x2000 + r) % 4096 = r := by omega
    simp only [range, number]
    rfl
  case correctedFault =>
    intro source code sources codes running there present corrected
    refine event_reacts (by simp [sources, codes]) ((if_pos (by rw [running, there, present]; rfl)).trans ?_)
    have notCopy : ¬ (source / 4096 = 2 ∧ code = 2) := by simp at corrected; omega
    simp only [corrected, if_true]
    rw [if_neg (by simpa using notCopy)]
  case dieLinkLost => exact fun dieLinkOk fromBoot => event_reacts rfl (if_pos (by simp [dieLinkOk, fromBoot]))
  case bothHigh => exact fun running => event_reacts rfl (if_neg (by simp [running]))
  case lowHeld =>
    intro a b running low every held latched
    refine event_reacts rfl ((if_neg (by simp [running])).trans
      ((if_neg (ne_true_of_eq_false low)).trans ((if_pos every).trans (if_neg ?_))))
    rw [held]
    exact ne_true_of_eq_false (congrArg not latched)
  case lowNew =>
    intro a b running low every begins
    refine event_reacts rfl ((if_neg (by simp [running])).trans
      ((if_neg (ne_true_of_eq_false low)).trans ((if_pos every).trans (if_pos ?_))))
    rcases begins with held | new
    · rw [held]; rfl
    · exact (congrArg (_ || ·) (congrArg not new)).trans (Bool.or_true _)
  case lowRanges =>
    intro a b running low some
    exact event_reacts rfl ((if_neg (by simp [running])).trans
      ((if_neg (ne_true_of_eq_false low)).trans (if_neg some)))
  case safeDiscrepancy =>
    exact fun fromBoot discrepancyMs => event_reacts rfl (if_pos (by simp [fromBoot, discrepancyMs]))
  case ballsWrong =>
    intro balls inRange running wrong
    exact event_reacts (decide_eq_true inRange) ((if_neg (by simp [running])).trans (if_neg wrong))
  case ballsRight => exact fun running => event_reacts rfl (if_neg (by simp [running]))
  case kickSend =>
    intro fromCommission mode kickArmed hasS4
    exact event_reacts rfl (if_pos (by simp [fromCommission, mode, kickArmed, hasS4]))
  case kickLapsed => exact fun kickArmed kickTimeout => event_reacts rfl (if_pos (by simp [kickArmed, kickTimeout]))
  case aliveToggle => exact fun aliveRun => event_reacts rfl (if_pos (by simp [aliveRun]))

/-- Settles O53. -/
theorem fieldRows : Obligations.FieldRows := by
  unfold Obligations.FieldRows
  rintro s h rfl
  refine ⟨?fieldInputSnapshot, ?fieldInputReversed, ?fieldInputReversedEnd, ?fieldInputOpen, ?fieldInputOpenEnd,
    ?fieldOutputShort, ?stillShort, ?shortGone, ?openLoadGone, ?openLoad, ?pinParkEnd, ?ppsOut, ?ppsInEdge⟩
  case fieldInputSnapshot =>
    rintro levels time g k j inRange running link ga ka ja
    refine event_reacts (decide_eq_true inRange) ((if_neg (by simp [running, link])).trans ?_)
    rw [← ja, ← ka, ← ga]
  case fieldInputReversed =>
    intro input inRange fromBoot reversed
    exact event_reacts (decide_eq_true inRange) (if_neg (by simp [fromBoot, reversed]))
  case fieldInputReversedEnd => exact fun input inRange => event_reacts (decide_eq_true inRange) rfl
  case fieldInputOpen =>
    intro input inRange fromBoot openDetect isOpen
    exact event_reacts (decide_eq_true inRange) (if_neg (by simp [fromBoot, openDetect, isOpen]))
  case fieldInputOpenEnd => exact fun input inRange => event_reacts (decide_eq_true inRange) rfl
  case fieldOutputShort =>
    exact fun output inRange on => event_reacts (decide_eq_true inRange) (if_neg (by simp [on]))
  case stillShort =>
    exact fun output inRange short retry due => event_reacts (decide_eq_true inRange) (if_neg (by simp [short, retry, due]))
  case shortGone =>
    exact fun output inRange short retry due => event_reacts (decide_eq_true inRange) (if_neg (by simp [short, retry, due]))
  case openLoadGone => exact fun output inRange => event_reacts (decide_eq_true inRange) rfl
  case openLoad =>
    intro output inRange running new on
    exact event_reacts (decide_eq_true inRange) ((if_neg (by simp)).trans (if_neg (by simp [running, new, on])))
  case pinParkEnd => exact fun pin inRange parked => event_reacts (decide_eq_true inRange) (if_pos (by simp [parked]))
  case ppsOut =>
    rintro level rfl ppsOut
    exact event_reacts rfl (if_neg (by simp [ppsOut]))
  case ppsInEdge => exact fun time fromBoot => event_reacts rfl (if_pos (by simp [fromBoot]))

/-- Settles O54. -/
theorem supplyRows : Obligations.SupplyRows := by
  unfold Obligations.SupplyRows
  rintro s h rfl
  refine ⟨?vinStop, ?vinOvervoltage, ?vinOvervoltageEnd, ?vinLow, ?vinLowEnd, ?railFault, ?railLost, ?referenceLost,
    ?pllLockLost, ?pllLocked, ?ddrFspChangeDone, ?droopCrossing, ?droopToFirst, ?droopToNone, ?thermalLimit,
    ?thermalShutdown, ?pfdShutdownClear, ?pfdLimitClear, ?ldShutdownClear, ?ldLimitClear, ?brownOutDetect, ?rtcTick⟩
  case vinStop =>
    intro vin on lost
    refine event_reacts rfl (if_neg ?_)
    rcases lost with low | opened
    · simp [on, low]
    · simp [on, opened]
  case vinOvervoltage => exact fun vin mode level => event_reacts rfl (if_pos (by simp [mode, level]))
  case vinOvervoltageEnd =>
    exact fun vin inputOpen inRange => event_reacts rfl (if_pos (by simp [inputOpen, inRange]))
  case vinLow => exact fun vin mode level => event_reacts rfl (if_pos (by simp [mode, level]))
  case vinLowEnd => exact fun vin mode vinLowLevel => event_reacts rfl (if_pos (by simp [mode, vinLowLevel]))
  case railFault =>
    exact fun rail inRange fromBoot => event_reacts (decide_eq_true inRange) (if_pos (by simp [fromBoot]))
  case railLost => exact fun mode railsGood => event_reacts rfl (if_pos (by simp [mode, railsGood]))
  case referenceLost => exact fun mode => event_reacts rfl (if_pos (by simp [mode]))
  case pllLockLost =>
    intro c trip inRange fromBoot lock
    exact event_reacts (decide_eq_true inRange) (if_pos (by simp [fromBoot, lock]))
  case pllLocked =>
    intro c inRange running unlocked tries wanted steady
    refine event_reacts (decide_eq_true inRange) (if_pos ?_)
    by_cases ddr : c = 2
    · simp [running, unlocked, tries, wanted, steady ddr]
    · simp [running, unlocked, tries, wanted, ddr]
  case ddrFspChangeDone =>
    intro a rest fspChange
    refine event_reacts rfl ?_
    simp only [fspChange]
  case droopCrossing =>
    intro domain level inRange least most running below
    exact event_reacts (by simp [inRange, least, most]) (if_pos (by rw [running, decide_eq_true below]; rfl))
  case droopToFirst =>
    intro domain inRange level
    refine event_reacts (decide_eq_true inRange) ?_
    simp only [level]
  case droopToNone =>
    intro domain inRange level
    refine event_reacts (decide_eq_true inRange) ?_
    simp only [level]
  case thermalLimit => exact fun pfd mode => event_reacts rfl (if_neg (by simp [mode]))
  case thermalShutdown => exact fun pfd mode => event_reacts rfl (if_neg (by simp [mode]))
  case pfdShutdownClear => exact event_reacts rfl rfl
  case pfdLimitClear => exact event_reacts rfl rfl
  case ldShutdownClear => exact event_reacts rfl rfl
  case ldLimitClear => exact event_reacts rfl rfl
  case brownOutDetect => exact event_reacts rfl rfl
  case rtcTick => exact event_reacts rfl rfl

/-- Settles O55. -/
theorem timeRows : Obligations.TimeRows := by
  unfold Obligations.TimeRows
  rintro s h rfl
  refine ⟨?ptpMessageRx, ?timeStepped, ?servoHoldover, ?stampKept, ?stampDropped, ?saddleDelayMeasure,
    ?generalTriggerFire, ?calendarComparatorFire⟩
  case ptpMessageRx =>
    intro port message stamp x j exchange inRange up header domain annex taken
    refine event_reacts (decide_eq_true inRange) ((if_neg (by simp [up])).trans ?_)
    simp only [header]
    refine (if_neg (by simp [domain, annex])).trans ?_
    rw [taken] <;> rfl
  case timeStepped =>
    intro d due opened reached
    refine event_reacts rfl ?_
    simp only [due]
    exact if_neg (by simp [opened, reached])
  case servoHoldover =>
    intro served silent
    exact event_reacts rfl (if_pos (by simp [served, silent]))
  case stampKept =>
    intro port identifier stamp inRange up room
    exact event_reacts (decide_eq_true inRange) ((if_neg (by simp [up])).trans (if_neg (by omega)))
  case stampDropped =>
    intro port identifier stamp inRange up full new
    exact event_reacts (decide_eq_true inRange)
      ((if_neg (by simp [up])).trans ((if_pos full).trans (if_neg (ne_true_of_eq_false new))))
  case saddleDelayMeasure => exact fun roundTrip role saddleUp => event_reacts rfl (if_pos (by simp [role, saddleUp]))
  case generalTriggerFire =>
    rintro trigger next t inRange armed rfl due
    refine event_reacts (decide_eq_true inRange) ?_
    simp only [armed, Head.fireTrigger, Option.any_some]
    exact if_neg (by simp; omega)
  case calendarComparatorFire =>
    intro entry c inRange found
    refine event_reacts (decide_eq_true inRange) ?_
    simp only [found]

/-- An edge held for the filter's time counts. -/
theorem filter_counts {c : ChannelCfg} {n : Nat} (held : c.filter ≤ n) : c.counts n = true := decide_eq_true held

/-- Settles O57. -/
theorem encoderRows : Obligations.EncoderRows := by
  unfold Obligations.EncoderRows
  rintro s h rfl
  refine ⟨?settlingDone, ?positionLost, ?axisSuspect, ?channelSuspect, ?sensorReadmitted, ?quadratureEdge,
    ?quadErrorPosted, ?quadErrorCounted, ?indexSteady, ?indexDrifted, ?directionPosted, ?directionChanged,
    ?hallStep, ?hallNone, ?ssiReading, ?ssiFrameError, ?ssiFrameMissing, ?ssiFrameAbort, ?resynced⟩
  case settlingDone => exact fun observer number => event_reacts number rfl
  case positionLost =>
    rintro observer o k there found late fixed rfl
    refine event_reacts there ?_
    simp only [found]
    exact if_pos (by simp [late, fixed])
  case axisSuspect =>
    intro source number counted rejected axis
    exact event_reacts number ((if_pos (by simp [counted, rejected])).trans (if_pos axis))
  case channelSuspect =>
    intro source number counted rejected channel
    exact event_reacts number ((if_pos (by simp [counted, rejected])).trans (if_neg (by omega)))
  case sensorReadmitted =>
    intro source number excluded accepted
    exact event_reacts (by simp [number]) (if_pos (by simp [excluded, accepted]))
  case quadratureEdge =>
    intro channel positive inRange mode held
    exact event_reacts (decide_eq_true inRange) (if_pos (by simp [mode, filter_counts held]))
  case quadErrorPosted =>
    intro channel stable inRange mode held far
    exact event_reacts (decide_eq_true inRange) ((if_neg (by simp [mode, filter_counts held])).trans (if_pos far))
  case quadErrorCounted =>
    intro channel stable inRange mode held near
    exact event_reacts (decide_eq_true inRange)
      ((if_neg (by simp [mode, filter_counts held])).trans (if_neg (ne_true_of_eq_false near)))
  case indexSteady =>
    rintro channel time gated f inRange rfl mode held gate steady
    exact event_reacts (decide_eq_true inRange)
      ((if_neg (by simpa [mode, filter_counts held] using gate)).trans (if_neg (ne_true_of_eq_false steady)))
  case indexDrifted =>
    rintro channel time gated f inRange rfl mode held gate drifts
    exact event_reacts (decide_eq_true inRange)
      ((if_neg (by simpa [mode, filter_counts held] using gate)).trans (if_pos drifts))
  case directionPosted =>
    rintro channel f inRange rfl run least new
    exact event_reacts (decide_eq_true inRange) ((if_pos (by simp [run, least])).trans (if_neg (ne_true_of_eq_false new)))
  case directionChanged =>
    rintro channel f inRange rfl run least known
    exact event_reacts (decide_eq_true inRange) ((if_pos (by simp [run, least])).trans (if_pos known))
  case hallStep =>
    rintro channel code new old k inRange mode held sector last rfl
    refine event_reacts (decide_eq_true inRange) ((if_neg (by simp [mode, filter_counts held])).trans ?_)
    simp only [sector, last] <;> rfl
  case hallNone =>
    intro channel code inRange mode held none
    refine event_reacts (decide_eq_true inRange) ((if_neg (by simp [mode, filter_counts held])).trans ?_)
    simp only [none]
  case ssiReading =>
    rintro channel frame f k inRange rfl mode busy rfl content
    exact event_reacts (decide_eq_true inRange) ((if_neg (by simp [mode, busy])).trans
      ((if_neg (by simp)).trans ((if_neg (by simp)).trans (if_neg (by simp [content])))))
  case ssiFrameError =>
    rintro channel frame f k inRange rfl mode busy rfl content
    exact event_reacts (decide_eq_true inRange) ((if_neg (by simp [mode, busy])).trans
      ((if_neg (by simp)).trans ((if_neg (by simp)).trans (if_pos (by simp [content])))))
  case ssiFrameMissing =>
    rintro channel frame extra k inRange mode busy rfl
    exact event_reacts (decide_eq_true inRange) (if_neg (by simp [mode, busy]))
  case ssiFrameAbort =>
    rintro channel frame f k inRange rfl mode busy rfl
    exact event_reacts (decide_eq_true inRange) (if_neg (by simp [mode, busy]))
  case resynced =>
    rintro channel f inRange rfl resync count
    exact event_reacts (decide_eq_true inRange) (if_pos (by rw [resync, decide_eq_true count]; rfl))

/-- Settles O58. -/
theorem stepperRows : Obligations.StepperRows := by
  unfold Obligations.StepperRows
  rintro s h rfl
  refine ⟨?latchRemote, ?latchLocal, ?faultNoAxis, ?faultEnds, ?faultAxis, ?stall, ?stepperDone, ?stepperStopDone,
    ?upperLimit, ?lowerLimit, ?homed, ?homingFailed, ?chatterMoving, ?chatterHoming⟩
  case latchRemote =>
    rintro axis a g t e shift inRange found homing latched remote rfl rfl
    refine event_reacts (decide_eq_true inRange) ?_
    simp [found, homing, latched, remote] <;> rfl
  case latchLocal =>
    rintro axis a g t e shift inRange found homing latched here rfl rfl
    refine event_reacts (decide_eq_true inRange) ?_
    simp [found, homing, latched, here] <;> rfl
  case faultNoAxis =>
    intro channel inRange none
    refine event_reacts (decide_eq_true inRange) ?_
    simp only [none]
    rfl
  case faultEnds => exact fun channel inRange => event_reacts (decide_eq_true inRange) rfl
  case faultAxis =>
    rintro channel a k inRange rfl found
    refine event_reacts (decide_eq_true inRange) ((if_neg (by simp)).trans ?_)
    simp only [if_true, found]
  case stall =>
    intro axis a inRange found kind encoder stallCycles
    refine event_reacts (decide_eq_true inRange) ?_
    simp only [found]
    exact if_pos (by simp [kind, encoder, stallCycles])
  case stepperDone =>
    rintro axis a k inRange found kind state group ends rfl
    refine event_reacts (decide_eq_true inRange) ?_
    simp only [Head.members, Head.restSteps, found]
    exact if_pos (by simp [kind, state, group, ends])
  case stepperStopDone =>
    intro axis a inRange found kind state ends
    refine event_reacts (decide_eq_true inRange) ?_
    simp only [found]
    exact if_pos (by simp [kind, state, ends])
  case upperLimit =>
    intro axis a inRange found stepper moves up input
    refine event_reacts (decide_eq_true inRange) ?_
    simp only [found]
    exact if_pos (by simp [stepper, moves, up, input])
  case lowerLimit =>
    intro axis a inRange found stepper moves down input
    refine event_reacts (decide_eq_true inRange) ?_
    simp only [found]
    exact if_pos (by simp [stepper, moves, down, input])
  case homed =>
    rintro axis a k inRange found phase ends rfl
    refine event_reacts (decide_eq_true inRange) ?_
    simp only [found]
    exact if_pos (by simp [phase, ends])
  case homingFailed =>
    intro axis a inRange found homingFails
    refine event_reacts (decide_eq_true inRange) ?_
    simp only [found]
    exact if_pos (by simp [homingFails])
  case chatterMoving =>
    rintro input a b k inRange found chatters new rfl still moving
    refine event_reacts (decide_eq_true inRange) ?_
    simp only [found]
    refine (if_neg (by simp [chatters, new])).trans ?_
    simp only [still, moving]
  case chatterHoming =>
    rintro input a b g k inRange found chatters new rfl still homing
    refine event_reacts (decide_eq_true inRange) ?_
    simp only [found]
    refine (if_neg (by simp [chatters, new])).trans ?_
    simp only [still, homing]

/-- Settles O59. -/
theorem peerRows : Obligations.PeerRows := by
  unfold Obligations.PeerRows
  rintro s h rfl
  refine ⟨?deposed, ?missingQuiet, ?heartbeatRx, ?missingTakeover, ?missingReported, ?standbySection, ?activeReport,
    ?settingRx, ?giveUp, ?takeNetwork⟩
  case deposed =>
    intro j k commands lost finished raised
    refine event_reacts rfl ((if_neg (by simp [commands]; omega)).trans ?_)
    simp only [finished]
    dsimp only at raised
    rw [raised]
  case missingQuiet =>
    rintro g k role silent once rfl rfl stays known
    refine event_reacts rfl ((if_neg (by rcases role with standby | active <;> simp [*])).trans
      ((if_neg (ne_true_of_eq_false stays)).trans (if_neg ?_)))
    rcases known with few | posted
    · simp [few]
    · simp [posted]
  case heartbeatRx =>
    intro bytes saddleUp fromBoot heard whole heartbeatInTime
    exact event_reacts rfl (if_pos (by simp [saddleUp, fromBoot, heard, whole, heartbeatInTime]))
  case missingTakeover =>
    rintro g k role silent once rfl rfl takes
    exact event_reacts rfl ((if_neg (by rcases role with standby | active <;> simp [*])).trans (if_pos takes))
  case missingReported =>
    rintro g k role silent once rfl rfl stays many new
    exact event_reacts rfl ((if_neg (by rcases role with standby | active <;> simp [*])).trans
      ((if_neg (ne_true_of_eq_false stays)).trans (if_pos (by simp [many, new]))))
  case standbySection =>
    intro bytes kind count first body k role up read taken
    refine event_reacts rfl ((if_neg (by simp [up])).trans ?_)
    simp only [read]
    refine (if_neg (by simp [role])).trans ((if_neg (by simp [role])).trans ?_)
    simp only [taken]
  case activeReport =>
    intro bytes body role up read length
    refine event_reacts rfl ((if_neg (by simp [up])).trans ?_)
    simp only [read]
    exact (if_pos role).trans (if_pos (by simp [length]))
  case settingRx =>
    intro bytes body x role up read setting
    refine event_reacts rfl ((if_neg (by simp [role, up])).trans ?_)
    simp only [read, setting]
  case giveUp =>
    intro r role grant due
    refine event_reacts rfl ?_
    simp only [role, grant]
    exact if_pos due
  case takeNetwork =>
    intro role asked granted due
    refine event_reacts rfl ?_
    simp only [role]
    exact if_pos (by simp [asked, granted, due])

/-- Settles O60. -/
theorem securityRows : Obligations.SecurityRows := by
  unfold Obligations.SecurityRows
  rintro s h rfl
  refine ⟨?sessionIdleTimeout, ?debugSessionExpiry, ?moduleLoadTimeout, ?imageTransferTimeout, ?debugHalt,
    ?debugStep, ?debugResume, ?jtagIdcode, ?jtagBypass, ?jtagExtest, ?jtagSamplePreload, ?jtagIntest, ?jtagClamp⟩
  case sessionIdleTimeout =>
    intro session x least most opened idle
    refine event_reacts (by simp [least, most]) (if_pos ?_)
    rw [opened, Option.any_some]
    exact decide_eq_true idle
  case debugSessionExpiry =>
    intro d t opened ends due
    exact event_reacts rfl (if_pos (by simp [opened, ends, due]))
  case moduleLoadTimeout =>
    intro l loading due
    refine event_reacts rfl (if_pos ?_)
    rw [loading, Option.any_some]
    exact decide_eq_true due
  case imageTransferTimeout =>
    intro t transfer due
    refine event_reacts rfl (if_pos ?_)
    rw [transfer, Option.any_some]
    exact decide_eq_true due
  case debugHalt =>
    intro kind tile core c named may
    refine event_reacts (by rw [named]; rfl) ?_
    simp only [named, may, if_true]
  case debugStep =>
    intro kind tile core c named running level halted
    refine event_reacts (by rw [named]; rfl) ?_
    simp only [named]
    exact if_pos (by rw [running, level, halted]; rfl)
  case debugResume =>
    intro kind tile core c named running level
    refine event_reacts (by rw [named]; rfl) ?_
    simp only [named]
    exact if_pos (by rw [running, level]; rfl)
  case jtagIdcode => exact fun powered => event_reacts rfl (if_pos powered)
  case jtagBypass => exact fun powered => event_reacts rfl (if_pos powered)
  case jtagExtest => exact fun chain => event_reacts rfl rfl
  case jtagSamplePreload => exact fun balls chain => event_reacts rfl rfl
  case jtagIntest => exact fun chain => event_reacts rfl rfl
  case jtagClamp => exact event_reacts rfl rfl

end Sys2Proof.Machine
end
